-- ==== Sys2Proof/Word.lean ====
section
/-! DEFINITION. The word types of the PX1500 model. Byte strings are lists of bytes; every multi-byte
field is little-endian (R11), read and built in Machine/Bytes.lean. -/

namespace Sys2Proof

/-- One byte (00 R8 to R11). -/
abbrev Byte := BitVec 8

/-- A 32-bit register word (18 R646). -/
abbrev Word := BitVec 32

/-- A byte string: keys, values, descriptors, records. -/
abbrev Bytes := List Byte

end Sys2Proof
end

