-- ==== Sys2Proof/Syntax.lean ====
section
/-! DEFINITION. The commands and events of the PX1500: one constructor of `Instr` for each row of
spec/opcode_table.json, in the table's order, with what the row's sender supplies as its operands.
A fetched command is named by its held-descriptor reference (`ref`, OWNER_REF of Table 10.10). What
the module reads from outside during a row (an RDMA READ response, a sensor, a peer's answer) is an
operand of that row, because the module reads it once (R157). -/

namespace Sys2Proof

/-- The two Front chips (Table 0.4). -/
inductive Front where
  | a | b
  deriving DecidableEq, Repr

/-- The answer to an RDMA READ of host memory: its bytes, or a remote access error (R148). -/
inductive HostRead where
  | data (bs : Bytes)
  | accessError
  deriving DecidableEq, Repr

/-- The answer to an RDMA WRITE into host memory (R148). -/
inductive HostWrite where
  | acked
  | accessError
  deriving DecidableEq, Repr

/-- The access paths to the Setup Register Space (Table 18.2). -/
inductive Path where
  | i3c
  | usb
  | inband (sid : Nat)
  deriving DecidableEq, Repr

/-- Operating modes, in the encoding order of Table 18.4. -/
inductive Mode where
  | commission | solo | primary | mirror | eclipse | custody | service
  deriving DecidableEq, Repr

/-- Units that wake, trip or fail (Table 2.7, Table 16.6). -/
inductive UnitId where
  | moon (m : Nat)
  | front (f : Front)
  | vault
  | mgmt
  | time
  deriving DecidableEq, Repr

/-- The staged groups of the Setup Register Space (Table 18.15 and its users). -/
inductive StageGroup where
  | hostPort (n : Nat)
  | logicalPort (l : Nat)
  | bootstrap
  deriving DecidableEq, Repr

/-- A connection request as it arrives (03 R91). `service` says that it names a pair service
address (15 R557), `addr` which address of that set: 0 IPv4, 1 IPv6_A, 2 IPv6_B (18 Table 18.18). -/
structure ConnReq where
  mtu       : Nat
  reliable  : Bool
  serviceId : Nat
  lport     : Nat
  hostQpn   : Nat
  service   : Bool
  addr      : Nat
  deriving DecidableEq, Repr

/-- What the module read at step 8 of R184 for one command: the indirect key, the end key, the scatter
list, the batch array or the parameter block, with the range keys it names. -/
structure HostAreas where
  key    : HostRead
  endKey : HostRead
  sgl    : HostRead
  block  : HostRead
  low    : HostRead
  high   : HostRead
  subs   : List (HostRead × HostRead)   -- per sub-operation: indirect key, scatter list
  deriving DecidableEq, Repr

/-- How the page reads of a value ended (08 R339 to R341): every byte read directly, a page after `times` further reads, some
rebuilt from stripe parity, or the part of `len` bytes at offset `off` of the value neither read nor rebuilt (05 R205). -/
inductive PageOutcome where
  | direct | degraded
  | retried (times : Nat)
  | lost (off len : Nat)
  deriving DecidableEq, Repr

/-- One block of flash inside the module: moon, die, block number (08 Table 8.1; never visible to
software, R4). -/
structure BlockId where
  moon  : Nat
  die   : Nat
  block : Nat
  deriving DecidableEq, Repr

/-- Data whose age a refresh looks at: a band, or an SLC block by itself (09 R375). -/
inductive AgedData where
  | band (num : Nat)
  | slc (b : BlockId)
  deriving DecidableEq, Repr

/-- The data page of a stripe that a moon writes: the next page of an object, or a map page (08 R332, R347). -/
inductive StripeFill where
  | object (obj : Nat)
  | mapPage (moon page : Nat)
  deriving DecidableEq, Repr

/-- What the witness answered to an RDMA READ or a compare-and-swap (15 R562). -/
inductive WitnessAnswer where
  | value (w : Nat)       -- the 64-bit word found (a swap succeeded when it is the expected one)
  | unreachable
  deriving DecidableEq, Repr

/-- What the joining partner states on the pair links when FORM is executed (15 R560). -/
structure PartnerInfo where
  joinPending : Bool
  version     : Nat
  serial      : Bytes
  kcvs        : List (Nat × Bytes)   -- its LOADED slots with their KCVs
  deriving DecidableEq, Repr

/-- A pair frame header with the body fields the manual defines (Table 15.4, Table 15.5). -/
structure PairFrame where
  version  : Nat
  epoch    : Nat
  moduleId : Nat
  member   : Nat
  role     : Nat
  seq      : Nat
  deriving DecidableEq, Repr

/-- Body of a HEARTBEAT frame (Table 15.5). -/
structure HeartbeatBody where
  mode     : Nat
  inStep   : Bool
  warming  : Bool
  winZero  : Bool
  highCsn  : Nat
  deriving DecidableEq, Repr

/-- A mutation forwarded by the primary (15 R566): one key's new version with its decision. -/
structure Forwarded where
  csn    : Nat
  nsid   : Nat
  key    : Bytes
  value  : Option Bytes
  digest : Option Bytes
  crcOk  : Bool
  objId  : Nat := 0
  gen    : Nat := 1
  object : Bool := false
  deriving DecidableEq, Repr

/-- A ring of a carried session as the partner holds it (15 R557): its parameters (03 Table 3.4), the lowest descriptor
count without a completion record, the higher counts that have one, and the count of its completions. -/
structure CarriedRing where
  idx      : Nat
  sqBase   : Nat
  cqBase   : Nat
  dbAddr   : Nat
  rkey     : Nat
  sqLog2   : Nat
  cqLog2   : Nat
  ordered  : Bool
  idleTime : Nat
  event    : Nat
  eventIvl : Nat
  resetSeq : Nat
  next     : Nat
  finished : List Nat
  cqCount  : Nat
  deriving DecidableEq, Repr

/-- A carried session as the partner holds it: its role and its queue-pair context (15 R557). -/
structure CarriedSession where
  handle  : Nat
  qpn     : Nat
  hostQpn : Nat
  lport   : Nat
  addr    : Nat
  role    : Nat
  cred    : Nat
  login   : Bytes                -- its login transcript (03 R99)
  rings   : List CarriedRing
  deriving DecidableEq, Repr

/-- A completion record (15 R569): the 32 bytes, their ring and counts; of a read, the version read, whether
it is a head record that was written, the first byte returned, and where its bytes went (address, remote key, length). -/
structure CompletionRecord where
  ref    : Nat
  handle : Nat := 0
  ring   : Nat := 0
  count  : Nat := 0
  slot   : Nat := 0
  bytes  : Bytes := []
  read   : Option (Nat × Bytes × Nat) := none     -- namespace, key, CSN
  head   : Bool := false
  off    : Nat := 0
  segs   : List (Nat × Nat × Nat) := []
  deriving DecidableEq, Repr

/-- The decision record of a mutation whose completion record is still to come (15 R566, R575): its descriptor, its CSN and
the RESULT it will report. -/
structure DecisionRecord where
  handle : Nat
  ring   : Nat
  count  : Nat
  csn    : Nat
  result : Nat
  keys   : List (Nat × Bytes × Bytes) := []   -- its keys: namespace, key; a range has its end too
  deriving DecidableEq, Repr

/-- A comet of a carried session as the partner holds it (12 R489). -/
structure CarriedComet where
  num      : Nat
  subtype  : Nat
  handle   : Nat
  addr     : Nat
  rkey     : Nat
  bytes    : Nat
  snapshot : Nat
  deriving DecidableEq, Repr

/-- A change of the settings that both members of a pair keep (13 R514, 11 R459, 15 R570, R588): `only` heads the settings of
a primary taken whole (R582) and names what it has; a rule without an index takes the lowest free row. -/
inductive SettingsChange where
  | only (nss creds outs slots : List Nat)
  | nsAdd (nsid quotaBytes quotaObjs suite slot fixity : Nat) (compat : Bool) (created : Nat)
  | nsSet (nsid : Nat) (desc : Bytes)
  | nsGone (nsid : Nat)
  | credAdd (cred role : Nat) (secret : Bytes) (creator : Nat)
  | credSecret (cred : Nat) (secret : Bytes)
  | grant (cred nsid : Nat)
  | revoke (cred nsid : Nat)
  | credGone (cred : Nat)
  | outbound (cred : Nat) (secret : Option Bytes)
  | rule (idx : Option Nat) (nsid : Nat) (nsAny : Bool) (cred : Nat) (credAny : Bool) (roles ops priority : Nat)
      (pre : Bytes) (allow : Bool)
  | ruleGone (idx : Nat)
  | program (slot gen nsid : Nat) (shared : Bool) (image : Bytes)
  | rangeMap (epoch : Nat) (list : Bytes)
  | witness (ip : Bytes) (service rkey addr : Nat)
  deriving DecidableEq, Repr

/-- What the primary forwards over the pair links (15 R566, R569, R570; 12 R489): the new versions of one mutation with
its decision record, and what it keeps besides. -/
inductive PairForward where
  | mutation (decision : DecisionRecord) (keys : List Forwarded)
  | highWater (mark : Nat)
  | objectIds (next : Nat)
  | usage (slot gen used : Nat)
  | session (x : CarriedSession)
  | sessionEnd (handle : Nat)
  | completion (r : CompletionRecord)
  | acknowledged (refs : List Nat)
  | comet (k : CarriedComet)
  | cometEnd (num : Nat)
  | config (ref : Nat) (changes : List SettingsChange)
  deriving DecidableEq, Repr

/-- An operand of a row that may write to its host (a report, a digest), with what becomes of that WRITE (R148). -/
structure Writing (α : Type) where
  what : α
  w    : HostWrite
  deriving DecidableEq, Repr

/-- What the partner reports that it holds: the decision record and value, or the completion record, of a command (15
R568, R569), the bytes of a mutation programmed to SLC twice (R568), or a high-water mark (06 R240). -/
inductive PartnerRecord where
  | command (ref : Nat)
  | media (x : Writing Nat)
  | highWater (mark : Nat)
  deriving DecidableEq, Repr

/-- How the exchange of an extent's page CRCs went when the first one differed (14 R518): the second one agreed; it
differed and one moon's engines reported the fault; it differed and none did. -/
inductive CrcExchange where
  | agreed
  | fault (shadow : Bool)
  | unexplained
  deriving DecidableEq, Repr

/-- What the moons found for one result record of a comet (12 R474 to R481): a version of the store by its key,
with how reading it went (`computed` is the digest its plaintext gave, when it is not that of the stored bytes), or
the outcome of a self-test. -/
inductive ResultBody where
  | version (key : Bytes) (degraded : Bool) (lost : Option (Nat × Nat)) (keyLost sealFail : Bool) (computed : Option Bytes)
  | selfTest (unit test outcome count detail : Nat)
  deriving DecidableEq, Repr

/-- What a start-up step found (02 Table 2.6 and 08 Table 8.7): masks of the moons whose log tail fails its check on the moon,
of those for which it fails on the buddy, and of those without a valid map page; pages whose header does not read as it was
written, with the 64 bytes read (08 R322, R355). -/
structure StartFacts where
  tailBad     : Nat := 0
  buddyBad    : Nat := 0
  noMap       : Nat := 0
  damaged     : List ((BlockId × Nat) × Bytes) := []
  coldestDie  : Int       -- 0.25 degC
  deriving DecidableEq, Repr

/-- eFuse turn-off conditions (Table 20.2). -/
inductive EfuseCond where
  | rampOver | rampLimit | runOver | runLimit | reverse | overvoltage
  deriving DecidableEq, Repr

/-- The temperature sensors (Table 20.7). -/
inductive Sensor where
  | die (moon die : Nat)
  | moon (m i : Nat)
  | front (f : Front) (i : Nat)
  | bank (i : Nat)
  | inlet | outlet
  | ambient (i : Nat)
  deriving DecidableEq, Repr

/-- Islands that throttle and trip (20 R708, Table 20.9). -/
inductive Island where
  | channel (moon idx : Nat)
  | moon (m : Nat)
  | front (f : Front)
  deriving DecidableEq, Repr

/-- A received Ethernet frame, as the checks of Table 17.4 see it. -/
structure RxFrame where
  fcsOk    : Bool
  length   : Nat
  dstMine  : Bool      -- carried address, broadcast or subscribed multicast
  vlan     : Option Nat
  pfc      : Bool
  ether    : Nat
  ipOk     : Bool
  udpClass : Bool      -- check 8: port or protocol of a consumer
  udpSumOk : Bool
  rocev2   : Bool
  icrcOk   : Bool
  bufFree  : Bool      -- 9,216 bytes of receive buffer were free at its start (R635)
  deriving DecidableEq, Repr

/-- Where a frame or a counter belongs: a logical port or a pair link (17 R637). -/
inductive LinkId where
  | port (l : Nat)
  | pair (n : Nat)
  deriving DecidableEq, Repr

/-- PTP messages (17 R641, R642, Table 17.7). -/
inductive PtpBody where
  | sync (offsetNs : Int) (logInterval : Int)
  | announce
  | delayResp (offsetNs : Int)
  | pdelay
  deriving DecidableEq, Repr

/-- A PTP message and its domain. -/
structure PtpMsg where
  domain : Nat
  body   : PtpBody
  deriving DecidableEq, Repr

/-- The shape of a retention sample (09 Table 9.6). -/
inductive SampleClass where
  | clean | finding | undecodable
  deriving DecidableEq, Repr

/-- What a retention sample of a block shows (09 R373, R374): its class, the read retries it needed, and of an undecodable
sample the numbers of the pages of the block that were lost. -/
structure Sample where
  cls     : SampleClass
  retries : Nat
  lost    : List Nat
  deriving DecidableEq, Repr

/-- Causes of block retirement, rows of Table 9.1 from 0. -/
inductive RetireCause where
  | eraseFail | programFail | wornOut | sampleTwice | partLost
  deriving DecidableEq, Repr

/-- What a peer answered for one exported version (12 Table 12.12). -/
structure PeerOutcome where
  status      : Nat
  digestEqual : Bool
  peerCsn     : Nat
  redirectPair : Bool
  deriving DecidableEq, Repr

/-- ASU tables (Table 10.1), in the order of the repair counters of Table 18.11. -/
inductive AsuTable where
  | range | rule | session | lock
  deriving DecidableEq, Repr

/-- How a row of an ASU table was found faulty: by the scrubber, by its PARITY when it matched, by the check of a lookup that
found it, or that missed it (10 R422, R423, R425). -/
inductive AsuCheck where
  | scrub | parity | hit | miss
  deriving DecidableEq, Repr

/-- A row of an ASU table and the bits that were read of it. -/
structure AsuFinding where
  row  : Nat
  bits : Nat
  how  : AsuCheck
  deriving DecidableEq, Repr

/-- What becomes of a frame that the module has built (17 R631, R633): it is sent; the ECC of the transmit buffer finds an
uncorrectable error; its queue is full. -/
inductive TxFate where
  | sent | eccError | queueFull
  deriving DecidableEq, Repr

/-- An operand of a row that may send a frame, with what becomes of that frame. -/
structure Sending (α : Type) where
  what : α
  tx   : TxFate
  deriving DecidableEq, Repr

/-- An extent by its place in a list: of a command, or, once that has completed, of its charge; of an object session. -/
inductive ExtentRef where
  | ofCommand (index : Nat)
  | ofObject (handle index : Nat)
  deriving DecidableEq, Repr

/-- Both SLC copies of an extent are programmed (07 R295): how the exchange of its page CRCs went where they differed at first
(14 R518), the other records that its pack page holds (08 R323), and what becomes of the digest WRITES of the mutations that
complete with them. -/
structure SlcProgram where
  ref    : Nat
  extent : ExtentRef
  crc    : Option CrcExchange
  beside : List (Writing (Nat × ExtentRef))
  w      : HostWrite
  deriving DecidableEq, Repr

/-- A flush shortfall (07 R314): the CSNs that the log tail records, and the voltage of each hold-up string then, in mV. -/
structure Shortfall where
  csns  : List Nat
  volts : List Nat
  deriving DecidableEq, Repr

/-- What becomes of the report of a reset (03 R148), and of the reports of the resets of that ring that waited for it (R145). -/
structure ResetWrites where
  w     : HostWrite
  later : List HostWrite
  deriving DecidableEq, Repr

/-- A power island of a unit (16 Table 16.7, ISLAND_WAKE_FAIL). -/
structure IslandOf where
  unit   : UnitId
  island : Nat
  deriving DecidableEq, Repr

/-- The loss of a Front: its cause (16 Table 16.7), and the completions, by session and slot address, that the Front had
written and its hosts had not acknowledged (06 R276). -/
structure FrontLoss where
  cause   : Nat
  unacked : List (Nat × Nat)
  deriving DecidableEq, Repr

/-- A reading at a trip point, and, where the island is a Front's, the completions not acknowledged (06 R276). -/
structure TripReading where
  reading : Int
  unacked : List (Nat × Nat)
  deriving DecidableEq, Repr

/-- A DRAM channel; whether an access was uncorrectable with no device declared failed (16 R601); and, where its owner is a
Front that fails with it, the completions not acknowledged (06 R276). -/
structure DramChannel where
  channel : Nat
  uncorrected : Bool
  unacked : List (Nat × Nat)
  deriving DecidableEq, Repr

/-- The two ends of a pair cable (01 R22): the module's own link, and the partner's link that its HELLO names. -/
structure PairCable where
  near : Nat
  far  : Nat
  deriving DecidableEq, Repr

/-- What SWAP_DONE says besides EPOCH and the witness word (15 R581): whether the swap answers the oldest SWAP this member
forwarded, and the SWAP of a carried session that asked for it. -/
structure SwapRecord where
  mine  : Bool
  asked : Option DecisionRecord
  deriving DecidableEq, Repr

/-- The commands and events of the module: the rows of spec/opcode_table.json. -/
inductive Instr where
  -- data commands (04 Table 4.5, 05)
  | kvGet (ref : Nat)
  | kvPut (ref : Nat)
  | kvDelete (ref : Nat)
  | kvCas (ref : Nat)
  | kvHead (ref : Nat) (w : HostWrite)
  | kvBatch (ref : Nat)
  | kvObjBegin (ref : Nat)
  | kvObjAppend (ref : Nat)
  | kvObjSeal (ref : Nat)
  | kvDeleteRange (ref : Nat)
  | unknownOpcode (ref : Nat)
  -- comets (12)
  | cometScan (ref : Nat)
  | cometSearch (ref : Nat)
  | cometFixityAudit (ref : Nat)
  | cometShortSelfTest (ref : Nat)
  | cometExtendedSelfTest (ref : Nat)
  | cometNamespaceExport (ref : Nat)
  -- login and rings (03, 04)
  | admLoginBegin (ref : Nat) (w : HostWrite)
  | admLoginProve (ref : Nat)
  | admRingCreate (ref : Nat)
  | admRingDestroy (ref : Nat)
  | admRingReset (x : Writing Nat)
  | admRingStart (ref : Nat)
  | admRingResize (ref : Nat)
  | admRingQuery (ref : Nat) (w : HostWrite)
  -- namespaces, credentials, rules (13)
  | admNsCreate (ref : Nat)
  | admNsSet (ref : Nat)
  | admNsDelete (ref : Nat)
  | admNsQuery (ref : Nat) (w : HostWrite)
  | credentialCreate (ref : Nat) (r : HostRead)
  | credentialSetSecret (ref : Nat) (r : HostRead)
  | credentialGrant (ref : Nat)
  | credentialRevoke (ref : Nat)
  | credentialDelete (ref : Nat)
  | credentialOutboundSet (ref : Nat) (r : HostRead)
  | credentialOutboundDelete (ref : Nat)
  | ruleAdd (ref : Nat)
  | ruleRemove (ref : Nat)
  | ruleEvaluate (ref : Nat) (w : HostWrite)
  -- key slots, programs (14, 11)
  | keyslotImport (ref : Nat) (r : HostRead)
  | keyslotErase (ref : Nat)
  | keyslotSetLimit (ref : Nat)
  | keyslotQuery (ref : Nat) (w : HostWrite)
  | admProgramLoad (ref : Nat)
  | programUnload (ref : Nat)
  | programLoadTurn (slot : Nat) (r : HostRead)
  -- pairs and Range Map (15)
  | pairForm (ref : Nat) (partner : PartnerInfo) (read : WitnessAnswer) (cas : WitnessAnswer)
  | pairJoin (ref : Nat)
  | pairSwap (ref : Nat) (cas : WitnessAnswer)
  | pairDissolve (ref : Nat)
  | pairDissolveForce (ref : Nat)
  | pairSetWitness (ref : Nat) (cas : WitnessAnswer)
  | pairQuery (ref : Nat) (w : HostWrite)
  | rangeMapApply (ref : Nat) (r : HostRead)
  | rangeMapQuery (ref : Nat) (w : HostWrite)
  -- firmware (19)
  | admImageBlock (ref : Nat) (r : HostRead)
  | admImageCommit (ref : Nat)
  | imageCommitApply (ref : Nat)
  | imageCommitRevert (ref : Nat)
  | applyWarmStart
  | admMigrateConfirm (ref : Nat)
  -- mode, power, format, attestation, health, log (02, 14, 16)
  | modeCommissionComplete (ref : Nat)
  | modeServiceEnter (ref : Nat)
  | modeServiceExit (ref : Nat)
  | modeArchivalLockSet (ref : Nat)
  | modeArchivalLockClear (ref : Nat)
  | powerP0 (ref : Nat)
  | powerP1 (ref : Nat)
  | powerP2 (ref : Nat)
  | powerP3 (ref : Nat)
  | powerShutdown (ref : Nat)
  | powerWarmRestart (ref : Nat)
  | admFormat (ref : Nat)
  | admAttest (ref : Nat) (w : HostWrite)
  | healthRead (ref : Nat) (w : HostWrite)
  | healthAck (ref : Nat)
  | admLogRead (ref : Nat) (w : HostWrite)
  -- control requests (18 Table 18.6)
  | ctrlP0 (p : Path)
  | ctrlP1 (p : Path)
  | ctrlP2 (p : Path)
  | ctrlP3 (p : Path)
  | ctrlShutdown (p : Path)
  | ctrlWarmRestart (p : Path)
  | ctrlColdRestart (p : Path)
  | ctrlServiceEnter (p : Path)
  | ctrlServiceExit (p : Path)
  | ctrlCommissionComplete (p : Path)
  | ctrlArchivalLockSet (p : Path)
  | ctrlArchivalLockClear (p : Path)
  | ctrlEfuseClear (p : Path) (arg : Nat)
  | ctrlUnknown (p : Path) (code : Nat)
  -- register space (18)
  | registerWrite (p : Path) (offset : Nat) (words : List Word)
  | stagedFieldWrite (p : Path) (offset : Nat) (w : Word)
  | portConfigApply (p : Path) (port : Nat) (expectSeq : Nat)
  | addressApply (p : Path) (lport : Nat) (expectSeq : Nat)
  | bootstrapApply (p : Path) (expectSeq : Nat)
  | stageDiscard (p : Path) (g : StageGroup)
  | attnAck (p : Path) (mask : Word)
  | counterSnap (p : Path) (link : LinkId)
  | ppsSecondsWrite (p : Path) (seconds : Nat)
  | timeSourceWrite (p : Path) (source : Nat) (port : Nat)
  | setupEnable (sid : Nat)
  | setupEnableResume (sid : Nat)
  | setupReset (sid : Nat)
  | windowOpen (sid : Nat)
  -- I3C and SPDM (18 R652, 14 R551)
  | i3cEntdaa (addr : Nat)
  | spdmGetVersion
  | spdmGetCapabilities
  | spdmNegotiateAlgorithms
  | spdmGetDigests
  | spdmGetCertificate (slot offset length : Nat)
  | spdmChallenge (slot : Nat) (nonce : Bytes)
  | spdmGetMeasurements (index : Nat) (signed : Bool) (nonce : Bytes)
  | spdmUnsupportedRequest (code : Nat)
  -- USB service port (19)
  | usbVbusChange (present : Bool)
  | usbBusReset
  | usbStandardRequest (setup : Bytes)
  | rspUnknownRequest (setup : Bytes)
  | rspImageBlock (blk comp : Nat) (data : Bytes) (acked : Bool)
  | rspImageCommit (comp : Nat) (apply revert : Bool) (digest : Bytes) (acked : Bool)
  | rspImageDiscard (comp : Nat) (acked : Bool)
  | rspMigrateConfirm (acked : Bool)
  | rspTagRead (offset len : Nat)
  | rspTagLabelWrite (offset : Nat) (data : Bytes) (acked : Bool)
  | rspStatus
  -- RF side of the shelf tag (19 R685 to R691)
  | tagInventory
  | tagStayQuiet (uid : Bytes)
  | tagSelect (uid : Bytes)
  | tagResetToReady
  | tagGetSystemInfo (extended : Bool)
  | tagReadSingleBlock (block : Nat)
  | tagReadMultipleBlocks (block count : Nat)
  | tagWriteSingleBlock (block : Nat) (data : Bytes)
  | tagLockBlock (block : Nat)
  | tagRfSessionEnd
  | tagWiredRetry
  | tagHealthUpdate
  -- sessions and rings, events (03, 10)
  | connectionRequest (req : ConnReq)
  | hostDreq (sid : Nat)
  | invalidHostOperation (sid : Nat)
  | qpError (sid : Nat)
  | orphanHoldExpire (sid : Nat)
  | sessionAgeOut (sid : Nat)
  | loginLockoutExpire (cred : Nat)
  | doorbellPoll (sid ring : Nat)
  | doorbellReadResponse (sid ring : Nat) (producer : BitVec 32)
  | descriptorFetch (sid ring : Nat) (descs : List Bytes)
  | ringIdleTimeout (sid ring : Nat) (reread : BitVec 32)
  | idleSweep (seen : List (Nat × Nat × BitVec 32))
  | nudge (sid : Nat) (imm : BitVec 32) (seen : List (Nat × BitVec 32))
  | completionEvent (sid ring : Nat)
  -- command progress, events (04 to 08)
  | hostAreaReadDone (ref : Nat) (areas : HostAreas)
  | keyLockGrant (ref : Nat)
  | valueFetchDone (ref sub : Nat) (r : HostRead)
  | extentStaged (ref : Nat) (x : Writing ExtentRef)
  | csnGrant (ref : Nat)
  | mutationCommit (ref : Nat)
  | journalRecorded (x : Writing Nat)
  | slcProgramDone (p : SlcProgram)
  | pageReadDone (ref : Nat) (o : PageOutcome) (w : HostWrite)
  | sealCheckResult (ref : Nat) (pass : Bool) (w : HostWrite)
  | mapFillDone (moon : Nat)
  | mapCacheInvalidationDone (moon : Nat)
  | keyFetchDone (moon slot : Nat)
  | appendWaitTimeout (ref : Nat)
  | objectSessionExpire (obj : Nat)
  | deleteRangeCountDone (ref : Nat)
  | ringResetEnd (sid ring : Nat) (w : ResetWrites)
  -- pins and comets, events (06, 12)
  | pinExpire (csn : Nat)
  | pinLingerExpire (csn : Nat)
  | cometProgressUpdate (num : Nat) (w : HostWrite)
  | resultRecordWrite (num : Nat) (r : ResultBody) (w : HostWrite)
  | creditReread (num : Nat) (r : HostRead)
  | cometEnd (num : Nat)
  | exportPeerCompletion (num : Nat) (key : Bytes) (csn : Nat) (o : PeerOutcome)
  | exportRetry (num : Nat) (key : Bytes) (csn : Nat) (afterThirtySeconds : Bool)
  | exportPeerTimeout (num : Nat) (loginStatus : Option Nat)
  -- power states and start-up (02)
  | idleTimerExpire
  | powerStateEntered
  | cleanShutdownDone
  | coldStart (f : Front) (volt : Nat)
  | startStepReached (facts : StartFacts)
  | islandWakeFail (i : IslandOf) (oscillator : Bool)
  | islandRetry (i : IslandOf) (ok : Bool)
  | coldPrepare (coldest : Int)
  | warmingEnter (coldest : Int)
  | warmingExit (coldest : Int)
  | warmingLong (coldest : Int)
  -- commit window and power loss (07)
  | windowCompute (volts : List Nat)
  | windowResultTimeout
  | capacitanceStep (caps : List Nat)
  | stringLoss (string : Nat)
  | writeThroughTimeout
  | windowLowTimeout
  | feedLost (f : Front) (volt : Nat)
  | commitOrDiscardDone
  | flushDone
  | flushShortfall (x : Shortfall)
  | powerLossEnd (feedBack : Bool)
  -- feeds, thermal, sideband (20)
  | feedRequalified (f : Front) (volt : Nat)
  | efusePowerGood (f : Front)
  | efuseTrip (f : Front) (c : EfuseCond)
  | efuseRetry (f : Front)
  | presentDeassert
  | presentAssert (offHundredMs : Bool)
  | throttleRaise (island : Island) (reading : Int)
  | throttleLower (island : Island) (reading : Int)
  | thermalTrip (island : Island) (reading : TripReading)
  | tripRecovery (island : Island)
  | tripRebuildTimeout (island : Island)
  | sensorBroken (q : Sensor)
  | sidebandShortDetect (pin : Nat)
  | sidebandShortClear (pin : Nat)
  | aliveContentionDetect
  | aliveContentionTest (contended : Bool)
  -- faults (16)
  | dieLost (moon die : Nat)
  | channelLost (moon channel : Nat)
  | moonLost (moon cause : Nat)
  | rebuildDone (num : Nat)
  | frontLost (f : Front) (loss : FrontLoss)
  | frontReturn (f : Front)
  | dramDeviceFailed (u : UnitId) (channel : DramChannel)
  | hostPortFailed (port : Nat) (sub : Option Nat) (cause : Nat)
  | portReturn (lport : Nat)
  | cipherMismatch (moon : Nat) (secondFails : Bool)
  | mgmtWatchdog
  | mgmtRestartDone
  | timeIslandFail
  | fatalFault (cause : Nat)
  | vaultAlarm (row : Nat)
  | keyCacheZeroize
  | asuScrub (f : Front) (t : AsuTable) (found : Option AsuFinding)
  | asuPeerRepair (f : Front) (t : AsuTable) (row : Nat)
  -- media background work (08, 09) and health sampling (16)
  | blockRetire (b : BlockId) (cause : RetireCause)
  | stripeComplete (stripe : Nat) (fills : List StripeFill)
  | stripePadTimeout (moon : Nat)
  | garbageCollection (band : Nat)
  | readDisturbRefresh (b : BlockId)
  | readCounterSave (moon : Nat)
  | ageClockTick (temps : List (Nat × Nat × Int))
  | retentionSample (b : BlockId) (x : Sample)
  | ageRefresh (data : AgedData)
  | wearLevelling (band : Nat)
  | mapWriteback (moon : Nat)
  | healthDailySample (values : List (Nat × Nat × Nat × Int))
  -- pair events (15)
  | heartbeatSend
  | heartbeatReceive (link : Nat) (f : PairFrame) (b : HeartbeatBody)
  | heartbeatTimeout (link : Nat)
  | pairAliveLost
  | helloReceive (cable : PairCable) (f : PairFrame) (serial : Bytes) (inStep : Bool)
  | gaspReceive (read : WitnessAnswer) (cas : WitnessAnswer)
  | pairForwardReceive (fw : PairForward)
  | completionAckReport (refs : List Nat)
  | swapDoneReceive (epoch word : Nat) (swap : SwapRecord)
  | leaseRenew
  | witnessCasResponse (ans : WitnessAnswer)
  | leaseExpire
  | witnessPoll (read : WitnessAnswer) (sameFor505ms : Bool) (cas : WitnessAnswer)
  | joinExpire
  | resyncDone (cas : WitnessAnswer)
  -- ports and time (17)
  | linkUp (link : LinkId)
  | announceRepeat (x : Sending LinkId)
  | frameReceive (link : LinkId) (f : RxFrame)
  | addressResolutionRequest (lport : Nat) (target : Bytes) (x : Sending Nat)
  | pfcFrame (lport : Nat) (paused : Bool)
  | cnpReceive (lport : Nat)
  | ecnMarkedPacket (x : Sending Nat)
  | gearUp (link : LinkId) (rx : Bool)
  | gearDown (link : LinkId) (rx : Bool)
  | ptpMessage (lport : Nat) (m : PtpMsg)
  | ptpTimeout
  | ppsEdge (offsetNs : Int) (pulseNs : Nat)
  | ppsLoss
  -- late rows
  | imageBankTimeout (comp : Nat)
  | trialBankFail (comp : Nat)
  | p0Reached
  | timeIslandRestarted
  | holdUpBankExhausted
  | coolantInletReading (reading : Int)
  | pairAliveRestored
  | swapRequestReceive (epoch : Nat) (dissolve : Bool) (cas : WitnessAnswer)
  | partnerRecordHeld (record : PartnerRecord)
  | resyncFrameReceive (snapshot : Nat) (keys : List (Nat × Bytes × Nat)) (fetched : List Forwarded) (last : Bool)
  deriving DecidableEq, Repr

end Sys2Proof
end

