-- ==== Sys2Proof/Config.lean ====
section
/-! DEFINITION. What the manual leaves to the module or does not give a value for. Each constant is opaque: nothing in
Lean can evaluate it, so every statement holds whatever it is (notes/assumptions/5.md). `n` is the value of the
model's counter `fresh` at the draw. -/

namespace Sys2Proof.Config

/-- A proposed session handle (03 Table 3.2); the module takes the next one not in use. -/
opaque sessionHandle (n : Nat) : BitVec 32

/-- The queue pair number of a new session (03 R99, 10 Table 10.7). -/
opaque queuePair (n : Nat) : BitVec 24

/-- The SETUP_ADDR of every session: each queue pair sees its own block at the same address (03 Table 3.2, R93). -/
opaque setupAddr : BitVec 64

/-- The SETUP_RKEY and the NUDGE_RKEY of a new session (03 Table 3.2). -/
opaque setupRkey (n : Nat) : BitVec 32
opaque nudgeRkey (n : Nat) : BitVec 32

/-- The NUDGE_ADDR of a new session (03 Table 3.2). -/
opaque nudgeAddr (n : Nat) : BitVec 64

/-- A proposed object handle and a proposed comet number: opaque 64-bit values (04 after Table 4.12). -/
opaque objectHandle (n : Nat) : BitVec 64
opaque cometNumber (n : Nat) : BitVec 64

/-- 256 random bits: a module nonce (03 R99) or a responder nonce of SPDM (14 R551). -/
opaque nonce (n : Nat) : BitVec 256

/-- The device certificate and the certificate of the intermediate CA, in DER (14 Table 14.8). -/
opaque deviceCert : Bytes
opaque caCert : Bytes

/-- The certificate chain that a login sends: device certificate, then intermediate (03 Table 3.3, 14 Table 14.8). -/
def certChain : Bytes := deviceCert ++ caCert

/-- SHA-384 of the Brelvoin Root certificate, which heads the SPDM chain (14 R551). -/
opaque rootDigest : BitVec 384

/-- The ECDSA P-384 signature, r and s, of the device key over a message (14 R550). -/
opaque signature (n : Nat) (message : Bytes) : BitVec 768

/-- KEY_ID names a firmware-signing key that the vault holds (19 R673). -/
opaque keyKnown (keyId : Nat) : Bool

/-- The ECDSA P-384 signature of an image header verifies (19 R673). -/
opaque imageSignatureOk (keyId : Nat) (signed signature : Bytes) : Bool

/-- Whether the host's adapter acknowledges the write of a digest that a row without such an operand makes (04 R169). -/
opaque hostAcks (n : Nat) : Bool

/-- Whether a final-state write issued before a reset was acknowledged before its acceptance (12 R487: left open). -/
opaque finalAcked (n : Nat) : Bool

/-- CONFIDENCE of a prediction whose slope is 0 (16 R618 divides by it). -/
opaque flatConfidence (samples : Nat) : BitVec 7

/-- The pause of one shard's handover in microseconds: the manual bounds it by 200 and states no value (01 R35). -/
opaque handoverPause (n : Nat) : BitVec 8

/-- CTExponent, DataTransferSize and MaxSPDMmsgSize of the SPDM CAPABILITIES response, which the manual does not
state. -/
opaque spdmTimeout : BitVec 8
opaque spdmTransfer : BitVec 32
opaque spdmMessage : BitVec 32

/-- The length of a MAP_LOG record: not stated (08 R352). -/
opaque mapRecord (n : Nat) : BitVec 12

/-- Which SLC block of a moon is written next, and which is erased next (08 R324, R333: not stated). -/
opaque slcBlock (n : Nat) : BitVec 64

/-- The port counters of traffic below the model: the `k`-th of 17 Table 17.5 at the `n`-th snapshot. -/
opaque linkCounter (n k : Nat) : BitVec 64

/-- What a sensor of 18 Table 18.14 that no command of the model reads shows at a module time: the currents of feeds A
and B, the input power, the coolant outlet. -/
opaque sensor (k now : Nat) : BitVec 16

/-- The pages that an extended self-test has read since its last status update (12 R481 bounds its pace). -/
opaque pagesSwept (n : Nat) : BitVec 32

/-- The temperature of a die of which no reading has come yet (09 R377), in units of 0.25 °C. -/
opaque dieTemp (moon die : Nat) : BitVec 16

/-- The read-reference set of a die's factory table for a bin of ΔT (09 R377). -/
opaque readRefs (moon die bin : Nat) : Nat

/-- The map reference of an object, in sub-blocks of 64 bytes of its moon's map (08, The map; R348): not stated. -/
opaque mapRef (obj : Nat) : BitVec 40

/-- Whether a start loads a map page into its moon's DRAM (08 R347, Table 8.7: which ones are hot is not stated). -/
opaque mapHot (moon page : Nat) : Bool

/-- The data area of a map page, a MAP_LOG page or a FRONT_CKPT page: their records have no layout in the manual (08, The map;
R352, R353). -/
opaque metaArea (n : Nat) : BitVec 131072

/-- The 48-byte record header of a pack record (08 R323: not defined in the manual). -/
opaque recordHeader (obj : Nat) : BitVec 384

/-- The LDPC parity field of a codeword: 528 bytes, the code is not stated (08 R320). -/
opaque ldpcParity (codeword : Bytes) : BitVec 4224

/-- The check bits of the shadow copy of an ASU row: the code is not stated (10 R421). -/
opaque rowEcc (image : Nat) : BitVec 10

/-- The reads by which a WARMING module heats a block of its coldest moons in a second (02 R65: not stated). -/
opaque heatReads (moon die block now : Nat) : BitVec 16

/-- Which page of a version in QLC a read could not decode (08 R339: not stated). -/
opaque lostPage (n : Nat) : BitVec 32

/-- Bits 47 to 6 of the I3C Provisioned ID (18 R652 gives bits 5 to 0). -/
opaque provisioned : BitVec 42

end Sys2Proof.Config
end

