-- ==== Sys2Proof/Machine/Bytes.lean ====
section
/-! DEFINITION. Byte strings: reading and building little-endian fields (00 R11), bit fields, the order of
keys (05 R229), and the small list helpers the meanings share. -/

namespace Sys2Proof.Machine

/-- The number a little-endian byte string holds (R11). -/
def leNat : Bytes → Nat
  | [] => 0
  | b :: bs => b.toNat + 256 * leNat bs

/-- `n` as `w` little-endian bytes (R11). -/
def toLe : Nat → Nat → Bytes
  | 0, _ => []
  | w + 1, n => BitVec.ofNat 8 n :: toLe w (n / 256)

/-- `len` bytes from offset `off`, as many as there are. -/
def slice (bs : Bytes) (off len : Nat) : Bytes := (bs.drop off).take len

/-- The byte at `off`; a byte beyond the end reads as zero. -/
def byteAt (bs : Bytes) (off : Nat) : Nat := (bs.getD off 0).toNat

/-- The 16-bit field at `off`. -/
def u16At (bs : Bytes) (off : Nat) : Nat := leNat (slice bs off 2)

/-- The 32-bit field at `off`. -/
def u32At (bs : Bytes) (off : Nat) : Nat := leNat (slice bs off 4)

/-- The 64-bit field at `off`. -/
def u64At (bs : Bytes) (off : Nat) : Nat := leNat (slice bs off 8)

/-- Bits `[lo + w - 1 : lo]` of a number. -/
def bitsOf (n lo w : Nat) : Nat := n / 2 ^ lo % 2 ^ w

/-- Bit `i` of a number. -/
def bitOf (n i : Nat) : Bool := bitsOf n i 1 == 1

/-- A Boolean as a bit. -/
def b2n (b : Bool) : Nat := if b then 1 else 0

/-- `bs` cut or padded with zero bytes to exactly `n` bytes. -/
def fit (n : Nat) (bs : Bytes) : Bytes := bs.take n ++ List.replicate (n - bs.length) 0

/-- `n` zero bytes: an RSVD field (R13). -/
def zeros (n : Nat) : Bytes := List.replicate n 0

/-- `bs` with `data` written over it from `off`. -/
def overwrite (bs : Bytes) (off : Nat) (data : Bytes) : Bytes :=
  fit off bs ++ data ++ bs.drop (off + data.length)

/-- Keys compare byte by byte as unsigned values; a proper prefix sorts first (R229). -/
def keyLt : Bytes → Bytes → Bool
  | _, [] => false
  | [], _ :: _ => true
  | a :: as, b :: bs => if a.toNat < b.toNat then true else if b.toNat < a.toNat then false else keyLt as bs

/-- Not above, in the order of keys (R229). -/
def keyLe (a b : Bytes) : Bool := !keyLt b a

/-- A key lies in the range from `lo`, included, to `hi`, excluded (R229). -/
def keyIn (lo hi k : Bytes) : Bool := keyLe lo k && keyLt k hi

/-- `bs` begins with `p`. -/
def startsWith (p bs : Bytes) : Bool := bs.take p.length == p

/-- Rounds `n` up to a multiple of `m`. -/
def roundUp (n m : Nat) : Nat := (n + m - 1) / m * m

/-- The sum of a list of numbers. -/
def sumNat : List Nat → Nat
  | [] => 0
  | n :: ns => n + sumNat ns

/-- The greatest number of a list; 0 of an empty one. -/
def maxNat : List Nat → Nat
  | [] => 0
  | n :: ns => max n (maxNat ns)

/-- Changes every element that `p` selects. -/
def mapWhere {α : Type} (p : α → Bool) (f : α → α) (l : List α) : List α :=
  l.map fun a => if p a then f a else a

/-- The entry of key `k` in an association list. -/
def assoc {β : Type} (k : Nat) : List (Nat × β) → Option β
  | [] => none
  | (k', b) :: r => if k' = k then some b else assoc k r

/-- Sets the entry of key `k`, keeping the keys in ascending order. -/
def setAssoc {β : Type} (k : Nat) (b : β) : List (Nat × β) → List (Nat × β)
  | [] => [(k, b)]
  | (k', b') :: r =>
    if k' = k then (k, b) :: r else if k < k' then (k, b) :: (k', b') :: r else (k', b') :: setAssoc k b r

/-- A number as a signed 16-bit field. -/
def signed16 (i : Int) : Nat := (i % 65536).toNat

/-- A number as a signed 32-bit field. -/
def signed32 (i : Int) : Nat := (i % 4294967296).toNat

/-- ASCII text as bytes. -/
def ascii (t : String) : Bytes := t.toList.map fun c => BitVec.ofNat 8 c.toNat

/-- Inserts into a list ordered by `le`, after equal elements. -/
def insertBy {α : Type} (le : α → α → Bool) (a : α) : List α → List α
  | [] => [a]
  | b :: bs => if le b a then b :: insertBy le a bs else a :: b :: bs

/-- Sorts by insertion, stable. -/
def sortBy {α : Type} (le : α → α → Bool) : List α → List α
  | [] => []
  | a :: as =>
    let rest := sortBy le as
    let rec ins : List α → List α
      | [] => [a]
      | b :: bs => if le a b then a :: b :: bs else b :: ins bs
    ins rest

/-- `n` is a power of two between 2^lo and 2^hi: its exponent is in range (Table 4.9). -/
def logInRange (l lo hi : Nat) : Bool := decide (lo ≤ l) && decide (l ≤ hi)

/-- `n` is a multiple of `m`. -/
def aligned (n m : Nat) : Bool := n % m == 0

end Sys2Proof.Machine
end

