-- ==== Sys2Proof/Machine/HostParts.lean ====
section
/-! DEFINITION. The parts of State that hosts see: statuses and completions (04), sessions and rings (03, 10),
commands in flight (04 to 07), the Key-Lock Table (10), the store (05, 06, 08), the sequencer and the window
account (06, 07), namespaces and credentials (13), the ASU tables (10), key slots (14), program slots (11) and
comets (12). Plain data; the defaults are the values of an entry that has just been made. -/

namespace Sys2Proof.Machine

/-- Status codes (04 Table 4.13), ST_DENIED with its reason code (04 Table 4.14). -/
inductive Status where
  | ok | okSuperseded
  | notFound | alreadyExists | casMismatch | keyLength | valueTooLarge
  | denied (detail : Nat)
  | quota | readOnly
  | redirect | fenced
  | abortedReset | snapshotExpired
  | sealFail | mediaUnrecovered
  | busyRetry | slotBusy | noSpace | warming
  | hostAccess
  deriving DecidableEq, Repr

/-- What a completion carries beside the TAG, the SQ_HEAD and the PHASE that the writing adds (04 Table 4.11). -/
structure Comp where
  status    : Status
  csn       : Nat  := 0
  result    : Nat  := 0
  aux       : Nat  := 0
  degraded  : Bool := false
  digest    : Bool := false
  truncated : Bool := false
  untrusted : Bool := false
  level     : Nat  := 0
  deriving DecidableEq, Repr

/-- Ring states (03 Table 3.5). -/
inductive RingState where
  | active | idle | stopped | faulted | resetting
  deriving DecidableEq, Repr

/-- A ring reset in progress (03 R140 to R142): what the report will hold, and the admin command it answers. -/
structure ResetRec where
  cause      : Nat            -- 0x01 reset, 0x02 destroy, 0x03 Session Setup block (Table 3.9)
  admin      : Option Nat     -- the ADM_RING_RESET or ADM_RING_DESTROY command
  bufAddr    : Nat := 0
  bufRkey    : Nat := 0
  fetchEnd   : Nat := 0
  nFinished  : Nat := 0
  nAborted   : Nat := 0
  nCometDone : Nat := 0
  nCometAbrt : Nat := 0
  acceptTime : Nat := 0
  deriving DecidableEq, Repr

/-- A ring (03 Table 3.4, Table 3.5; 04 Table 4.9, Table 4.10). -/
structure Ring where
  idx       : Nat
  sqBase    : Nat := 0
  cqBase    : Nat := 0
  dbAddr    : Nat := 0
  rkey      : Nat := 0
  sqLog2    : Nat := 4
  cqLog2    : Nat := 4
  ordered   : Bool := false
  idleTime  : Nat := 200
  event     : Nat := 0
  eventIvl  : Nat := 10
  st        : RingState := .active
  producer  : BitVec 32 := 0      -- PRODUCER_SEEN
  fetch     : BitVec 32 := 0
  cqCount   : BitVec 32 := 0
  resetSeq  : BitVec 32 := 0
  idleSeq   : BitVec 16 := 0
  csnMark   : Nat := 0
  eventDue  : Bool := false
  heldComp  : Bool := false       -- received held completions while orphaned (R150)
  asked     : Nat := 0            -- descriptors of the RDMA READ that is outstanding; 0 none (R118)
  ahead     : List Bytes := []    -- descriptors read and not yet taken, at a limit of R153 or of 01 R39
  polled    : Nat := 0            -- RDMA READs of its Doorbell Record that are outstanding, but for the re-read (R122)
  reread    : Bool := false       -- going idle: the re-read of its Doorbell Record is outstanding (R124)
  finished  : List Nat := []      -- after a takeover: descriptor counts that have completed (15 R575)
  decided   : List DecisionRecord := []  -- after a takeover: decided outcomes of descriptors to fetch again (15 R575)
  reset     : Option ResetRec := none
  waiting   : List Nat := []      -- resets and destroys waiting for the one in progress (R145)
  deriving DecidableEq, Repr

/-- Session classes (10 Table 10.7). -/
inductive SessClass where
  | pending | live | orphan
  deriving DecidableEq, Repr

/-- The Session Setup block of one queue pair (18 Table 18.21). -/
structure SetupBlock where
  state      : Nat := 0
  invalidAt  : Nat := 0
  sqBase     : Nat := 0
  cqBase     : Nat := 0
  dbAddr     : Nat := 0
  rkey       : Nat := 0
  sqLog2     : Nat := 0
  cqLog2     : Nat := 0
  idleTime   : Nat := 0
  eventIvl   : Nat := 0
  event      : Nat := 0
  ordered    : Bool := false
  reportAddr : Nat := 0
  reportRkey : Nat := 0
  resume     : Nat := 0           -- RESUME_HANDLE
  window     : Bool := false      -- the in-band register window is open
  deriving DecidableEq, Repr

/-- A login begun (03 R99 to R101). -/
structure BeginRec where
  role      : Nat
  cred      : Nat
  hostNonce : Bytes
  modNonce  : Bytes
  used      : Bool := false
  deriving DecidableEq, Repr

/-- What the module puts on a wire, a pin or into host memory. -/
inductive Output where
  | write (sid rkey addr : Nat) (data : Bytes)          -- RDMA WRITE into host memory
  | read (sid rkey addr len : Nat)                      -- RDMA READ issued
  | immediate (sid : Nat) (imm : Nat)                   -- zero-length RDMA WRITE with immediate
  | send (sid : Nat) (data : Bytes)                     -- SEND
  | nak (sid : Nat)                                     -- NAK, invalid request
  | dreq (sid : Nat)                                    -- DREQ
  | drep (sid : Nat)                                    -- DREP, the answer to a host's DREQ (Table 3.1)
  | rej (lport : Nat)                                   -- REJ of a connection request
  | rep (sid lport : Nat) (priv : Bytes)                -- REP with private data
  | pairFrame (link : Nat) (frame : Bytes)              -- a pair frame: header (15 Table 15.4) and body (Table 15.5)
  | witnessRead (ip : Bytes) (service rkey addr : Nat)  -- RDMA READ of the witness word
  | witnessCas (ip : Bytes) (service rkey addr expect new : Nat)  -- compare-and-swap of the witness word
  | gaspBurst                                           -- the burst on PAIR_ALIVE_OUT
  | aliveDrive (on : Bool)                              -- PAIR_ALIVE_OUT driven or high-impedance
  | announce (lport : Nat)                              -- gratuitous ARP and unsolicited neighbour advertisement
  | addressReply (lport : Nat) (target : Bytes) (kind : Nat)
  | cnp (lport : Nat)                                   -- CNP sent
  | mgmtNack (path : Path)                              -- a transfer the path does not answer
  | i3cAddress (addr id bcr dcr : Nat)                  -- ENTDAA: the address taken, Provisioned ID, BCR, DCR
  | spdm (code : Nat) (body : Bytes)
  | usbData (data : Bytes)
  | usbStatus                                           -- zero-length status stage
  | usbStall
  | usbPullUp (on : Bool)
  | tagAnswer (data : Bytes)
  | peerOpen (comet cred rings service : Nat) (ip : Bytes)  -- login as a Client and data rings on the peer (12 R482)
  | peerSubmit (comet : Nat) (key : Bytes) (csn : Nat) (ifAbsent : Bool) (appends : List Nat)  -- no appends: KV_PUT
  | peerReopen (comet : Nat)
  | stripeData (moon : Nat) (front : Front) (stripe : Nat)    -- a data page sent over the spine for its parity (08 R332)
  | stripeParity (front : Front) (moon : Nat) (stripe : Nat)  -- a parity page sent over the spine
  | flashRead (block : BlockId) (page : Nat) (codewords : List Nat) (refs : Nat)  -- a page read on a flash channel
  deriving DecidableEq, Repr

/-- What an orphaned session's Front holds for its host (03 R147): a completion, a reset report, or another write. A
completion gets its slot when it is written. -/
inductive Held where
  | comp (r : Ring) (tag : Nat) (k : Comp)
  | report (r : Ring) (t : ResetRec)
  | out (o : Output)
  deriving DecidableEq, Repr

/-- A session (03; 10 Table 10.7; 18 Table 18.21). -/
structure Session where
  sid        : Nat
  row        : Nat := 0           -- its row of the Session Table (10 R396)
  handle     : Nat := 0
  qpn        : Nat := 0
  hostQpn    : Nat := 0
  moduleId   : Nat := 0           -- MODULE_ID of its REP (R93, 18 Table 18.3)
  front      : Front := .a
  lport      : Nat := 0
  service    : Bool := false      -- connected to a service address of its logical port (15 R557)
  addr       : Nat := 0           -- which address: 0 IPv4, 1 IPv6_A, 2 IPv6_B
  cls        : SessClass := .pending
  role       : Nat := 0
  cred       : Nat := 0
  age        : Nat := 0
  limit      : Nat := 10000
  carried    : Bool := false      -- mirrored to the partner (15 R557)
  setup      : SetupBlock := {}
  begun      : Option BeginRec := none
  failed     : Nat := 0           -- failed PROVE commands (R103)
  transcript : Bytes := []
  resuming   : Option Nat := none -- handle of the orphan it resumes (R150, 18 R666)
  held       : List Held := []    -- held while orphaned, in the order they arose (R147)
  rings      : List Ring := []
  deriving DecidableEq, Repr

/-- The session table and its counters. -/
structure Sess where
  sessions : List Session := []
  nextSid  : Nat := 0
  nudges   : Nat := 0             -- Nudges counted (R127, R128)
  ignored  : Nat := 0             -- Nudges counted and ignored
  waits    : List (Nat × Nat) := []  -- rings (sid, index) that wait to fetch, longest-waiting first (R153)
  deriving DecidableEq, Repr

/-- Where the current copy of a version lies (08). -/
inductive Place where
  | staged | slc | qlc
  deriving DecidableEq, Repr

/-- One version of a key (05 R188, R189; 08 The map). -/
structure Version where
  nsid       : Nat
  key        : Bytes
  csn        : Nat
  value      : Option Bytes
  digest     : Option Bytes := none
  object     : Bool := false
  suite      : Nat := 1
  sealed     : Bool := false      -- a GMAC seal is kept (R524)
  slot       : Nat := 0
  gens       : List Nat := []     -- the key generation of its pack record, or of each chunk (14 R542)
  commitTime : Nat := 0
  objId      : Nat := 0
  durable    : Bool := false      -- durable at WINDOW level or better (R249)
  place      : Place := .staged
  stagedAt   : Nat := 0           -- module time at which its first extent was staged (08 R333)
  folded     : List Nat := []     -- the stripes that hold its QLC pages, one for each page (08 R332, R333)
  home       : Nat := 0
  shadow     : Nat := 1
  lost       : Bool := false      -- left short by a flush shortfall (07 R315)
  lostParts  : List (Nat × Nat) := []  -- parts (offset, length) neither read nor rebuilt (05 R205, 08 R341)
  metaLost   : Bool := false      -- its metadata cannot be read or rebuilt (R208)
  badSeal    : Bool := false      -- its seal check has failed (14 R526)
  deriving DecidableEq, Repr

/-- An extent of a mutation's value (08 R325 to R327). -/
structure Extent where
  part   : Nat
  obj    : Nat := 0                  -- object identifier of its version (R323)
  off    : Nat
  len    : Nat
  key    : Nat := 0                  -- key bytes that are charged with it (07 R290)
  home   : Nat
  shadow : Nat
  slot   : Nat := 0
  gen    : Nat := 1
  staged : Bool := false
  at_    : Nat := 0                  -- module time at which it was staged (R333)
  early  : List Nat := []            -- moons that have programmed their copy ahead of the other one (07 R731)
  progd  : Bool := false             -- both SLC copies are programmed (07 R295)
  ofObj  : Bool := false             -- an extent of the object that a seal seals
  deriving DecidableEq, Repr

/-- An object session (05 R220 to R228). -/
structure ObjSession where
  handle   : Nat
  sid      : Nat
  nsid     : Nat
  key      : Bytes
  noDigest : Bool := false
  bytes    : Bytes := []
  objId    : Nat := 0             -- object identifier of the version it will be, once placed (08 R323)
  extents  : List Extent := []    -- the extents that its bytes fill (08 R325)
  token    : Option Nat := none   -- token of those of them that are programmed (08 R328)
  deriving DecidableEq, Repr

/-- A snapshot pin (06 R265, R266). -/
structure Pin where
  csn      : Nat
  lifetime : Nat                  -- minutes, as set when it was created
  linger   : Nat                  -- seconds, as set when it was created
  since    : Nat := 0             -- module time of its creation or latest restart
  resync   : Bool := false        -- created by a resynchronisation, no comet has shared it (R265, 15 R582)
  deriving DecidableEq, Repr

/-- The store: versions, object sessions and pins. -/
structure Store where
  versions  : List Version := []
  objects   : List ObjSession := []
  pins      : List Pin := []
  nextObjId : Nat := 1
  deriving DecidableEq, Repr

/-- One mutation element of a command: the command itself, or a sub-operation of a KV_BATCH. -/
structure Part where
  op     : Nat
  nsid   : Nat
  key    : Bytes
  endKey : Bytes := []
  flags  : Nat := 0
  len    : Nat := 0
  arg64  : Nat := 0
  segs   : List (Nat × Nat × Nat) := []   -- address, remote key, length
  obj    : Nat := 0                       -- object identifier of the version it writes, once placed (08 R323)
  value  : Option HostRead := none        -- the value bytes read; of a seal, the object's bytes at its turn (R226)
  deriving DecidableEq, Repr

/-- How far a fetched command has come. -/
inductive Phase where
  | unknown        -- opcode not listed (R171)
  | fenced         -- held by FENCE (R255)
  | areas          -- step 8 of R184: host areas being read
  | ready          -- checked; its opcode's row executes it
  | orderWait      -- ORDERED ring: the earlier command does not hold its locks yet (R258)
  | lockWait       -- waiting for key locks (R191)
  | readWait       -- a read waiting behind granted mutations (R416)
  | turnWait       -- an APPEND waiting for its offset or for a SEAL, a SEAL for the APPENDs before it (R223, R226)
  | valueWait      -- its value bytes are on their way
  | csnWait        -- waiting for its CSN grant (R292)
  | granted        -- CSN granted, decision record not yet on both Fronts
  | committed      -- committed (R244)
  | counting       -- a committed KV_DELETE_RANGE counting its keys (R232)
  | mapWait        -- waiting for a Map Cache fill
  | keyWait        -- waiting for a key from the vault
  | pageRead       -- pages being read
  | sealWait       -- waiting for the verdict of the seal check
  | adminWait      -- an ADM_ command whose completion follows a later event
  | finished       -- its outcome is fixed, its completion is held (R252, R258)
  deriving DecidableEq, Repr

/-- A command fetched and not completed: a held descriptor (06 R273) and its progress. -/
structure Cmd where
  ref       : Nat
  sid       : Nat
  ring      : Nat
  count     : BitVec 32                    -- descriptor count
  desc      : Bytes                        -- the 64 bytes (Table 4.1)
  fetched   : Nat := 0                     -- module time of the fetch
  order     : Nat := 0                     -- order in which its lock request was granted (R252)
  phase     : Phase := .ready
  late      : Bool := false                -- steps 8 to 13 of R184 have passed
  parts     : List Part := []
  segs      : List (Nat × Nat × Nat) := [] -- destination segments of a KV_GET
  block     : Bytes := []                  -- comet parameter block
  low       : Bytes := []
  high      : Bytes := []
  obj       : Option Nat := none           -- handle of its object session
  lockTodo  : List Nat := []               -- parts whose lock is still to be requested (R417)
  locked    : Bool := false
  blockers  : List Nat := []               -- references of the rows a read waits behind (R416)
  decided   : Bool := false                -- conditions, quota and space passed (R195)
  asked     : Nat := 0                     -- order of its request for a CSN (R292)
  reserved  : List (Nat × Nat × Nat) := [] -- nsid, bytes, objects reserved (R509)
  extents   : List Extent := []
  token     : Option Nat := none           -- provisional token (08 R328)
  objToken  : Option Nat := none           -- that of the object it has sealed
  progd     : Bool := false                -- its bytes are programmed twice (R294, R295)
  csn       : Nat := 0
  journal   : Bool := false                -- journal entry on both Fronts (R296)
  partner   : Bool := false                -- decision record held by the partner (R244)
  partnerMedia : Bool := false             -- at MEDIA on the partner (15 R568)
  keys      : Nat := 0                     -- keys a KV_DELETE_RANGE deleted (R232), bytes a KV_OBJ_SEAL sealed (R226)
  digest    : Option Bytes := none         -- the digest kept with the value it wrote (04 R169)
  version   : Option Version := none       -- version a read has located (R193)
  mapRead   : Bool := false                -- the flash read of its map page is outstanding (08 R349)
  compat    : Bool := false                -- AUTHFAIL_COMPAT when it located its version (R530)
  degraded  : Bool := false
  acc       : Nat := 0                     -- the number an ADM_ command will return in RESULT
  hold      : Bool := false                -- its completion waits for the partner's completion record (15 R569)
  ended     : Nat := 0                     -- order in which its outcome was fixed (03 R132)
  done      : Option Comp := none
  deriving DecidableEq, Repr

/-- The commands in flight, in the order of their fetch. -/
structure Cmds where
  list     : List Cmd := []
  nextRef  : Nat := 0
  nextOrd  : Nat := 1
  nextAsk  : Nat := 1
  nextEnd  : Nat := 1
  deriving DecidableEq, Repr

/-- A row of the Key-Lock Table (10 Table 10.10). The first 16 bytes of a bound with the flag "longer than
16" stand for P0 and P0_LEN, P1 and P1_LEN. -/
structure LockRow where
  ref     : Nat
  part    : Nat
  nsid    : Nat
  shard   : Nat
  range   : Bool := false
  fp      : Nat := 0
  p0      : Bytes := []
  p0Long  : Bool := false
  p1      : Bytes := []
  p1Long  : Bool := false
  row     : Nat := 0                 -- its row of the table (R396)
  half    : Front := .a              -- the half of the table it stands in (R418)
  granted : Bool := false
  deriving DecidableEq, Repr

/-- The Key-Lock Table in arrival order, and the overflow queues of the two Fronts (10 R419). -/
structure Locks where
  rows     : List LockRow := []
  overflow : List LockRow := []
  deriving DecidableEq, Repr

/-- An entry of the shard journals: a committed mutation, the keys it wrote and its provisional tokens (08 R353, R355). -/
structure JournalRec where
  csn   : Nat
  keys  : List (Nat × Bytes) := []
  tokens : List Nat := []
  deriving DecidableEq, Repr

/-- Bytes charged to the window and not yet programmed twice, with the extents that hold them (07 R290, R295). -/
structure Charge where
  ref     : Nat
  csn     : Nat
  bytes   : Nat
  extents : List Extent := []
  deriving DecidableEq, Repr

/-- The sequencer and the window account (06 R237 to R241, 07 R289). -/
structure Seq where
  next      : Nat                    -- the next CSN it grants
  hwm       : Nat                    -- high-water mark of the current block
  committed : Nat := 0               -- highest CSN committed
  activeA   : Bool := true           -- the active sequencer is on Front A (R36)
  charges   : List Charge := []
  shards    : List (Nat × Nat) := [] -- operations counted per shard (01 Table 1.5)
  stalls    : List (Nat × Nat) := [] -- key-lock stalls per shard
  tokens    : Nat := 0               -- provisional tokens issued (08 R328)
  ckptSeq   : Nat := 0               -- checkpoint sequence numbers used (08 Table 8.3)
  journal   : List JournalRec := []  -- journal entries that no FRONT_CKPT page holds yet (08 R353)
  deriving DecidableEq, Repr

/-- One hold-up string (18 Table 18.8). -/
structure HoldString where
  volt      : Nat := 0               -- mV
  cap       : Nat := 0               -- microfarads
  inService : Bool := true
  deriving DecidableEq, Repr

/-- The commit window as the management island computes it (07 R297 to R303, 18 Table 18.8). -/
structure Win where
  window     : Nat  := 0
  energy     : Nat  := 0             -- mJ
  occ        : Nat  := 0             -- occupancy at the latest computation (18 R657)
  reached100 : Bool := false
  cold       : Bool := false         -- the condition of R64 holds
  noResult   : Bool := false
  strings    : List HoldString := [{}, {}, {}, {}]
  deriving DecidableEq, Repr

/-- A namespace (13 Table 13.1, Table 13.3). -/
structure Namespace where
  nsid       : Nat
  quotaBytes : Nat := 0
  quotaObjs  : Nat := 0
  suite      : Nat := 1
  slot       : Nat := 0
  fixity     : Nat := 0
  compat     : Bool := false
  useBytes   : Nat := 0
  useObjs    : Nat := 0
  resBytes   : Nat := 0
  resObjs    : Nat := 0
  created    : Nat := 0
  gone       : Bool := false          -- past the point of effect of its deletion (R498)
  sealFails  : Nat := 0
  deriving DecidableEq, Repr

/-- A credential (13 R500, R503; 03 R104). -/
structure Credential where
  cred    : Nat
  role    : Nat
  secret  : Bytes
  creator : Nat := 0
  grants  : List Nat := []
  deriving DecidableEq, Repr

/-- Failed PROVE commands and lock-out of one credential identifier (03 R104, R105). -/
structure LockOut where
  cred   : Nat
  times  : List Nat := []            -- module times of the failed PROVE commands
  locked : Bool := false
  deriving DecidableEq, Repr

/-- The bootstrap group of the Setup Register Space (18 Table 18.20). -/
structure Bootstrap where
  cred     : Nat := 0
  live     : Nat := 0             -- CRED of the last apply
  secret   : Bytes := []
  stageSeq : Nat := 0
  result   : Nat := 0
  applies  : Nat := 0
  deriving DecidableEq, Repr

/-- Credentials, outbound credentials, lock-outs and the bootstrap group. -/
structure Creds where
  list     : List Credential := []
  outbound : List (Nat × Bytes) := []
  lockouts : List LockOut := []
  boot     : Bootstrap := {}
  deriving DecidableEq, Repr

/-- A Rule Table row (10 Table 10.5). -/
structure Rule where
  idx      : Nat
  pre      : Bytes := []             -- PREFIX, PREFIX_LEN bytes
  nsid     : Nat := 0
  nsAny    : Bool := false
  cred     : Nat := 0
  credAny  : Bool := false
  roles    : Nat := 0
  ops      : Nat := 0
  priority : Nat := 0
  allow    : Bool := false
  deriving DecidableEq, Repr

/-- A Range Map row (10 Table 10.3). -/
structure RangeRow where
  nsid  : Nat
  low   : Bytes := []
  owner : Nat := 0
  active : Bool := true              -- the row takes part in lookups (10 Table 10.3)
  deriving DecidableEq, Repr

/-- The ASU tables that are not session or lock state, and their repair counters (10, 18 Table 18.11). -/
structure Asu where
  rules   : List Rule := []          -- by ascending row index
  ranges  : List RangeRow := []      -- by ascending (NSID, LOW)
  epoch   : Nat := 0
  repairs : List Nat := [0, 0, 0, 0] -- Range Map, Rule Table, Session Table, Key-Lock Table
  deriving DecidableEq, Repr

/-- Key slot states (14 Table 14.3). -/
inductive SlotState where
  | empty | loaded | erased
  deriving DecidableEq, Repr

/-- A key slot (14 Table 14.3, Table 14.6). -/
structure KeySlot where
  slot  : Nat
  st    : SlotState := .empty
  root  : Bytes := []
  kcv   : Bytes := []
  limit : Nat := 40                  -- LIMIT_LOG2
  gen   : Nat := 1
  used  : Nat := 0
  deriving DecidableEq, Repr

/-- A moon's remaining usage grant of a slot (14 R540). -/
structure UsageGrant where
  moon : Nat
  slot : Nat
  gen  : Nat
  left : Nat
  deriving DecidableEq, Repr

/-- The Key Vault and the key caches of the moons (14). A slot not listed is EMPTY. -/
structure Vault where
  slots    : List KeySlot := []
  alarms   : Nat := 0
  up       : Bool := true
  pending  : Bool := false           -- an alarm's key caches are not zeroized yet (R546)
  cached   : List (Nat × Nat) := []  -- (moon, slot) whose keys the moon holds
  grants   : List UsageGrant := []
  deriving DecidableEq, Repr

/-- A generation of a program slot (11 R447 to R453). -/
structure ProgGen where
  gen     : Nat
  image   : Bytes := []              -- empty: an empty generation
  nsid    : Nat := 0
  shared  : Bool := false
  buildId : Nat := 0
  nStates : Nat := 0
  deriving DecidableEq, Repr

/-- A queued load of a program slot (11 R447 to R450). -/
structure ProgLoad where
  ref     : Nat
  gen     : Nat                      -- GENERATION parameter: 0 asks for the next
  addr    : Nat := 0
  rkey    : Nat := 0
  len     : Nat := 0
  nsid    : Nat := 0
  shared  : Bool := false
  unload  : Bool := false
  deriving DecidableEq, Repr

/-- A program slot (11). -/
structure ProgSlot where
  slot     : Nat
  current  : Option ProgGen := none
  retained : Option ProgGen := none
  lastGen  : Nat := 0
  queue    : List ProgLoad := []
  deriving DecidableEq, Repr

/-- Comet states (12 Table 12.3). -/
inductive CometState where
  | running | done | aborted | expired
  deriving DecidableEq, Repr

/-- What a comet is: a subtype of Table 4.6, or a rebuild (12 R484). -/
inductive CometKind where
  | scan | search | audit | shortTest | extTest | export_ | rebuild
  deriving DecidableEq, Repr

/-- A comet (12). -/
structure Comet where
  num        : Nat
  kind       : CometKind
  sid        : Nat := 0
  ring       : Nat := 0
  nsid       : Nat := 0
  snapshot   : Nat := 0
  pinned     : Bool := false
  block      : Bytes := []
  low        : Bytes := []
  high       : Bytes := []
  refs       : List (Nat × Nat) := []   -- (program slot, generation) referenced (11 R454)
  st         : CometState := .running
  endCause   : Nat := 0
  endStatus  : Nat := 0
  gen        : Nat := 0                 -- generation of the last status block write
  creditWait : Bool := false
  degraded   : Bool := false
  peerWait   : Bool := false
  bytes      : Nat := 0                 -- RESULT_BYTES
  shown      : Nat := 0                 -- RESULT_BYTES of the last status block update (R488)
  consumed   : Nat := 0
  unitsDone  : Nat := 0
  unitsTotal : Nat := 0
  submitted  : Bool := false            -- export: its versions have been sent to the peer (R482)
  hits       : Nat := 0
  seen       : List Bytes := []         -- keys whose version it has examined (R476); self-tests: unit and test of each record
  reopened   : Bool := false            -- export: session reopened to the partner (Table 12.12)
  rebuilt    : List Bytes := []         -- export: keys of versions sent of which a page was rebuilt (Table 12.5)
  retries    : List (Bytes × Nat × Nat) := []  -- export: key, CSN, last retryable status
  moon       : Nat := 0                 -- rebuild: the moon concerned
  die        : Option Nat := none       -- rebuild: the die, none for a whole channel or moon
  channel    : Option Nat := none
  deriving DecidableEq, Repr

/-- The comets, running and those whose end is still to be reported. -/
structure Comets where
  list : List Comet := []
  deriving DecidableEq, Repr

end Sys2Proof.Machine
end

