-- ==== Sys2Proof/Machine/DeviceParts.lean ====
section
/-! DEFINITION. The parts of State below the host protocol: mode and power (02, 18), control requests and settings
(18), time (17, 18), media (08, 09), attention, log and health (16), ports (17), pair (15), firmware, service port
and shelf tag (19), feeds, thermal and sideband (20). Plain data. -/

namespace Sys2Proof.Machine

/-- Identity (18 Table 18.3; 19; 20 R714). -/
structure Ident where
  serial     : Bytes := List.replicate 16 0
  moduleId   : Nat := 0
  certDigest : Bytes := List.replicate 32 0
  slotPins   : Nat := 63               -- levels of SLOT_ID[5:0]: pulled up (20 Table 20.11)
  slotId     : Nat := 0                -- as last sampled (20 Table 20.11)
  tagUid     : Bytes := List.replicate 8 0
  madeTime   : Nat := 0
  deriving DecidableEq, Repr

/-- The operating mode with what Table 2.2 needs to leave it, and the conditions beside it (02, 16 R606). -/
structure ModePart where
  mode          : Mode := .commission
  beforeService : Mode := .solo
  beforeCustody : Mode := .solo
  archival      : Bool := false        -- ARCHIVAL_LOCK
  causeSpare    : Bool := false        -- CUSTODY_CAUSE, spare reserve at the floor
  causeVault    : Bool := false        -- CUSTODY_CAUSE, key slots erased by a vault alarm
  warming       : Bool := false
  warmingLong   : Bool := false
  fatal         : Bool := false
  deriving DecidableEq, Repr

/-- Power states (02 Table 2.3). -/
inductive PState where
  | p0 | p1 | p2 | p3 | p4
  deriving DecidableEq, Repr

/-- How the module was brought up or is being brought up (02 R81 to R85). -/
inductive StartKind where
  | clean | unclean | warm
  deriving DecidableEq, Repr

/-- What follows a clean shutdown (02 R77, R84). -/
inductive AfterShutdown where
  | stay | warmStart
  deriving DecidableEq, Repr

/-- Power state and start-up (02). -/
structure PowerPart where
  pstate    : PState := .p4
  entering  : Option PState := none    -- entry into a lower state in progress (R75)
  exiting   : Bool := false            -- exit to P0 in progress
  workHeld  : Bool := false            -- work arrived during an entry (R75)
  wanted    : Option PState := none    -- requested P2 or P3, waiting for R70 (R71)
  returnTo  : Option PState := none    -- woken for background work (R74)
  step      : Nat := 0                 -- start-up step of Table 2.6; 12 when done
  start     : StartKind := .clean
  shutdown  : Option AfterShutdown := none   -- a clean shutdown is in progress (R76)
  shutDone  : Bool := false            -- a clean shutdown is complete (R77)
  fromShutdown : Bool := false         -- COLD_RESTART asked for the start (R77)
  passDue   : Bool := false            -- a sampling pass follows this start: from P4, or a cold restart (09 R376)
  deriving DecidableEq, Repr

/-- The control block of the Setup Register Space (18 Table 18.5, Table 18.3). -/
structure Ctrl where
  code      : Nat := 0
  result    : Nat := 0
  reqSeq    : Nat := 0
  rejOffset : Nat := 0
  rejPath   : Nat := 0
  rejCount  : Nat := 0
  busy      : Option Nat := none       -- CODE of a request whose outcome is still to come
  deriving DecidableEq, Repr

/-- Settings kept in the settings store (18 Table 18.5, 18.7, 18.8, 18.13). -/
structure Settings where
  idleP0P1   : Nat := 50
  idleP1P2   : Nat := 2000
  idleP2P3   : Nat := 0
  serviceId  : Nat := 0x4B56
  orphanHold : Nat := 10
  idleLimit  : Nat := 0                -- SESSION_IDLE_LIMIT, minutes
  pinLife    : Nat := 1440
  pinLinger  : Nat := 60
  winLimit   : Nat := 128              -- units of 256 MiB
  timeSource : Nat := 0
  ptpPort    : Nat := 0
  deriving DecidableEq, Repr

/-- The time island (17 R641 to R645, 18 Table 18.13, 16 R604). -/
structure TimePart where
  now         : Nat := 0
  up          : Bool := true
  disciplined : Bool := false
  holdover    : Bool := false
  ptpLocked   : Bool := false
  ppsOk       : Bool := false
  todSet      : Bool := false
  ppsSeconds  : Option Nat := none
  offset      : Int := 0
  ppsRejected : Nat := 0
  goodSyncs   : Nat := 0
  ptpIgnored  : Nat := 0               -- PTP messages on other logical ports (R641)
  deriving DecidableEq, Repr

/-- The modes a flash block is in (08 R324). -/
inductive BlockMode where
  | qlc | slc | spare | retired
  deriving DecidableEq, Repr

/-- Page types (08 Table 8.3). -/
inductive PageType where
  | slcChunk | slcPack | qlcChunk | qlcPack | parity | map | mapLog | frontCkpt
  deriving DecidableEq, Repr

/-- A page header (08 Table 8.2): what it says beside FORMAT_VERSION and HDR_CRC. -/
structure PageHeader where
  kind        : PageType
  provisional : Bool := false
  shadow      : Bool := false
  pad         : Bool := false
  relocated   : Bool := false
  nsid        : Nat := 0
  progTemp    : Int := 0               -- 0.25 °C
  csn         : Nat := 0
  laddr       : Nat := 0
  valid       : Nat := 0               -- VALID_BYTES
  records     : Nat := 0
  stripe      : Nat := 0
  position    : Nat := 0
  narrow      : Bool := false
  partner     : Nat := 0               -- PARTNER_MOON
  keySlot     : Nat := 0
  token       : Nat := 0               -- PROV_TOKEN
  progTime    : Nat := 0
  deriving DecidableEq, Repr

/-- A programmed page: where it lies, its header, the object whose chunk or first pack record it holds (0: none), the objects
of its other pack records, and its data area as it was programmed; an empty list stands for zeros. -/
structure Page where
  block  : BlockId
  index  : Nat
  obj    : Nat := 0
  also   : List Nat := []
  chunk  : Nat := 0
  header : PageHeader
  area   : Bytes := []
  deriving DecidableEq, Repr

/-- A change to a moon's map (08 R328, R329, R333, R352). -/
inductive MapChange where
  | put (nsid : Nat) (key : Bytes) (csn obj : Nat)   -- a new version's map record
  | move (obj chunk stripe gen : Nat)                -- a page's new location, with its key generation (14 R543)
  | mapPage (page stripe : Nat)                      -- a map page's new location (08 R343, R347)
  | bind (token csn : Nat)                           -- a provisional token is bound to a CSN
  | void (token : Nat)                               -- a provisional token is void
  deriving DecidableEq, Repr

/-- A MAP_LOG record: its log sequence number, its bytes, the map page it changes and the change. -/
structure MapRec where
  seq    : Nat
  len    : Nat
  page   : Nat
  change : MapChange
  time   : Nat := 0
  temp   : Int := 0
  done   : Bool := false               -- its map page has been written back
  flash  : Bool := false               -- it is programmed on two channels of its moon and on the buddy (R352)
  deriving DecidableEq, Repr

/-- A line of a Map Cache: its tag, and the sub-blocks that are valid with the locations their map records give: the
stripe of each QLC page (08 R348). -/
structure MapLine where
  tag  : Nat
  subs : List (Nat × List Nat)
  deriving DecidableEq, Repr

/-- What one Front has written to FRONT_CKPT pages on every moon in service (08 R353). -/
structure Ckpt where
  front   : Front
  seq     : Nat
  hwm     : Nat
  entries : List JournalRec := []
  dir     : Bool := false              -- its index directory
  time    : Nat := 0
  deriving DecidableEq, Repr

/-- LADDR of the FRONT_CKPT pages of a checkpoint: the Front and the checkpoint sequence number (08 Table 8.3). -/
def Ckpt.laddr (k : Ckpt) : Nat := (if k.front = .b then 2 ^ 62 else 0) + k.seq

/-- A flash block that differs from a fresh one (08, 09). Counts are in units of 0.05 of an erase (R357); the clock
of a die is its equivalent-age clock, in ms at 40 degC (R372). -/
structure Block where
  id      : BlockId
  mode    : BlockMode := .qlc
  count   : Nat := 0                   -- equivalent erase count (R357)
  level   : Nat := 0                   -- levelling count (R379)
  slcCyc  : Nat := 0                   -- erases in SLC mode since it entered the SLC pool (R324)
  reads   : Nat := 0
  saved   : Nat := 0                   -- read counter as last saved (R371)
  logged  : Bool := false              -- its deferred refresh has been logged (R385)
  progAge : Nat := 0                   -- its die's clock when it was programmed
  progTemp : Int := 0                  -- its die's temperature then, 0.25 °C (R377)
  progTime : Nat := 0                  -- module time then (R380)
  sampleAge : Nat := 0                 -- its die's clock at its last sample or programming (R373)
  sampleTime : Nat := 0                -- module time then
  undec   : Option Nat := none         -- its die's clock at its last undecodable sample
  twice   : Bool := false              -- two undecodable samples within 30 days of the clock: to be retired (R374)
  due     : Bool := false              -- an SLC block queued for folding (R370, R374)
  pass    : Nat := 0                   -- the start in whose sampling pass it was sampled last (R376)
  deriving DecidableEq, Repr

/-- A band of eight, or seven, QLC blocks (08 R330, R344). -/
structure Band where
  num    : Nat
  blocks : List BlockId := []
  narrow : Bool := false
  due    : Nat := 0                    -- rank of 09 Table 9.7 that queued it for relocation; 0 none
  left   : Bool := false               -- its pages have moved; it is erased when no read uses them (09 R384)
  deriving DecidableEq, Repr

/-- A die whose clock has advanced or that is lost (09 R360, R372). -/
structure Die where
  moon  : Nat
  die   : Nat
  age   : Nat := 0
  temp  : Option Int := none           -- last sensor reading, 0.25 °C (R372, R377)
  bulk  : Nat := 0                     -- its spare blocks that replaced free blocks of lost dies (R359, R361)
  lost  : Bool := false
  deriving DecidableEq, Repr

/-- A moon (01, 08, 09, 14; 18 Table 18.10). -/
structure Moon where
  inService  : Bool := true
  lostCause  : Nat := 0                -- 0 none, 1 failed to wake, 2 declared lost, 3 tripped
  sparesUsed : Nat := 0                -- blocks taken from its spare pool since factory format (R360, R361)
  diesLost   : List Nat := []
  chansLost  : List Nat := []
  findings   : List (Nat × Nat) := []  -- retention findings: die, its clock (09 Table 9.6)
  maxTemp    : Int := 0
  enginesOut : Nat := 0                -- cipher engines out of service (14 R516)
  patternOut : Nat := 0                -- pattern engines out of service (16 Table 16.1)
  degraded   : Bool := false           -- its stripes are read degraded until the rebuild ends (08 R340, R343)
  slcFreed   : Nat := 0                -- bytes of SLC released and not yet erased (R324, R333)
  slcOpen    : Option (BlockId × Nat) := none  -- the SLC block being written and the pages it holds
  logOpen    : List (Option (BlockId × Nat)) := [none, none, none]  -- those of map log copies: two of its own, its buddy's (R352)
  extra      : List (Nat × Nat) := []          -- die, its good blocks beyond the rated ones (R319, R360)
  scans      : Nat := 0                        -- page-header scans, which read page 0 of every block (R355, R369)
  staged     : Nat := 0                -- bytes staged in its DRAM
  logTail    : Nat := 0                -- bytes of log tail (R352)
  tail       : List MapRec := []       -- the log tail (R352)
  logSeq     : Nat := 0                -- log sequence numbers used (Table 8.3)
  tailCkpt   : Nat := 0                -- log sequence number at the last log-tail checkpoint (02 R64, 07 Table 7.6)
  hotMap     : List Nat := []          -- map pages in its DRAM (R347)
  mapInval   : Bool := false           -- Map Cache invalidation in progress (R351)
  mapLines   : List MapLine := []      -- the lines of its Map Cache, most recently used first (R348)
  mapFill    : Option (Nat × List Nat) := none  -- the outstanding fill: object, locations read (R349)
  mapLate    : List (Nat × List Nat) := []  -- map updates that wait for the outstanding fill (R350)
  deriving DecidableEq, Repr

/-- A Front (01, 16). -/
structure FrontPart where
  inService : Bool := true
  lostCause : Nat := 0
  deriving DecidableEq, Repr

/-- A stripe with open pages (08 R330 to R334). -/
structure Stripe where
  num      : Nat
  complete : Bool := false
  pads     : List Nat := []
  deriving DecidableEq, Repr

/-- The media, moons and Fronts (08, 09). -/
structure Media where
  moons      : List Moon := List.replicate 8 {}
  fronts     : List FrontPart := [{}, {}]
  shardB     : List Nat := (List.range 64).drop 32   -- shards owned by Front B; the others are Front A's
  blocks     : List Block := []
  bands      : List Band := []
  dies       : List Die := []
  stripes    : List Stripe := []
  pages      : List Page := []         -- programmed data, parity, map and pad pages
  ckpts      : List Ckpt := []         -- FRONT_CKPT contents that recovery may still need (R353)
  filling    : Nat := 0                -- the band being filled; `stripes` are its stripes
  levelling  : Bool := false           -- static wear levelling is under way (09 R380)
  restarted  : Bool := false           -- an unclean start has set unlisted read counters (R371)
  starts     : Nat := 0                -- starts that a sampling pass follows (R376)
  shelfAge   : Bool := false           -- the unpowered interval is still to be added to the ages (R376)
  deriving DecidableEq, Repr

/-- A trouble-log entry (16 Table 16.5). -/
structure LogEntry where
  seq      : Nat
  time     : Nat
  csn      : Nat := 0
  code     : Nat
  severity : Nat
  unsync   : Bool := false
  unit     : Nat
  index    : Nat := 0
  rep      : Nat := 0                  -- REPEAT
  data     : Bytes := []
  deriving DecidableEq, Repr

/-- Attention, warnings and the trouble log (16, 18 Table 18.9). `parts`, `drams`, `islands` and `ports` hold
the conditions of Table 16.3 that no other part of State shows; `mgmtRestarts` counts restarts (R603). -/
structure Attn where
  causes   : Word := 1
  warnings : Word := 0
  log      : List LogEntry := []
  nextSeq  : Nat := 1
  islands  : List Nat := []            -- units marked failed until the next cold start (R88)
  retries  : List (Nat × Nat × Bool) := []  -- failed wake attempts so far, by 256 * unit + island; oscillator (R88)
  drams    : List (Nat × Nat) := []    -- (unit, channel) with a declared failed DRAM device (R601)
  windowLow : Bool := false            -- R317, window below 8 GiB for 10 s
  writeThru : Bool := false            -- R317, window 0 for 10 s
  noFree   : Bool := false             -- R368, logged once
  lateStart : Bool := false            -- R390
  holdsWit : Bool := false             -- the last witness access failed (R578)
  deriving DecidableEq, Repr

/-- The samples of one unit under one health monitor (16 R617, R618). -/
structure Monitor where
  monitor : Nat
  unit    : Nat
  idx     : Nat
  samples : List (Nat × Int) := []     -- day of P0 to P3 time, value; the latest 4,096
  deriving DecidableEq, Repr

/-- Health monitors; `days` counts the days of P0 to P3 time sampled. -/
structure Health where
  monitors : List Monitor := []
  days     : Nat := 0
  deriving DecidableEq, Repr

/-- Datapath gears (17 Table 17.6). -/
inductive Gear where
  | g0 | g1 | g2
  deriving DecidableEq, Repr

/-- The staging words of a staged group (18 Table 18.15). -/
structure StageWords where
  seq     : Nat := 0
  result  : Nat := 0
  applies : Nat := 0
  deriving DecidableEq, Repr

/-- The staged fields of a host port (18 Table 18.17). -/
structure PortCfg where
  breakout : Nat := 0
  pfcEn    : Bool := false
  dscp     : Nat := 46 + 48 * 64 + 26 * 4096 + 26 * 262144
  pcp      : Nat := 6 + 6 * 8 + 3 * 64 + 3 * 512
  deriving DecidableEq, Repr

/-- A host port (17, 18 Table 18.17). -/
structure HostPort where
  live     : PortCfg := {}
  stage    : PortCfg := {}
  words    : StageWords := {}
  linkUp   : Nat := 0                  -- bit s: logical port n.s up
  failed   : Nat := 0                  -- bit s: logical port n.s declared failed
  laneLock : Nat := 0
  eyeMin   : Nat := 0
  gearRx   : Gear := .g0
  gearTx   : Gear := .g0
  deriving DecidableEq, Repr

/-- The staged fields of a logical port: its 96 register bytes +0x00 to +0x5F (18 Table 18.18). -/
structure LPort where
  live     : Bytes := List.replicate 96 0
  stage    : Bytes := List.replicate 96 0
  words    : StageWords := {}
  away     : Bool := false             -- its addresses are carried by its twin (R27, R602)
  paused   : Bool := false             -- TQ2 and TQ3 paused by PFC (R634)
  reduced  : Nat := 0                  -- CNPs received: its requester rate is reduced (R634)
  announce : Nat := 0                  -- announcement repeats due (R629)
  counters : List Nat := List.replicate 22 0
  deriving DecidableEq, Repr

/-- A pair link (15 R573, R574; 17). -/
structure PairLink where
  trained  : Bool := false
  up       : Bool := false
  failed   : Bool := false
  seq      : Nat := 0                  -- SEQ of the last frame sent
  ack      : Nat := 0                  -- highest SEQ received in order
  gearRx   : Gear := .g0
  gearTx   : Gear := .g0
  counters : List Nat := List.replicate 22 0
  deriving DecidableEq, Repr

/-- A counter window of one path or session (18 Table 18.19). -/
structure CounterWin where
  path     : Path
  selected : Nat := 0
  valid    : Bool := false
  counters : List Nat := []
  deriving DecidableEq, Repr

/-- Ports and pair links. -/
structure Ports where
  hosts   : List HostPort := List.replicate 32 {}
  logical : List LPort := List.replicate 128 {}
  links   : List PairLink := List.replicate 8 {}
  windows : List CounterWin := []
  deriving DecidableEq, Repr

/-- What the MIRROR does about a silent loss (15 R577). -/
inductive WitnessWait where
  | idle
  | waiting (value : Nat)
  deriving DecidableEq, Repr

/-- What an outstanding witness compare-and-swap is for (15). -/
inductive CasFor where
  | renew | unmirror | promote
  deriving DecidableEq, Repr

/-- What becomes of the command of a settings change that has taken effect: it completes, or its row goes on (13 R498), or a
Range Map list has been applied (15 R593). -/
inductive ChangeEnd where
  | done (k : Comp)
  | deletion
  | map (list : Bytes)
  deriving DecidableEq, Repr

/-- A settings change that the partner does not hold yet (13 R514). -/
structure PendingChange where
  ref     : Nat
  changes : List SettingsChange
  after   : ChangeEnd
  deriving DecidableEq, Repr

/-- The pair (15). -/
structure PairPart where
  paired     : Bool := false
  member     : Nat := 0
  epoch      : Nat := 0
  word       : Nat := 0                -- WITNESS_VALUE: last value read or written
  inStep     : Bool := false           -- as last written to the witness
  lease      : Option Nat := none      -- module time at which the lease ends
  casIssued  : Nat := 0                -- module time of the outstanding compare-and-swap
  casFor     : CasFor := .renew
  witAddr    : Nat := 0
  witRkey    : Nat := 0
  witIp      : Bytes := []
  witService : Nat := 0
  aliveIn    : Bool := false
  partnerLost : Bool := false
  partnerWarm : Bool := false
  partnerMode : Nat := 0               -- MODE of its last heartbeat
  partnerZero : Bool := false
  partnerZeroAt : Nat := 0             -- module time at which its window was first seen forced to 0
  partnerCsn : Nat := 0
  markSent   : Nat := 0                -- high-water mark last sent to the partner (06 R240)
  markHeld   : Nat := 0                -- high-water mark that the partner holds
  owed       : List Nat := []          -- mutations forwarded whose decision record the partner does not hold yet
  partnerSerial : Bytes := List.replicate 16 0
  holding    : Bool := false           -- completions held until IN_STEP 0 is renewed (R572)
  wait       : WitnessWait := .idle
  joinUntil  : Option Nat := none      -- a JOIN is pending until this module time (R559)
  lastSwap   : Option Nat := none      -- EPOCH carried by the swap most recently executed (R580)
  swapWaits  : List Nat := []          -- ADM_PAIR SWAP commands forwarded to the primary
  resyncOn   : Bool := false
  resyncPin  : Option Nat := none      -- snapshot CSN of the resynchronisation; its pin stands on the primary
  resyncDone : Nat := 0
  resyncAll  : Nat := 0
  resyncKeys : List (Nat × Bytes) := []  -- keys seen in the stream
  records    : List CompletionRecord := []  -- completion records that the partner holds (R569)
  decisions  : List DecisionRecord := []    -- decision records without a completion record (R575)
  carried    : List CarriedSession := []    -- carried sessions of the primary (R557)
  comets     : List CarriedComet := []      -- comets of the primary (12 R489)
  applied    : Nat := 0                -- CSN up to which forwarded mutations are applied
  change     : Option PendingChange := none  -- the settings change that waits for the partner (13 R514)
  deriving DecidableEq, Repr

/-- Staging bank states (19 Table 19.2). -/
inductive BankState where
  | empty | receiving | verified
  deriving DecidableEq, Repr

/-- Who owns a staging bank (19 R675). -/
inductive BankOwner where
  | service
  | session (cred : Nat) (sid : Nat)
  deriving DecidableEq, Repr

/-- The facts of an image that the module keeps for a bank (19 Table 19.5). -/
structure ImageFacts where
  valid    : Bool := true              -- the bank holds a whole image
  version  : Nat := 0
  svn      : Nat := 0
  setFmt   : Nat := 1
  setFrom  : Nat := 1
  medFmt   : Nat := 1
  medFrom  : Nat := 1
  digest   : Bytes := List.replicate 48 0   -- SHA-384 of the image, for the measurements of 14 Table 14.9
  deriving DecidableEq, Repr

/-- A firmware component with its two banks (19 Table 19.4). -/
structure Component where
  bankB    : Bool := false             -- the running bank is B
  facts    : List ImageFacts := [{}, {}]   -- factory firmware in both banks (21 R728)
  counter  : Nat := 0                  -- anti-rollback counter (R680)
  stage    : BankState := .empty
  owner    : Option BankOwner := none
  staged   : List (Nat × Bytes) := []  -- blocks staged, latest first
  trial    : Bool := false
  atCold   : Bool := false             -- component 3: runs from the next cold start (R677)
  deriving DecidableEq, Repr

/-- Firmware, formats and the rollback point (19 R681 to R684). -/
structure Firmware where
  comps    : List Component := List.replicate 4 {}
  setFmt   : Nat := 1                  -- settings-store format in use
  medFmt   : Nat := 1                  -- on-media format in use
  rollback : Option (Nat × Nat) := none   -- the formats the rollback point holds
  applying : List Nat := []            -- components a warm start is to apply (R677)
  deriving DecidableEq, Repr

/-- The USB service port, the I3C target and the SPDM responder (19 R668 to R672; 18 R652; 14 R551). -/
structure UsbPart where
  vbus       : Bool := false
  pullUp     : Bool := false
  addr       : Nat := 0
  configured : Bool := false
  reqSeq     : Nat := 0
  lastReq    : Nat := 0
  result     : Nat := 0
  i3cAddr    : Option Nat := none
  spdmVer    : Bool := false
  spdmCaps   : Bool := false
  spdmAlgs   : Bool := false
  transcript : Bytes := []             -- SPDM messages so far, for the signatures
  deriving DecidableEq, Repr

/-- Who holds the tag (19 R690). -/
inductive TagHolder where
  | free | wired | rf
  deriving DecidableEq, Repr

/-- RF states of the tag (ISO/IEC 15693-3). -/
inductive TagRf where
  | ready | quiet | selected
  deriving DecidableEq, Repr

/-- The shelf tag (19 R685 to R692). `mem` lists the bytes that differ from the factory image of Table 19.7, by
rising offset; `todo` the wired writes still to be made, in order. -/
structure Tag where
  mem      : List (Nat × Byte) := []
  todo     : List (Nat × Bytes) := []  -- blocks: number, 4 bytes
  labelJob : Bool := false             -- the writes of a TAG_LABEL_WRITE are among them
  holder   : TagHolder := .free
  rf       : TagRf := .ready
  healthGen : Nat := 0
  shelfGen : Nat := 0
  shelfSeq : Nat := 0                  -- SHELF_SEQ
  seen     : Option (Nat × Nat) := none  -- shelf record of this start: SHUTDOWN_TIME, DEADLINE_DAY (R376, R390)
  deriving DecidableEq, Repr

/-- Hot-swap channel states (20 R694 to R696). -/
inductive Channel where
  | off | ramping | on | waiting | latched
  deriving DecidableEq, Repr

/-- A feed and its channel (20). -/
structure Feed where
  inRange : Bool := false
  lost    : Bool := true
  volt    : Nat := 0                   -- 10 mV
  chan    : Channel := .off
  retries : Nat := 0
  deriving DecidableEq, Repr

/-- How far the power-loss sequence has come (07 Table 7.6). -/
inductive LossStep where
  | none | deciding | flushing | gasped | off
  deriving DecidableEq, Repr

/-- Feeds, bulk rail and islands that outlive them (20; 07; 16 R603). -/
structure Feeds where
  a         : Feed := {}
  b         : Feed := {}
  present   : Bool := true
  bulkUp    : Bool := false
  loss      : LossStep := .none
  mgmtUp    : Bool := false
  mgmtFails : Nat := 0                 -- restarts since it last ran well (R603)
  deriving DecidableEq, Repr

/-- A throttled or tripped island (20 R708, R711). -/
structure IslandState where
  island  : Island
  level   : Nat := 0
  tripped : Bool := false
  rebuilt : Bool := false              -- a rebuild comet has been started for it
  deriving DecidableEq, Repr

/-- Thermal state (20). -/
structure Thermal where
  islands   : List IslandState := []
  coldest   : Int := 0                 -- coldest die, 0.25 °C
  inlet     : Int := 0
  inletMax  : Int := 0                 -- highest inlet reading since the shutdown (09 R376)
  broken    : List Sensor := []
  derate    : Nat := 1000              -- f of R713, in thousandths
  deriving DecidableEq, Repr

/-- Sideband pins (20 R715, R716). -/
structure Pins where
  short      : BitVec 24 := 0
  contention : Bool := false
  deriving DecidableEq, Repr

end Sys2Proof.Machine
end

