-- ==== Sys2Proof/Machine/State.lean ====
section
/-! DEFINITION. The state of the module: the queue of waiting commands, everything the module has put out, and the
parts of Machine/HostParts.lean and Machine/DeviceParts.lean; the reasons a step may stop; the state as shipped. -/

namespace Sys2Proof.Machine

/-- The state of a PX1500. INVENTORY.md lists every field with its rule and its reset value. -/
structure State where
  pending  : List Instr
  out      : List Output
  fresh    : Nat
  ident    : Ident
  mode     : ModePart
  power    : PowerPart
  ctrl     : Ctrl
  settings : Settings
  time     : TimePart
  sess     : Sess
  cmds     : Cmds
  locks    : Locks
  kv       : Store
  seq      : Seq
  win      : Win
  ns       : List Namespace
  creds    : Creds
  asu      : Asu
  vault    : Vault
  programs : List ProgSlot
  comets   : Comets
  media    : Media
  attn     : Attn
  health   : Health
  ports    : Ports
  pair     : PairPart
  fw       : Firmware
  usb      : UsbPart
  tag      : Tag
  feeds    : Feeds
  thermal  : Thermal
  pins     : Pins
  deriving DecidableEq, Repr

/-- Why a step may stop with a fault. -/
inductive Fault where
  /-- Raised by nothing in this model: every event of the block leaves it in a state the manual describes (02, 07,
  16). Safe: it only could make a run shorter. -/
  | unreachable
  deriving DecidableEq, Repr

/-- Why a step may answer that a command has no meaning. -/
inductive Refusal where
  /-- Raised by an arm of Machine/Dispatch.lean whose row has no meaning yet, with the row's mnemonic. Safe: the run
  ends where the hardware goes on. -/
  | notModelled (mnemonic : String)
  deriving DecidableEq, Repr

/-- The module as shipped (21 R728), before any feed is in range: every kept register at factory format, every
other register at its reset value (chapter 18), every part the manual gives no reset value for at the value that
notes/assumptions/3.md and notes/assumptions/4.md name. -/
def State.reset : State where
  pending  := []
  out      := []
  fresh    := 0
  ident    := {}
  mode     := {}
  power    := {}
  ctrl     := {}
  settings := {}
  time     := {}
  sess     := {}
  cmds     := {}
  locks    := {}
  kv       := {}
  seq      := { next := 0x1000, hwm := 0xFFF }
  win      := {}
  ns       := []
  creds    := {}
  asu      := {}
  vault    := {}
  programs := (List.range 16).map fun k => { slot := k }
  comets   := {}
  media    := {}
  attn     := {}
  health   := {}
  ports    := {}
  pair     := {}
  fw       := {}
  usb      := {}
  tag      := {}
  feeds    := {}
  thermal  := {}
  pins     := {}

end Sys2Proof.Machine
end

