-- ==== Sys2Proof/Machine/Asu.lean ====
section
/-! DEFINITION. The ASU tables as hardware: banks, pre-filter tags and the place of a new row (10 R391, R394 to R396), the
bits of a row with its parity (Table 10.3, 10.5, 10.7, 10.10), and its shadow copy (R421 to R425). -/

namespace Sys2Proof.Machine

/-! ### Banks and pre-filtering (10 R391, R394 to R396) -/

/-- A valid row as pre-filtering sees it: its number in its table and its pre-filter indexes (10 Table 10.2). -/
structure Placed where
  row : Nat
  idx : List Nat
  deriving DecidableEq, Repr

/-- The indexes of a row that Table 10.2 marks "all". -/
def allIndexes : List Nat := List.range 8

/-- Rows are grouped in banks of 256 (10 R391). -/
def bankOf (row : Nat) : Nat := row / 256

/-- Bit `b` of a bank's tag: some valid row of the bank has pre-filter index `b` (10 R394). -/
def tagBit (ps : List Placed) (bank b : Nat) : Bool := ps.any fun p => bankOf p.row == bank && decide (b ∈ p.idx)

/-- The 8-bit pre-filter tag of a bank. A row write changes it in the same cycle: it is a function of the rows (10 R394). -/
def bankTag (ps : List Placed) (bank : Nat) : BitVec 8 :=
  allIndexes.foldl (fun t b => t ||| if tagBit ps bank b then 1#8 <<< b else 0) 0

/-- A lookup enables the bank of a row (10 R395). -/
def enabled (ps : List Placed) (b row : Nat) : Bool := tagBit ps (bankOf row) b

/-- A bank has a free row. -/
def bankRoom (ps : List Placed) (bank : Nat) : Bool := decide ((ps.filter fun p => bankOf p.row == bank).length < 256)

/-- The lowest free row of a bank. -/
def freeIn (ps : List Placed) (bank : Nat) : Option Nat :=
  ((List.range 256).map (· + 256 * bank)).find? fun r => !ps.any (·.row == r)

/-- The place of a new row (10 R396): the lowest-numbered bank of the writer's allocation with the row's index bits set and a
free row, else the lowest-numbered with a free row. -/
def placeRow (ps : List Placed) (banks idx : List Nat) : Option Nat :=
  let like := banks.find? fun k => bankRoom ps k && idx.all (tagBit ps k)
  (like.orElse fun _ => banks.find? (bankRoom ps)).bind (freeIn ps)

/-- Range Map rows stand in order from row 0 (10 R397). -/
def rangePlaces (rows : List RangeRow) : List Placed :=
  ((List.range rows.length).zip rows).map fun p => { row := p.1, idx := [p.2.nsid % 8] }

/-- Rule Table rows. -/
def rulePlaces (rules : List Rule) : List Placed :=
  rules.map fun r => { row := r.idx, idx := if r.nsAny then allIndexes else [r.nsid % 8] }

/-- Session Table rows. -/
def State.sessPlaces (s : State) : List Placed := s.sess.sessions.map fun x => { row := x.row, idx := [x.handle % 8] }

/-- Pre-filter indexes of a Key-Lock row: FP[8:6] of a point row, all of a range row. -/
def LockRow.indexes (r : LockRow) : List Nat := if r.range then allIndexes else [r.fp / 64 % 8]

/-- Key-Lock Table rows. -/
def State.lockPlaces (s : State) : List Placed := s.locks.rows.map fun r => { row := r.row, idx := r.indexes }

/-- The rows of the Key-Lock Table that a lookup for a row sees: those of the banks that it enables; a range lookup enables
every bank. R395 names the banks of the Front's half; a range meets the point locks of every shard (R415), so the lookup
here is made in both halves: DEDUCED, notes/assumptions/67.md. -/
def State.lockLookup (s : State) (r : LockRow) : List LockRow :=
  if r.range then s.locks.rows else s.locks.rows.filter fun q => enabled s.lockPlaces (r.fp / 64 % 8) q.row

/-- Handles whose HANDLE[2:0] selects a bank with room (10 R396); with no such bank every handle does. -/
def State.handleFits (s : State) (h : Nat) : Bool :=
  let ps := s.sessPlaces
  let room := fun b => (List.range 256).any fun k => tagBit ps k b && bankRoom ps k
  room (h % 8) || !allIndexes.any room

/-! ### Row bits and parity (10 Table 10.3, 10.5, 10.7, 10.10) -/

/-- Fields of a row, each with its lowest bit and its width. -/
def rowBits (fs : List (Nat × Nat × Nat)) : Nat := sumNat (fs.map fun f => f.2.2 % 2 ^ f.2.1 * 2 ^ f.1)

/-- The number of set bits among the lowest `w` is odd. -/
def oddBits (w n : Nat) : Bool := ((List.range w).filter (bitOf n)).length % 2 == 1

/-- Bits [`w` - 1 : 0] with even parity over them in bit `w`. -/
def withParity (w n : Nat) : Nat := n % 2 ^ w + if oddBits w n then 2 ^ w else 0

/-- Bits of a row that its PARITY covers (10 Table 10.3, 10.5, 10.7, 10.10). -/
def parityBit : AsuTable → Nat
  | .range => 286 | .rule => 204 | .session => 165 | .lock => 351

/-- A Range Map row (10 Table 10.3). -/
def RangeRow.bits (r : RangeRow) : Nat :=
  rowBits [(0, 256, leNat r.low), (256, 6, r.low.length), (262, 12, r.nsid), (274, 10, r.owner), (284, 1, b2n r.active),
    (285, 1, 1)]

/-- A Rule Table row (10 Table 10.5). -/
def Rule.bits (r : Rule) : Nat :=
  rowBits [(0, 128, leNat r.pre), (128, 5, r.pre.length), (133, 12, r.nsid), (145, 1, b2n r.nsAny), (146, 32, r.cred),
    (178, 1, b2n r.credAny), (179, 3, r.roles), (182, 8, r.ops), (190, 12, r.priority), (202, 1, b2n r.allow), (203, 1, 1)]

/-- CLASS of a session (10 Table 10.7). -/
def SessClass.code : SessClass → Nat
  | .pending => 0 | .live => 1 | .orphan => 2

/-- A Session Table row (10 Table 10.7). -/
def Session.bits (x : Session) : Nat :=
  rowBits [(0, 32, x.handle), (32, 24, x.qpn), (56, 1, if x.front = .b then 1 else 0), (57, 7, x.lport), (64, 2, x.cls.code),
    (66, 2, x.role), (68, 32, x.cred), (100, 32, x.age), (132, 32, x.limit), (164, 1, 1)]

/-- The length field of a bound of a Key-Lock row: 17 for a longer one (10 Table 10.10). -/
def boundLen (p : Bytes) (long : Bool) : Nat := if long then 17 else p.length

/-- A Key-Lock row (10 Table 10.10). -/
def LockRow.bits (r : LockRow) : Nat :=
  rowBits [(0, 64, r.fp), (64, 128, leNat r.p0), (192, 5, boundLen r.p0 r.p0Long), (197, 128, leNat r.p1),
    (325, 5, boundLen r.p1 r.p1Long), (330, 12, r.nsid), (342, 6, r.shard), (348, 1, b2n r.range), (349, 1, b2n r.granted),
    (350, 1, 1), (352, 32, r.ref)]

/-- The bits of a row of a table, with its PARITY; 0 for a row that is not in use. -/
def State.rowImage (s : State) (t : AsuTable) (row : Nat) : Nat :=
  let body := match t with
    | .range => (s.asu.ranges[row]?).map RangeRow.bits
    | .rule => (s.asu.rules.find? (·.idx == row)).map Rule.bits
    | .session => (s.sess.sessions.find? (·.row == row)).map Session.bits
    | .lock => (s.locks.rows.find? (·.row == row)).map LockRow.bits
  match body with
  | some n => withParity (parityBit t) n + n / 2 ^ (parityBit t + 1) * 2 ^ (parityBit t + 1)
  | none => 0

/-! ### The shadow copy and the checks of a lookup (10 R421 to R425) -/

/-- The shadow of a row: every row write writes it in the same cycle, so it is the row's bits, with the check bits of a
single-error-correcting, double-error-detecting code (10 R421). -/
def State.shadow (s : State) (t : AsuTable) (row : Nat) : Nat × BitVec 10 :=
  (s.rowImage t row, Config.rowEcc (s.rowImage t row))

/-- The row is in use: its VALID bit is set. -/
def rowValid (t : AsuTable) (bits : Nat) : Bool := bitOf bits (parityBit t - 1)

/-- The bits of a row, its PARITY among them, have odd parity: its PARITY fails (10 R423). -/
def parityFails (t : AsuTable) (bits : Nat) : Bool := oddBits (parityBit t + 1) bits

/-- What was read of a row is a fault that R422 repairs: the scrubber compares it with the shadow; a row that matches fails
its PARITY (R423); a lookup's check against the shadow fails, of a hit in every table, of a miss not in the Rule Table
(R425, Table 10.12). -/
def State.rowFault (s : State) (t : AsuTable) (row bits : Nat) : AsuCheck → Bool
  | .scrub => bits != (s.shadow t row).1
  | .parity => rowValid t bits && parityFails t bits
  | .hit => rowValid t bits && bits != (s.shadow t row).1
  | .miss => t != .rule && rowValid t (s.shadow t row).1 && bits != (s.shadow t row).1

end Sys2Proof.Machine
end

