-- ==== Sys2Proof/Machine/Crypto.lean ====
section
/-! DEFINITION. The standard functions the manual names: CRC-32C (01 R32), SHA-256 (14 R548), SHA-384 (19 R673),
HMAC-SHA-256 (03 Table 3.3), the KDF of NIST SP 800-108 (14 R532), AES-256 with the RFC 3394 unwrap (13 R502, 14
R535), and the tweak, IV and authenticated data of 14 R522 and R523. -/

namespace Sys2Proof.Machine

/-- One bit step of the reflected Castagnoli CRC. -/
def crcBit (c : BitVec 32) : BitVec 32 :=
  if c.getLsbD 0 then (c >>> 1) ^^^ 0x82F63B78#32 else c >>> 1

/-- One byte step of CRC-32C. -/
def crcByte (c : BitVec 32) (b : Byte) : BitVec 32 :=
  crcBit (crcBit (crcBit (crcBit (crcBit (crcBit (crcBit (crcBit (c ^^^ b.setWidth 32))))))))

/-- CRC-32C with a given initial value, reflected, final XOR 0xFFFFFFFF (R32, R413). -/
def crc32cFrom (init : BitVec 32) (bs : Bytes) : BitVec 32 :=
  bs.foldl crcByte init ^^^ 0xFFFFFFFF#32

/-- CRC-32C (R32). -/
def crc32c (bs : Bytes) : BitVec 32 := crc32cFrom 0xFFFFFFFF#32 bs

/-- Big-endian bytes of a word of `n` bytes. -/
def toBe (n v : Nat) : Bytes := (toLe n v).reverse

/-- The number a big-endian byte string holds. -/
def beNat (bs : Bytes) : Nat := leNat bs.reverse

/-- Splits into pieces of `n` elements; `fuel` bounds their number. -/
def chunks {α : Type} (n : Nat) : Nat → List α → List (List α)
  | 0, _ => []
  | _ + 1, [] => []
  | fuel + 1, l => l.take n :: chunks n fuel (l.drop n)

/-- FIPS 180-4 padding for blocks of `blk` bytes with a length field of `lw` bytes. -/
def shaPad (blk lw : Nat) (m : Bytes) : Bytes :=
  let total := roundUp (m.length + 1 + lw) blk
  m ++ [0x80#8] ++ zeros (total - m.length - 1 - lw) ++ toBe lw (8 * m.length)

/-- The first 64 bits of the fractional parts of the cube roots of the first eighty primes (FIPS 180-4), four roots to a
number, the first root in its upper bits. -/
def cubeRoots : List Nat :=
  [0x428a2f98d728ae227137449123ef65cdb5c0fbcfec4d3b2fe9b5dba58189dbbc,
   0x3956c25bf348b53859f111f1b605d019923f82a4af194f9bab1c5ed5da6d8118,
   0xd807aa98a303024212835b0145706fbe243185be4ee4b28c550c7dc3d5ffb4e2,
   0x72be5d74f27b896f80deb1fe3b1696b19bdc06a725c71235c19bf174cf692694,
   0xe49b69c19ef14ad2efbe4786384f25e30fc19dc68b8cd5b5240ca1cc77ac9c65,
   0x2de92c6f592b02754a7484aa6ea6e4835cb0a9dcbd41fbd476f988da831153b5,
   0x983e5152ee66dfaba831c66d2db43210b00327c898fb213fbf597fc7beef0ee4,
   0xc6e00bf33da88fc2d5a79147930aa72506ca6351e003826f142929670a0e6e70,
   0x27b70a8546d22ffc2e1b21385c26c9264d2c6dfc5ac42aed53380d139d95b3df,
   0x650a73548baf63de766a0abb3c77b2a881c2c92e47edaee692722c851482353b,
   0xa2bfe8a14cf10364a81a664bbc423001c24b8b70d0f89791c76c51a30654be30,
   0xd192e819d6ef5218d69906245565a910f40e35855771202a106aa07032bbd1b8,
   0x19a4c116b8d2d0c81e376c085141ab532748774cdf8eeb9934b0bcb5e19b48a8,
   0x391c0cb3c5c95a634ed8aa4ae3418acb5b9cca4f7763e373682e6ff3d6b2b8a3,
   0x748f82ee5defb2fc78a5636f43172f6084c87814a1f0ab728cc702081a6439ec,
   0x90befffa23631e28a4506cebde82bde9bef9a3f7b2c67915c67178f2e372532b,
   0xca273eceea26619cd186b8c721c0c207eada7dd6cde0eb1ef57d4f7fee6ed178,
   0x06f067aa72176fba0a637dc5a2c898a6113f9804bef90dae1b710b35131c471b,
   0x28db77f523047d8432caab7b40c724933c9ebe0a15c9bebc431d67c49c100d4c,
   0x4cc5d4becb3e42b6597f299cfc657e2a5fcb6fab3ad6faec6c44198c4a475817]

/-- The `w` upper bits of each 64-bit quarter of a 256-bit number. -/
def quarters (w n : Nat) : List (BitVec w) := [192, 128, 64, 0].map fun at_ => BitVec.ofNat w (n >>> (at_ + (64 - w)))

/-- The round constants of SHA-256: 32 bits of the first sixty-four roots. -/
def k256 : List (BitVec 32) := (cubeRoots.take 16).flatMap (quarters 32)

/-- The round constants of SHA-384: 64 bits of each root. -/
def k512 : List (BitVec 64) := cubeRoots.flatMap (quarters 64)

/-- The rotations and shifts that tell SHA-256 from SHA-384: big sigma 0, big sigma 1, small sigma 0, small sigma 1. -/
structure ShaRots where
  s0 : Nat × Nat × Nat
  s1 : Nat × Nat × Nat
  g0 : Nat × Nat × Nat
  g1 : Nat × Nat × Nat
  deriving DecidableEq, Repr

def rots256 : ShaRots := { s0 := (2, 13, 22), s1 := (6, 11, 25), g0 := (7, 18, 3), g1 := (17, 19, 10) }
def rots512 : ShaRots := { s0 := (28, 34, 39), s1 := (14, 18, 41), g0 := (1, 8, 7), g1 := (19, 61, 6) }

/-- Three rotations, XORed. -/
def shaBig {w : Nat} (r : Nat × Nat × Nat) (x : BitVec w) : BitVec w :=
  x.rotateRight r.1 ^^^ x.rotateRight r.2.1 ^^^ x.rotateRight r.2.2

/-- Two rotations and a shift, XORed. -/
def shaSmall {w : Nat} (r : Nat × Nat × Nat) (x : BitVec w) : BitVec w :=
  x.rotateRight r.1 ^^^ x.rotateRight r.2.1 ^^^ (x >>> r.2.2)

/-- One round: the eight working words, the schedule's latest sixteen words (oldest first) and one constant. -/
def shaRound {w : Nat} (r : ShaRots) (st : List (BitVec w) × List (BitVec w)) (k : BitVec w) :
    List (BitVec w) × List (BitVec w) :=
  match st with
  | ([a, b, c, d, e, f, g, h], ws) =>
    let w0 := ws.getD 0 0
    let t1 := h + shaBig r.s1 e + ((e &&& f) ^^^ (~~~e &&& g)) + k + w0
    let t2 := shaBig r.s0 a + ((a &&& b) ^^^ (a &&& c) ^^^ (b &&& c))
    let w16 := shaSmall r.g1 (ws.getD 14 0) + ws.getD 9 0 + shaSmall r.g0 (ws.getD 1 0) + w0
    ([t1 + t2, a, b, c, d + t1, e, f, g], ws.drop 1 ++ [w16])
  | other => other

/-- One block of `blk` bytes in words of `w` bits. -/
def shaBlock {w : Nat} (r : ShaRots) (ks : List (BitVec w)) (hs : List (BitVec w)) (blk : Bytes) : List (BitVec w) :=
  let ws := (chunks (w / 8) 16 blk).map fun c => BitVec.ofNat w (beNat c)
  List.zipWith (· + ·) hs (ks.foldl (shaRound r) (hs, ws)).1

/-- SHA-256 (FIPS 180-4; R548). -/
def sha256 (m : Bytes) : Bytes :=
  let p := shaPad 64 8 m
  let h0 : List (BitVec 32) := [0x6a09e667, 0xbb67ae85, 0x3c6ef372, 0xa54ff53a, 0x510e527f, 0x9b05688c, 0x1f83d9ab, 0x5be0cd19]
  ((chunks 64 (p.length / 64) p).foldl (shaBlock rots256 k256) h0).flatMap fun x => toBe 4 x.toNat

/-- SHA-384 (FIPS 180-4; R673). -/
def sha384 (m : Bytes) : Bytes :=
  let p := shaPad 128 16 m
  let h0 : List (BitVec 64) := [0xcbbb9d5dc1059ed8, 0x629a292a367cd507, 0x9159015a3070dd17, 0x152fecd8f70e5939,
    0x67332667ffc00b31, 0x8eb44a8768581511, 0xdb0c2e0d64f98fa7, 0x47b5481dbefa4fa4]
  (((chunks 128 (p.length / 128) p).foldl (shaBlock rots512 k512) h0).flatMap fun x => toBe 8 x.toNat).take 48

/-- HMAC-SHA-256 (03 Table 3.3). -/
def hmac256 (key m : Bytes) : Bytes :=
  let k := fit 64 (if key.length > 64 then sha256 key else key)
  sha256 (k.map (· ^^^ 0x5C#8) ++ sha256 (k.map (· ^^^ 0x36#8) ++ m))

/-- The key check value of a root (14 Table 14.4). -/
def kcvOf (root : Bytes) : Bytes := (hmac256 root (ascii "PX-KCV")).take 8

/-- The KDF in counter mode of NIST SP 800-108 with HMAC-SHA-256 (R532): a 32-bit counter, the label, a zero byte,
the context and the output length in bits. -/
def kdf (root label context : Bytes) (bits : Nat) : Bytes :=
  ((List.range ((bits + 255) / 256)).flatMap fun i =>
    hmac256 root (toBe 4 (i + 1) ++ label ++ [0#8] ++ context ++ toBe 4 bits)).take (bits / 8)

/-- The XTS key pair of a generation: data key, then tweak key (14 Table 14.4). -/
def xtsKeys (root : Bytes) (slot gen : Nat) : Bytes := kdf root (ascii "PX-XTS") (toLe 2 slot ++ toLe 4 gen) 512

/-- The seal key of a slot (14 Table 14.4). -/
def sealKey (root : Bytes) (slot : Nat) : Bytes := kdf root (ascii "PX-GMAC") (toLe 2 slot) 256

/-- Bytewise XOR. -/
def xorBytes (a b : Bytes) : Bytes := List.zipWith (· ^^^ ·) a b

/-! AES works on numbers: byte `i` of a word or block is bits `8 i` to `8 i + 7`. -/

/-- The S-box of FIPS 197: its value for `x` is byte `x`. -/
def aesSbox : Nat :=
  0x16bb54b00f2d99416842e6bf0d89a18cdf2855cee9871e9b948ed9691198f8e19e1dc186b95735610ef6034866b53e708a8bbd4b1f74dde8c6b4a61c2e2578ba08ae7a65eaf4566ca94ed58d6d37c8e779e4959162acd3c25c2406490a3a32e0db0b5ede14b8ee4688902a22dc4f816073195d643d7ea7c41744975fec130ccdd2f3ff1021dab6bcf5389d928f40a351a89f3c507f02f94585334d43fbaaefd0cf584c4a39becb6a5bb1fc20ed00d153842fe329b3d63b52a05a6e1b1a2c830975b227ebe28012079a059618c323c7041531d871f1e5a534ccf73f362693fdb7c072a49cafa2d4adf04759fa7dc982ca76abd7fe2b670130c56f6bf27b777c63

/-- The inverse S-box of FIPS 197: its value for `x` is byte `x`. -/
def aesInvSbox : Nat :=
  0x7d0c2155631469e126d677ba7e042b17619953833cbbebc8b0f52aae4d3be0a0ef9cc9939f7ae52d0d4ab519a97f51605fec8027591012b131c7078833a8dd1ff45acd78fec0db9a2079d2c64b3e56fc1bbe18aa0e62b76f89c5291d711af1476edf751ce837f9e28535ade72274ac9673e6b4f0cecff297eadc674f4111913a6b8a130103bdafc1020f3fca8f1e2cd00645b3b80558e4f70ad3bc8c00abd890849d8da75746155edab9edfd5048706c92b6655dcc5ca4d41698688664f6f87225d18b6d49a25b76b224d92866a12e084ec3fa420b954cee3d23c2a632947b54cbe9dec444438e3487ff2f9b8239e37cfbd7f3819ea340bf38a53630d56a0952

/-- Byte `i` of a number. -/
def natByte (s i : Nat) : Nat := (s >>> (8 * i)) % 256

/-- The number whose byte `i` is `f i`, for `i` below the first argument. -/
def packBytes : Nat → (Nat → Nat) → Nat
  | 0, _ => 0
  | n + 1, f => packBytes n f + f n <<< (8 * n)

/-- Doubling in GF(2^8) of AES. -/
def xtime (x : Nat) : Nat := (2 * x) ^^^ (0x11B * (x / 128))

/-- The product with a constant below 16 in GF(2^8) of AES. -/
def gfTimes (c x : Nat) : Nat :=
  (x * (c % 2)) ^^^ (xtime x * (c / 2 % 2)) ^^^ (xtime (xtime x) * (c / 4 % 2)) ^^^ (xtime (xtime (xtime x)) * (c / 8))

/-- SubWord of FIPS 197. -/
def subWord (w : Nat) : Nat := packBytes 4 fun i => natByte aesSbox (natByte w i)

/-- Step `i` and those after it of the AES-256 key expansion over words, latest first. -/
def aesExpand : Nat → Nat → Nat → List Nat → List Nat
  | 0, _, _, ws => ws
  | n + 1, i, rcon, ws =>
    let t := ws.getD 0 0
    let t' := if i % 8 = 0 then subWord (t / 256 + t % 256 * 2 ^ 24) ^^^ rcon else if i % 8 = 4 then subWord t else t
    aesExpand n (i + 1) (if i % 8 = 0 then xtime rcon else rcon) ((t' ^^^ ws.getD 7 0) :: ws)

/-- The sixty words of the key schedule of AES-256. -/
def aesKeys (key : Bytes) : List Nat :=
  (aesExpand 52 8 1 ((List.range 8).map fun i => leNat (slice key (4 * i) 4)).reverse).reverse

/-- The round key of a round. -/
def aesRoundKey (ws : List Nat) (r : Nat) : Nat :=
  ws.getD (4 * r) 0 + ws.getD (4 * r + 1) 0 <<< 32 + ws.getD (4 * r + 2) 0 <<< 64 + ws.getD (4 * r + 3) 0 <<< 96

/-- InvShiftRows, then InvSubBytes, on a block kept column by column. -/
def invShiftSub (s : Nat) : Nat := packBytes 16 fun i => natByte aesInvSbox (natByte s ((i + 16 - 4 * (i % 4)) % 16))

/-- InvMixColumns: row `i % 4` of column `i / 4`. -/
def invMixColumns (s : Nat) : Nat := packBytes 16 fun i =>
  let row := fun k => natByte s (i / 4 * 4 + (i + k) % 4)
  gfTimes 14 (row 0) ^^^ gfTimes 11 (row 1) ^^^ gfTimes 13 (row 2) ^^^ gfTimes 9 (row 3)

/-- The rounds of the inverse cipher from round `r` down to round 0. -/
def aesRounds (ws : List Nat) : Nat → Nat → Nat
  | 0, s => s
  | r + 1, s =>
    let s1 := invShiftSub s ^^^ aesRoundKey ws r
    aesRounds ws r (if r = 0 then s1 else invMixColumns s1)

/-- AES-256 decryption of one block (FIPS 197). -/
def aesDec (key block : Bytes) : Bytes :=
  let ws := aesKeys key
  toLe 16 (aesRounds ws 14 (leNat block ^^^ aesRoundKey ws 14))

/-- SubBytes, then ShiftRows. -/
def shiftSub (s : Nat) : Nat := packBytes 16 fun i => natByte aesSbox (natByte s ((i + 4 * (i % 4)) % 16))

/-- MixColumns: row `i % 4` of column `i / 4`. -/
def mixColumns (s : Nat) : Nat := packBytes 16 fun i =>
  let row := fun k => natByte s (i / 4 * 4 + (i + k) % 4)
  gfTimes 2 (row 0) ^^^ gfTimes 3 (row 1) ^^^ row 2 ^^^ row 3

/-- The last `n` of the fourteen rounds of the cipher; the very last has no MixColumns. -/
def aesForward (ws : List Nat) : Nat → Nat → Nat
  | 0, s => s
  | n + 1, s =>
    let s1 := shiftSub s
    aesForward ws n ((if n = 0 then s1 else mixColumns s1) ^^^ aesRoundKey ws (14 - n))

/-- AES-256 encryption of one block (FIPS 197). -/
def aesEnc (key block : Bytes) : Bytes :=
  let ws := aesKeys key
  toLe 16 (aesForward ws 14 (leNat block ^^^ aesRoundKey ws 0))

/-- One step of the RFC 3394 unwrap: register A and the blocks R, step number t, index i. -/
def unwrapStep (key : Bytes) (n : Nat) (st : Bytes × List Bytes) (t : Nat) : Bytes × List Bytes :=
  let i := (t - 1) % n
  let b := aesDec key (xorBytes st.1 (toBe 8 t) ++ st.2.getD i [])
  (b.take 8, st.2.set i (b.drop 8))

/-- AES-256 Key Unwrap (RFC 3394): none when the integrity check fails (R502). -/
def keyUnwrap (key wrapped : Bytes) : Option Bytes :=
  let n := wrapped.length / 8 - 1
  let r := ((List.range (6 * n)).reverse.map (· + 1)).foldl (unwrapStep key n)
    (wrapped.take 8, chunks 8 n (wrapped.drop 8))
  if r.1 = List.replicate 8 0xA6#8 then some (r.2.flatMap id) else none

/-- The XTS tweak of a data unit (R522). -/
def xtsTweak (object chunk unit : Nat) (mapRecord : Bool) : Bytes :=
  toLe 16 (object % 2 ^ 46 + chunk % 2 ^ 18 * 2 ^ 46 + unit % 4 * 2 ^ 64 + b2n mapRecord * 2 ^ 66)

/-- Multiplication by the primitive element of GF(2^128) in IEEE 1619. -/
def timesAlpha (t : Nat) : Nat := if t < 2 ^ 127 then 2 * t else (2 * t - 2 ^ 128) ^^^ 0x87

/-- The `n`-th power of the primitive element times `t`. -/
def alphaPow : Nat → Nat → Nat
  | 0, t => t
  | n + 1, t => alphaPow n (timesAlpha t)

/-- One block of XTS under its tweak value. -/
def xtsBlock (key : Bytes) (t : Nat) (block : Bytes) : Bytes :=
  xorBytes (aesEnc key (xorBytes block (toLe 16 t))) (toLe 16 t)

/-- XTS-AES-256 of one data unit (IEEE 1619, R520, R521): a length that is no multiple of 16 steals ciphertext from the block
before; a unit shorter than 16 bytes is padded with zero bytes and stored as 16. `keys`: data key, then tweak key. -/
def xtsUnit (keys tweak unit : Bytes) : Bytes :=
  let data := fit (max 16 unit.length) unit
  let n := data.length / 16
  let r := data.length % 16
  let t0 := leNat (aesEnc (keys.drop 32) tweak)
  let enc := fun (k : Nat) (b : Bytes) => xtsBlock (keys.take 32) (alphaPow k t0) b
  let blocks := fun (m : Nat) => (List.range m).flatMap fun k => enc k (slice data (16 * k) 16)
  if r = 0 then blocks n
  else
    let stolen := enc (n - 1) (slice data (16 * (n - 1)) 16)
    blocks (n - 1) ++ enc n (slice data (16 * n) r ++ stolen.drop r) ++ stolen.take r

/-- The stored bytes of a pack record's body or of a chunk: data units of 4,096 bytes, each under its own tweak (R520). -/
def xtsBody (keys : Bytes) (object chunk : Nat) (body : Bytes) : Bytes :=
  (List.range ((body.length + 4095) / 4096)).flatMap fun u =>
    xtsUnit keys (xtsTweak object chunk u false) (slice body (4096 * u) 4096)

/-- The IV of a seal (R523). -/
def sealIv (sealPrefix object : Nat) : Bytes := toLe 12 (object % 2 ^ 46 + sealPrefix % 2 ^ 50 * 2 ^ 46)

/-- The authenticated data of a seal (R523). -/
def sealAad (nsid : Nat) (key value : Bytes) : Bytes :=
  toLe 2 nsid ++ toLe 2 key.length ++ key ++ toLe 8 value.length ++ sha256 value

/-- The number of AES blocks a data unit counts for usage (R539): a short block counts as one. -/
def aesBlocks (len : Nat) : Nat := (len + 15) / 16

/-- The bytewise XOR of a stripe's data pages (R331). -/
def parityPage (pages : List Bytes) (n : Nat) : Bytes := pages.foldl (fun acc p => xorBytes acc (fit n p)) (zeros n)

end Sys2Proof.Machine
end

