-- ==== Sys2Proof/Machine/Format.lean ====
section
/-! DEFINITION. Encodings shared by the meanings: the fields of a descriptor (04 Table 4.1 to 4.4), the status
codes and the completion entry (04 Table 4.11 to 4.14), and the mode, power-state and unit codes that records and
registers carry (18 Table 18.4, 16 Table 16.6, Table 16.7). -/

namespace Sys2Proof.Machine

/-! ### Descriptor fields (R155) -/

def dOpcode (d : Bytes) : Nat := byteAt d 0
def dSubop (d : Bytes) : Nat := byteAt d 1
def dTag (d : Bytes) : Nat := u16At d 2
def dFlags (d : Bytes) : Nat := u16At d 4
def dNsid (d : Bytes) : Nat := bitsOf (u16At d 6) 0 12
def dKeyLen (d : Bytes) : Nat := bitsOf (u16At d 8) 0 13
def dCount (d : Bytes) : Nat := u16At d 10
def dValueRkey (d : Bytes) : Nat := u32At d 12
def dArg64 (d : Bytes) : Nat := u64At d 16
def dKeyArea (d : Bytes) : Bytes := slice d 24 24
def dValueAddr (d : Bytes) : Nat := u64At d 48
def dValueLen (d : Bytes) : Nat := u32At d 56
def dArg32 (d : Bytes) : Nat := u32At d 60

/-! The flags of 04 Table 4.2. -/

def fFence (f : Nat) : Bool := bitOf f 0
def fStrict (f : Nat) : Bool := bitOf f 1
def fSnapshot (f : Nat) : Bool := bitOf f 2
def fNoDigest (f : Nat) : Bool := bitOf f 3
def fReturnDigest (f : Nat) : Bool := bitOf f 4
def fSgl (f : Nat) : Bool := bitOf f 5
def fIfAbsent (f : Nat) : Bool := bitOf f 6
def fIfPresent (f : Nat) : Bool := bitOf f 7

/-! Opcodes (04 Table 4.5). -/

def opGet : Nat := 0x01
def opPut : Nat := 0x02
def opDelete : Nat := 0x03
def opCas : Nat := 0x04
def opHead : Nat := 0x05
def opBatch : Nat := 0x06
def opObjBegin : Nat := 0x07
def opObjAppend : Nat := 0x08
def opObjSeal : Nat := 0x09
def opDeleteRange : Nat := 0x0A
def opComet : Nat := 0x20

/-- An opcode of 04 Table 4.5. -/
def opKnown (op : Nat) : Bool :=
  (decide (1 ≤ op) && decide (op ≤ 0x0A)) || op == opComet || (decide (0x40 ≤ op) && decide (op ≤ 0x5A))

/-- An ADM_ command. -/
def opAdmin (op : Nat) : Bool := decide (0x40 ≤ op) && decide (op ≤ 0x5A)

/-- "Reads" in the sense of 02 R50: KV_GET, KV_HEAD and the comets. -/
def opRead (op : Nat) : Bool := op == opGet || op == opHead || op == opComet

/-- "Mutations" in the sense of 02 R50: every other data command. -/
def opMutation (op : Nat) : Bool := decide (1 ≤ op) && decide (op ≤ 0x0A) && !opRead op

/-! ### Status codes and completions -/

/-- The code of a status (04 Table 4.13). -/
def Status.code : Status → Nat
  | .ok => 0x0000 | .okSuperseded => 0x0001
  | .notFound => 0x0101 | .alreadyExists => 0x0102 | .casMismatch => 0x0103 | .keyLength => 0x0104
  | .valueTooLarge => 0x0105
  | .denied _ => 0x0201 | .quota => 0x0202 | .readOnly => 0x0203
  | .redirect => 0x0301 | .fenced => 0x0302
  | .abortedReset => 0x0401 | .snapshotExpired => 0x0402
  | .sealFail => 0x0501 | .mediaUnrecovered => 0x0502
  | .busyRetry => 0x0601 | .slotBusy => 0x0602 | .noSpace => 0x0603 | .warming => 0x0604
  | .hostAccess => 0x0701

/-- The reason code of ST_DENIED; 0 for every other status (04 R176, R183). -/
def Status.detail : Status → Nat
  | .denied d => d
  | _ => 0

/-- A completion that carries a status and nothing else (04 R180). -/
def Comp.plain (st : Status) : Comp := { status := st }

/-- ST_DENIED with a reason code (04 Table 4.14). -/
def Comp.denied (d : Nat) : Comp := { status := .denied d }

/-- ST_OK of an ADM_ command with RESULT. -/
def Comp.okResult (r : Nat) : Comp := { status := .ok, result := r }

/-- The 32 bytes of a completion entry (04 Table 4.11). -/
def compBytes (tag sqHead : Nat) (phase : Bool) (c : Comp) : Bytes :=
  toLe 2 tag ++ toLe 2 c.status.code ++ toLe 4 sqHead ++ toLe 8 c.csn ++ toLe 8 c.result ++ toLe 4 c.aux ++
  toLe 4 (c.status.detail + b2n c.degraded * 2 ^ 25 + b2n c.digest * 2 ^ 26 + b2n c.truncated * 2 ^ 27 +
    b2n c.untrusted * 2 ^ 28 + c.level * 2 ^ 29 + b2n phase * 2 ^ 31)

/-! ### Codes of registers and records -/

/-- Mode encoding (18 Table 18.4). -/
def modeCode : Mode → Nat
  | .commission => 0 | .solo => 1 | .primary => 2 | .mirror => 3 | .eclipse => 4 | .custody => 5 | .service => 6

/-- POWER_STATE (18 Table 18.3); P4 has no register to read it from. -/
def pstateCode : PState → Nat
  | .p0 => 0 | .p1 => 1 | .p2 => 2 | .p3 => 3 | .p4 => 4

/-- The code of a ring state (04 Table 4.10). -/
def ringStateCode : RingState → Nat
  | .active => 0 | .idle => 1 | .stopped => 2 | .faulted => 3 | .resetting => 4

/-- The code of a comet state (12 Table 12.3). -/
def cometStateCode : CometState → Nat
  | .running => 1 | .done => 2 | .aborted => 3 | .expired => 4

/-- SUBOP of a comet (04 Table 4.6); a rebuild has none. -/
def cometSubop : CometKind → Nat
  | .scan => 1 | .search => 2 | .audit => 3 | .shortTest => 4 | .extTest => 5 | .export_ => 6 | .rebuild => 0

/-- The code of a slot state (14 Table 14.6). -/
def slotStateCode : SlotState → Nat
  | .empty => 0 | .loaded => 1 | .erased => 2

def frontIdx : Front → Nat
  | .a => 0
  | .b => 1

/-- The other Front. -/
def otherFront : Front → Front
  | .a => .b
  | .b => .a

/-- UNIT of a log entry for a wakeable unit (16 Table 16.6). -/
def unitCode : UnitId → Nat
  | .moon m => m | .front f => 0x10 + frontIdx f | .vault => 0x20 | .mgmt => 0x22 | .time => 0x25

/-! Attention causes (16 Table 16.3) by bit number. -/

def cStart : Nat := 0
def cIsland : Nat := 1
def cMoon : Nat := 2
def cFront : Nat := 3
def cPart : Nat := 4
def cDram : Nat := 5
def cFeed : Nat := 6
def cPort : Nat := 7
def cString : Nat := 8
def cWriteThru : Nat := 9
def cSpareLow : Nat := 10
def cCustody : Nat := 11
def cNoFree : Nat := 12
def cWarming : Nat := 13
def cLate : Nat := 14
def cVault : Nat := 15
def cEclipse : Nat := 16
def cWitness : Nat := 17
def cForced : Nat := 18
def cUnmirrored : Nat := 19
def cThermal : Nat := 20
def cSideband : Nat := 21
def cEfuse : Nat := 22
def cMgmt : Nat := 23
def cUnrecovered : Nat := 24
def cEol : Nat := 25
def cFatal : Nat := 26

/-- The severity of an event code (16 Table 16.7): 0 INFO, 1 WARNING, 2 ATTENTION, 3 FAULT. -/
def severityOf (code : Nat) : Nat :=
  if code ∈ [0x0103, 0x0105, 0x0301, 0x0302, 0x0303, 0x0401, 0x0506, 0x0702] then 3
  else if code ∈ [0x0104, 0x0201, 0x0203, 0x0204, 0x0206, 0x0308, 0x030B, 0x0404, 0x0405, 0x0502, 0x0505, 0x0602, 0x0603,
      0x0604, 0x0605, 0x0606, 0x0607, 0x0801, 0x0802] then 2
  else if code ∈ [0x0102, 0x0205, 0x0306, 0x0309, 0x030A, 0x0407, 0x0408, 0x0409, 0x040A, 0x0501, 0x0507, 0x0601, 0x0703,
      0x0803] then 1
  else 0

/-- The DATA field of a log entry from pieces (offset from byte 32, bytes). -/
def logData (pieces : List (Nat × Bytes)) : Bytes := fit 32 (pieces.foldl (fun acc p => overwrite acc p.1 p.2) [])

end Sys2Proof.Machine
end

