-- ==== Sys2Proof/Machine/Ops.lean ====
section
/-! DEFINITION. The named operations the meanings share: outputs, the trouble log and ATTN# (16), sessions and rings
(03), the Key-Lock Table's releases (10), reservations (13), completions and their order (03 R131 to R136, 06 R252,
R258), pins (06), comet ends (12), ring reset (03 R140) and the end of a session (03 R152). -/

namespace Sys2Proof.Machine

/-! ### Outputs, free values, log and attention -/

/-- Puts something out. -/
def State.emit (s : State) (o : Output) : State := { s with out := s.out ++ [o] }

/-- Puts several things out, in order. -/
def State.emitAll (s : State) (os : List Output) : State := { s with out := s.out ++ os }

/-- Advances the counter of free values. -/
def State.draw (s : State) : State := { s with fresh := s.fresh + 1 }

/-- The host's answer to a write that a row without such an operand makes: a free value. -/
def State.hostAnswer (s : State) : HostWrite := if Config.hostAcks s.fresh then .acked else .accessError

/-- The Fronts and moons run, so that their faults are seen. -/
def State.powered (s : State) : Bool := s.power.step != 0 && !s.power.shutDone && decide (s.feeds.loss ≠ .off)

/-- The ports answer: the module is powered and past step 12 of its start, before which a host cannot tell it from an absent
one (02 R79). -/
def State.onAir (s : State) : Bool := s.powered && s.power.step == 12

/-- Logical ports that a breakout mode creates on one host port (17 Table 17.1). -/
def subPorts (breakout : Nat) : Nat := 2 ^ breakout

/-- A host port, and a logical port. -/
def State.host (s : State) (n : Nat) : HostPort := s.ports.hosts.getD n {}
def State.logical (s : State) (l : Nat) : LPort := s.ports.logical.getD l {}

/-- The logical port exists in its host port's breakout mode (17 R620, R621). -/
def State.portExists (s : State) (l : Nat) : Bool :=
  match s.ports.hosts[l / 4]? with
  | some p => decide (l % 4 < subPorts p.live.breakout)
  | none => false

/-- The condition of 02 R64 after a reading of the coldest die: it holds from -22 degC down, with the window 0, and ends at -20
degC (07 R300). -/
def Win.chill (w : Win) (coldest : Int) : Win :=
  if coldest ≤ -88 then { w with cold := true, window := 0 } else if -80 ≤ coldest then { w with cold := false } else w

/-- The first number from `v` on that is not in `used`, modulo `m`; `fuel` bounds the search. -/
def unusedFrom (used : List Nat) (m : Nat) : Nat → Nat → Nat
  | 0, v => v
  | fuel + 1, v => if v ∈ used then unusedFrom used m fuel ((v + 1) % m) else v

/-- The entry made less than 1 s earlier into which a new occurrence is merged (16 R612). -/
def mergesInto (now code unit index : Nat) (e : LogEntry) : Bool :=
  e.code == code && e.unit == unit && e.index == index && e.severity != 3 && decide (now < e.time + 1000000000)

/-- Increments REPEAT of the latest matching entry (R612); none matching: none. -/
def mergeLog (now code unit index : Nat) : List LogEntry → Option (List LogEntry)
  | [] => none
  | e :: es =>
    match mergeLog now code unit index es with
    | some es' => some (e :: es')
    | none => if mergesInto now code unit index e then some ({ e with rep := min (e.rep + 1) 65535 } :: es) else none

/-- The entry of an occurrence of now (16 Table 16.5, R611). -/
def State.logEntry (s : State) (code unit index : Nat) (data : List (Nat × Bytes)) : LogEntry :=
  { seq := s.attn.nextSeq, time := s.time.now, csn := if s.power.step < 11 then 0 else s.seq.committed, code := code,
    severity := severityOf code, unsync := !s.time.disciplined || !s.time.up, unit := unit, index := index,
    data := logData data }

/-- A log of at most 65,536 entries with one more entry; the lowest SEQ is replaced first (R611). -/
def appendLog (l : List LogEntry) (e : LogEntry) : List LogEntry := (l ++ [e]).drop (l.length + 1 - 65536)

/-- The attention part once an occurrence is logged: merged (R612), or with an entry of its own. -/
def State.logged (s : State) (code unit index : Nat) (data : List (Nat × Bytes)) : Attn :=
  match mergeLog s.time.now code unit index s.attn.log with
  | some l => { s.attn with log := l }
  | none => { s.attn with log := appendLog s.attn.log (s.logEntry code unit index data), nextSeq := s.attn.nextSeq + 1 }

/-- Writes a trouble-log entry (16 R611, R612). -/
def State.logEvent (s : State) (code unit index : Nat) (data : List (Nat × Bytes)) : State :=
  { s with attn := s.logged code unit index data }

/-- Sets an attention cause (16 R608). -/
def State.setCause (s : State) (bit : Nat) : State :=
  { s with attn := { s.attn with causes := s.attn.causes ||| (1#32 <<< bit) } }

/-- Clears an attention cause. -/
def State.clearCause (s : State) (bit : Nat) : State :=
  { s with attn := { s.attn with causes := s.attn.causes &&& ~~~(1#32 <<< bit) } }

/-- Sets or clears a health warning as its condition holds (16 R610). -/
def State.setWarning (s : State) (bit : Nat) (on : Bool) : State :=
  { s with attn := { s.attn with warnings :=
      if on then s.attn.warnings ||| (1#32 <<< bit) else s.attn.warnings &&& ~~~(1#32 <<< bit) } }

/-- ATTN# is asserted (16 R608, R603). -/
def State.attnAsserted (s : State) : Bool := s.attn.causes != 0 || !s.feeds.mgmtUp

/-! ### Pair frames (15 R574) -/

/-- The numbers of the pair links that are up: PL0 to PL3 are on Front A, PL4 to PL7 on Front B (00 Table 0.4). -/
def State.linksUp (s : State) : List Nat :=
  ((List.range 8).zip s.ports.links).filterMap fun p =>
    if p.2.up && (s.media.fronts.getD (p.1 / 4) {}).inService then some p.1 else none

/-- ROLE of a pair frame (15 Table 15.4). -/
def frameRole : Mode → Nat
  | .primary => 1
  | .mirror => 2
  | .eclipse => 3
  | _ => 0

/-- The 32-byte header of this member's next frame on a link (15 Table 15.4). -/
def State.frameHeader (s : State) (l : PairLink) (kind len : Nat) : Bytes :=
  toLe 1 kind ++ toLe 1 1 ++ toLe 2 len ++ toLe 4 s.pair.epoch ++ toLe 8 (l.seq + 1) ++ toLe 8 l.ack ++
    toLe 2 s.ident.moduleId ++ toLe 1 (s.pair.member + 2 * frameRole s.mode.mode) ++ zeros 5

/-- Sends a frame on one link, under the link's next sequence number. -/
def State.sendOn (s : State) (n kind : Nat) (body : Bytes) : State :=
  match s.ports.links[n]? with
  | none => s
  | some l =>
    ({ s with ports := { s.ports with links := s.ports.links.modify n fun l => { l with seq := l.seq + 1 } } }).emit
      (.pairFrame n (s.frameHeader l kind body.length ++ body))

/-- Sends a frame to the partner on the lowest link that is up (DESIGN CHOICE, notes/assumptions/56.md); with none up
nothing is sent. -/
def State.sendPair (s : State) (kind : Nat) (body : Bytes) : State :=
  match s.linksUp.head? with
  | some n => s.sendOn n kind body
  | none => s

/-! ### Sessions and rings -/

def State.session? (s : State) (sid : Nat) : Option Session := s.sess.sessions.find? (·.sid == sid)

def Session.ring? (x : Session) (idx : Nat) : Option Ring := x.rings.find? (·.idx == idx)

def State.ring? (s : State) (sid idx : Nat) : Option Ring := (s.session? sid).bind (·.ring? idx)

/-- Changes one session. -/
def State.modSession (s : State) (sid : Nat) (f : Session → Session) : State :=
  { s with sess := { s.sess with sessions := mapWhere (·.sid == sid) f s.sess.sessions } }

/-- Changes one ring of a session. -/
def Session.modRing (x : Session) (idx : Nat) (f : Ring → Ring) : Session :=
  { x with rings := mapWhere (·.idx == idx) f x.rings }

/-- Changes one ring. -/
def State.modRing (s : State) (sid idx : Nat) (f : Ring → Ring) : State := s.modSession sid (·.modRing idx f)

/-- A session is held as an orphan (03 R147). -/
def State.isOrphan (s : State) (sid : Nat) : Bool := match s.session? sid with
  | some x => decide (x.cls = .orphan)
  | none => false

/-- A session whose queue pair works: the module reads and writes its host's memory (03 R147, R733, R152). -/
def State.polls (s : State) (sid : Nat) : Bool := match s.session? sid with
  | some x => decide (x.cls ≠ .orphan)
  | none => false

/-- A refreshing hit on a session's row (10 R409); a LIVE row's limit is written again. A write to the session's host counts as
acknowledged by the row that makes it (notes/assumptions/8.md). -/
def State.refresh (s : State) (sid : Nat) : State :=
  s.modSession sid fun x => if x.cls = .live then { x with age := 0, limit := s.settings.idleLimit * 60000 } else x

/-- Puts out something for a session's host; it is held while the session is orphaned (03 R147). -/
def State.toHost (s : State) (sid : Nat) (o : Output) : State :=
  match s.session? sid with
  | none => s
  | some x => if x.cls = .orphan then s.modSession sid fun y => { y with held := y.held ++ [.out o] } else s.emit o

/-- The credential of a session's role: 1 Custodian, 2 Curator, 3 Client, 0 none. -/
def State.roleOf (s : State) (sid : Nat) : Nat := match s.session? sid with
  | some x => x.role
  | none => 0

/-! ### Commands -/

def State.cmd? (s : State) (ref : Nat) : Option Cmd := s.cmds.list.find? (·.ref == ref)

/-- Changes one command. -/
def State.modCmd (s : State) (ref : Nat) (f : Cmd → Cmd) : State :=
  { s with cmds := { s.cmds with list := mapWhere (·.ref == ref) f s.cmds.list } }

/-- Forgets a command: its held descriptor is released (06 R273). -/
def State.dropCmd (s : State) (ref : Nat) : State :=
  { s with cmds := { s.cmds with list := s.cmds.list.filter (·.ref != ref) } }

/-- The commands of one ring, in the order of their fetch. -/
def State.ringCmds (s : State) (sid ring : Nat) : List Cmd :=
  s.cmds.list.filter fun c => c.sid == sid && c.ring == ring

/-- A mutation that has committed (06 R244). -/
def Cmd.isCommitted (c : Cmd) : Bool := c.phase == .committed || c.phase == .counting

/-- A mutation that has been assigned a CSN: no reset and no end of its session takes it back, or its CSN would be
missing for a reason that 06 Table 6.1 does not list (03 R140, 06 R242). -/
def Cmd.hasCsn (c : Cmd) : Bool := c.phase == .granted || c.isCommitted

/-- A command past its commit point (06 Table 6.2): a read once it has located its version. An ADM_ command reaches it
when its completion is written. -/
def Cmd.atCommitPoint (c : Cmd) : Bool :=
  if opAdmin (dOpcode c.desc) then false
  else c.version.isSome || c.isCommitted || c.phase == .finished

/-- A command that names a key or a range and so asks for locks (05 R191, R220, R226, R230). -/
def opLocks (op : Nat) : Bool := decide (1 ≤ op) && decide (op ≤ 0x0A) && op != opObjBegin && op != opObjAppend

/-- A command that holds all of its locks, or has a decided status (06 R258). -/
def Cmd.holdsLocks (c : Cmd) : Bool :=
  c.locked || c.version.isSome || c.hasCsn || c.phase == .finished || !opLocks (dOpcode c.desc)

/-- Those before a command in its ring that are still in flight. -/
def State.earlier (s : State) (c : Cmd) : List Cmd :=
  (s.ringCmds c.sid c.ring).takeWhile (·.ref != c.ref)

/-- Its ring is ORDERED. -/
def State.isOrdered (s : State) (c : Cmd) : Bool := match s.ring? c.sid c.ring with
  | some r => r.ordered
  | none => false

/-! ### Locks, reservations and staged bytes of a command -/

/-- Removes every Key-Lock row and queued request of a command (05 R192, 10 R415). -/
def State.releaseLocks (s : State) (ref : Nat) : State :=
  { s with locks := { rows := s.locks.rows.filter (·.ref != ref), overflow := s.locks.overflow.filter (·.ref != ref) } }

/-- Gives one reservation back (13 R509). -/
def unreserve (l : List Namespace) (r : Nat × Nat × Nat) : List Namespace :=
  mapWhere (·.nsid == r.1) (fun n => { n with resBytes := n.resBytes - r.2.1, resObjs := n.resObjs - r.2.2 }) l

/-- Releases what a mutation that fails after its quota step had reserved (13 R509). -/
def State.releaseReserved (s : State) (c : Cmd) : State := { s with ns := c.reserved.foldl unreserve s.ns }

/-- Changes one moon. -/
def State.modMoon (s : State) (m : Nat) (f : Moon → Moon) : State :=
  { s with media := { s.media with moons := s.media.moons.modify m f } }

/-- Takes an extent's bytes out of the staging of both its moons, unless they are programmed. -/
def unstage (ms : List Moon) (e : Extent) : List Moon :=
  if e.progd then ms else (ms.modify e.home fun m => { m with staged := m.staged - e.len }).modify e.shadow fun m =>
    { m with staged := m.staged - e.len }

/-- Extents leave staging. -/
def State.unstageAll (s : State) (es : List Extent) : State :=
  { s with media := { s.media with moons := es.foldl unstage s.media.moons } }

/-! ### Map log (08 R352) -/

/-- The map page that holds an object's map record: 16 KiB hold 256 sub-blocks of 64 bytes (08, The map; R348). -/
def mapPageOf (obj : Nat) : Nat := (Config.mapRef obj).toNat / 256

/-- A change to a moon's map is written as a MAP_LOG record, and the map page in its DRAM is changed (08 R347, R352). A
record that changes no map page holds no log tail back. -/
def State.logMap (s : State) (moon page : Nat) (c : MapChange) : State :=
  let len := (Config.mapRecord s.fresh).toNat
  let plain := match c with
    | .put .. | .move .. | .mapPage .. => false
    | _ => true
  let add := fun (m : Moon) =>
    { m with logSeq := m.logSeq + 1, logTail := m.logTail + len,
             tail := m.tail ++ [{ seq := m.logSeq, len := len, page := page, change := c, time := s.time.now, done := plain }],
             hotMap := if plain || decide (page ∈ m.hotMap) then m.hotMap else page :: m.hotMap }
  s.draw.modMoon moon add

/-- The moons of the pairs of extents. -/
def pairMoons (es : List Extent) : List Nat := (es.flatMap fun e => [e.home, e.shadow]).eraseDups

/-- A provisional token is bound or voided by a map log record of each moon of its extents (08 R328, R329). -/
def State.logToken (s : State) (es : List Extent) (token : Option Nat) (f : Nat → MapChange) : State :=
  match token with
  | some t => (pairMoons es).foldl (fun s m => s.logMap m 0 (f t)) s
  | none => s

/-- The pages of a token hold nothing any more (08 R329, R338). -/
def State.blindPages (s : State) (token : Option Nat) : State :=
  let mine := fun (p : Page) => p.header.provisional && some p.header.token == token
  { s with media := { s.media with pages := mapWhere mine (fun p => { p with obj := 0 }) s.media.pages } }

/-- Extents of a mutation or an object that comes to nothing: their token is void, their bytes are not staged (08 R329). -/
def State.dropExtents (s : State) (es : List Extent) (token : Option Nat) : State :=
  ((s.logToken es token .void).blindPages token).unstageAll es

/-- Changes an extent wherever it is noted: with its command, its charge and its object session. -/
def State.modExtent (s : State) (e : Extent) (f : Extent → Extent) : State :=
  let g := mapWhere (fun (x : Extent) => x.obj == e.obj && x.off == e.off) f
  { s with cmds := { s.cmds with list := s.cmds.list.map fun c => { c with extents := g c.extents } }
           seq := { s.seq with charges := s.seq.charges.map fun q => { q with extents := g q.extents } }
           kv := { s.kv with objects := s.kv.objects.map fun o => { o with extents := g o.extents } } }

/-- The extents of commands, charges and objects, each once. -/
def State.liveExtents (s : State) : List Extent :=
  ((s.seq.charges.flatMap (·.extents) ++ s.cmds.list.flatMap (·.extents) ++ s.kv.objects.flatMap (·.extents)).map fun e =>
    { e with ofObj := false }).eraseDups

/-- What an uncommitted mutation leaves behind: nothing (06 R245). Its locks, its reservation and its staged bytes
go; its provisional token, if any, is voided (08 R329); the bytes of an object stay with it. A committed one keeps its locks until it is durable (05 R192), and one
whose outcome is fixed has nothing left to undo. -/
def State.undo (s : State) (c : Cmd) : State :=
  if c.isCommitted || c.phase == .finished then s
  else
    let s1 := (s.releaseLocks c.ref).dropExtents (c.extents.filter (!·.ofObj)) c.token
    let s2 := s1.releaseReserved c
    let s3 := { s2 with seq := { s2.seq with charges := s2.seq.charges.filter (·.ref != c.ref) } }
    s3.modCmd c.ref fun c => { c with reserved := [], extents := [], blockers := [], token := none }

/-! ### Host areas of a command (04 R184, step 8) -/

/-- Opcodes on which SGL is honoured (04 Table 4.2). -/
def sglHonoured (op : Nat) : Bool := op == opGet || op == opPut || op == opCas || op == opObjAppend

/-- The key of a descriptor is indirect (04 R158). -/
def keyIndirect (d : Bytes) : Bool := decide (24 < dKeyLen d)

/-- A command needs host areas read at step 8 (04 R184). -/
def needsAreas (d : Bytes) : Bool :=
  let op := dOpcode d
  !opAdmin op && (keyIndirect d || op == opDeleteRange || (sglHonoured op && fSgl (dFlags d)) || op == opBatch || op == opComet)

/-- The RDMA READs of step 8 (04 Table 4.4, R165, 05 R229). -/
def areaReads (sid : Nat) (d : Bytes) : List Output :=
  let op := dOpcode d
  (if keyIndirect d then [Output.read sid (u32At d 32) (u64At d 24) (dKeyLen d)] else []) ++
  (if op == opDeleteRange || op == opBatch || op == opComet then [Output.read sid (dValueRkey d) (dValueAddr d) (dValueLen d)] else []) ++
  (if sglHonoured op && fSgl (dFlags d) then [Output.read sid (dValueRkey d) (dValueAddr d) (16 * dCount d)] else [])

/-! ### Completions -/

/-- Two parts name the same key, or one a range that contains the other's key (06 R252). -/
def partsMeet (p q : Part) : Bool :=
  p.nsid == q.nsid &&
    (if p.op == opDeleteRange then q.op != opDeleteRange && keyIn p.key p.endKey q.key
     else if q.op == opDeleteRange then keyIn q.key q.endKey p.key
     else p.key == q.key)

/-- A snapshot read (06 R252). -/
def Cmd.isSnapshotRead (c : Cmd) : Bool :=
  (dOpcode c.desc == opGet || dOpcode c.desc == opHead) && fSnapshot (dFlags c.desc)

/-- `d`, whose lock request was granted first, must complete before `c` (06 R252). -/
def mustPrecede (d c : Cmd) : Bool :=
  decide (0 < d.order) && decide (d.order < c.order) && !d.isSnapshotRead && !c.isSnapshotRead &&
    d.parts.any fun p => c.parts.any fun q => partsMeet p q

/-- A held completion may be written: its ring's order (R132, R258), the order of its keys (R252) and the partner's
completion record (15 R569) allow it. -/
def State.mayWrite (s : State) (c : Cmd) : Bool :=
  !c.hold && (!s.isOrdered c || (s.earlier c).isEmpty) &&
    !(s.ringCmds c.sid c.ring).any fun d => d.ref != c.ref && mustPrecede d c

/-- The phase bit of the completion of count `n` in a ring of 2^`l` entries (03 R133). -/
def phaseBit (n : BitVec 32) (l : Nat) : Bool := n.toNat / 2 ^ l % 2 == 0

/-- The counts of a reset in progress after one more completion (03 Table 3.9). -/
def countReset (k : Comp) (t : ResetRec) : ResetRec :=
  if k.status = .abortedReset then { t with nAborted := t.nAborted + 1 } else { t with nFinished := t.nFinished + 1 }

/-- Puts a completion entry into the next slot of its ring (03 R132, R133, 04 R176). Every completion has an RDMA WRITE of its
own: R135 lets several share one and asks for nothing (DESIGN CHOICE, notes/assumptions/18.md). -/
def State.putComp (s : State) (sid : Nat) (r : Ring) (tag : Nat) (k : Comp) : State :=
  let entry := compBytes tag r.fetch.toNat (phaseBit r.cqCount r.cqLog2) k
  let addr := r.cqBase + 32 * (r.cqCount.toNat % 2 ^ r.cqLog2)
  ((s.emit (.write sid r.rkey addr entry)).refresh sid).modRing sid r.idx fun r =>
    { r with cqCount := r.cqCount + 1, eventDue := r.eventDue || r.event != 0 }

/-- Writes a command's completion; it is held while its session is orphaned (03 R147), and discarded when the session
has ended (R152). -/
def State.writeComp (s : State) (c : Cmd) (k : Comp) : State :=
  match s.ring? c.sid c.ring with
  | none => s
  | some r =>
    let s1 := s.modRing c.sid c.ring fun r => { r with reset := r.reset.map (countReset k) }
    if s.isOrphan c.sid then
      (s1.modSession c.sid fun x => { x with held := x.held ++ [.comp r (dTag c.desc) k] }).modRing c.sid c.ring fun r =>
        { r with heldComp := r.heldComp || r.event != 0 }
    else s1.putComp c.sid r (dTag c.desc) k

/-- The command of a list whose outcome was fixed first. -/
def firstEnded (l : List Cmd) : Option Cmd :=
  l.foldl (fun a c => match a with
    | none => some c
    | some d => if c.ended < d.ended then some c else some d) none

/-- Writes the held completions of a ring that may be written, one after another in the order in which their commands
finished (03 R132); `fuel` bounds their number. -/
def State.flushRing : Nat → Nat → Nat → State → State
  | 0, _, _, s => s
  | fuel + 1, sid, ring, s =>
    match firstEnded ((s.ringCmds sid ring).filter fun c => c.phase == .finished && s.mayWrite c) with
    | none => s
    | some c =>
      let k := c.done.getD (Comp.plain .ok)
      State.flushRing fuel sid ring ((s.writeComp c k).dropCmd c.ref)

/-- A command held by FENCE whose earlier commands have all reached their commit points (06 R255). -/
def State.fenceOpen (s : State) (c : Cmd) : Bool := c.phase == .fenced && (s.earlier c).all (·.atCommitPoint)

/-- Commands of a ring whose fence has opened leave the hold; the host areas they need are read then (06 R255), but for those of
an orphaned session, which reads no host memory (03 R733). -/
def State.releaseFences (s : State) (sid ring : Nat) : State :=
  let opened := (s.ringCmds sid ring).filter s.fenceOpen
  let out := fun (c : Cmd) => c.sid == sid && c.ring == ring && s.fenceOpen c
  let list := mapWhere out (fun c => { c with phase := if needsAreas c.desc then .areas else .ready }) s.cmds.list
  let s1 : State := { s with cmds := { s.cmds with list := list } }
  s1.emitAll (opened.flatMap fun c => if needsAreas c.desc && s.polls sid then areaReads sid c.desc else [])

/-- Mirroring to the partner is in force (15 R566, R572). -/
def State.mirroring (s : State) : Bool := s.mode.mode == .primary && s.pair.inStep

/-- A primary forwards what it does: mirroring is in force, or a resynchronisation runs, whose end presumes it (15
R566, R582). -/
def State.forwards (s : State) : Bool := s.mode.mode == .primary && (s.pair.inStep || s.pair.resyncOn)

/-- An ADM_ command of a carried session has changed the session: its state is forwarded (15 R557, R570). -/
def State.forwardSession (s : State) (c : Cmd) : State :=
  match s.session? c.sid with
  | some x => if s.forwards && x.carried && opAdmin (dOpcode c.desc) then s.sendPair 0x14 (toLe 4 x.handle) else s
  | none => s

/-- A command's outcome is fixed: what it must not keep is undone; in PRIMARY its completion record goes to the partner (15
R569). -/
def State.fix (s : State) (ref : Nat) (k : Comp) : State :=
  match s.cmd? ref with
  | none => s
  | some c =>
    let s1 := (s.undo c).modCmd ref fun c =>
      { c with phase := .finished, done := some k, hold := s.mirroring, ended := s.cmds.nextEnd }
    let s2 : State := { s1 with cmds := { s1.cmds with nextEnd := s1.cmds.nextEnd + 1 } }
    (if s.mirroring then s2.sendPair 0x12 (toLe 8 ref) else s2).forwardSession c

/-- The completions of a ring are written as far as its order allows, and fences open (03 R131, R132, 06 R255, R256). -/
def State.writeOut (s : State) (sid ring : Nat) : State :=
  (s.flushRing s.cmds.list.length sid ring).releaseFences sid ring

/-- A command ends: its outcome is fixed, and its completion is written as soon as its ring's order allows. -/
def State.finish (s : State) (ref : Nat) (k : Comp) : State :=
  match s.cmd? ref with
  | none => s
  | some c => (s.fix ref k).writeOut c.sid c.ring

/-- Several commands end at one point: every outcome is fixed before a completion is written. -/
def State.finishAll (s : State) (refs : List (Nat × Comp)) : State :=
  let rings := (refs.filterMap fun r => (s.cmd? r.1).map fun c => (c.sid, c.ring)).eraseDups
  rings.foldl (fun s e => s.writeOut e.1 e.2) (refs.foldl (fun s r => s.fix r.1 r.2) s)

/-! ### The store -/

/-- The versions of one key. -/
def State.versionsOf (s : State) (nsid : Nat) (key : Bytes) : List Version :=
  s.kv.versions.filter fun v => v.nsid == nsid && v.key == key

/-- The later of two versions. -/
def laterVersion (a : Option Version) (v : Version) : Option Version :=
  match a with
  | none => some v
  | some u => if u.csn ≤ v.csn then some v else some u

/-- The newest version of a list. -/
def newest (l : List Version) : Option Version := l.foldl laterVersion none

/-- The current version of a key (05 R188). -/
def State.current (s : State) (nsid : Nat) (key : Bytes) : Option Version := newest (s.versionsOf nsid key)

/-- The version of a key visible at a CSN (06 R264). -/
def State.visibleAt (s : State) (nsid : Nat) (key : Bytes) (csn : Nat) : Option Version :=
  newest ((s.versionsOf nsid key).filter fun v => decide (v.csn ≤ csn))

/-- The current version while the key has a value. -/
def State.currentValue (s : State) (nsid : Nat) (key : Bytes) : Option Version :=
  (s.current nsid key).filter (·.value.isSome)

/-- The current CSN of a key: 0 while it has no value (05 R188). -/
def State.currentCsn (s : State) (nsid : Nat) (key : Bytes) : Nat := match s.currentValue nsid key with
  | some v => v.csn
  | none => 0

/-- The charge of a key in bytes (05 R197). -/
def keyCharge (v : Option Version) : Nat := match v with
  | some v => match v.value with
    | some b => v.key.length + b.length
    | none => 0
  | none => 0

/-- The later versions of a version's key. -/
def laterOf (all : List Version) (v : Version) : List Version :=
  all.filter fun u => u.nsid == v.nsid && u.key == v.key && decide (v.csn < u.csn)

/-- A pin covers a version: it is visible at the pin's CSN (05 R190, 06 R265). -/
def covered (all : List Version) (pins : List Pin) (v : Version) : Bool :=
  pins.any fun p => decide (v.csn ≤ p.csn) && (laterOf all v).all fun u => decide (p.csn < u.csn)

/-- A version is needed: no later version of its key is durable yet, so a read may still return it (05 R202, 06 R249),
or a pin covers it (05 R190, 08 R338). -/
def needed (all : List Version) (pins : List Pin) (v : Version) : Bool :=
  !(laterOf all v).any (·.durable) || covered all pins v

/-- A completion record names a version that a read has returned: it stays readable until the completion is
acknowledged (15 R569). -/
def PairPart.names (p : PairPart) (v : Version) : Bool := p.records.any fun r => r.read == some (v.nsid, v.key, v.csn)

/-- Drops versions that no read can return any more (08 R338) and no completion record names (15 R569). -/
def State.reclaim (s : State) : State :=
  { s with kv := { s.kv with
      versions := s.kv.versions.filter fun v => needed s.kv.versions s.kv.pins v || s.pair.names v } }

/-- A pin stands at a CSN (06 R267). -/
def State.pinned (s : State) (csn : Nat) : Bool := s.kv.pins.any (·.csn == csn)

/-! ### Pins and comets -/

/-- Creates a pin, or restarts the lifetime of the one that stands (06 R265). -/
def State.takePin (s : State) (csn : Nat) (resync : Bool) : State :=
  let pins := if s.pinned csn then mapWhere (·.csn == csn) (fun p => { p with since := s.time.now }) s.kv.pins
    else s.kv.pins ++ [{ csn := csn, lifetime := s.settings.pinLife, linger := s.settings.pinLinger, since := s.time.now,
                         resync := resync }]
  { s with kv := { s.kv with pins := pins } }

/-- A comet that has not ended. -/
def Comet.isRunning (k : Comet) : Bool := k.st == .running

def State.comet? (s : State) (num : Nat) : Option Comet := s.comets.list.find? (·.num == num)

/-- Changes one comet. -/
def State.modComet (s : State) (num : Nat) (f : Comet → Comet) : State :=
  { s with comets := { list := mapWhere (·.num == num) f s.comets.list } }

/-- The next generation of a status block write: 0xFFFF_FFFE is followed by 1 (12 R466). -/
def nextGen (g : Nat) : Nat := if g = 0xFFFFFFFE then 1 else g + 1

/-- The 64 bytes of a Comet Status Block (12 Table 12.3). -/
def statusBlock (k : Comet) (gen : Nat) (orphanHeld : Bool) : Bytes :=
  toLe 4 gen ++ toLe 1 (cometStateCode k.st) ++ toLe 1 (cometSubop k.kind) ++ toLe 1 k.endCause ++
  toLe 1 (b2n k.creditWait + 2 * b2n k.degraded + 4 * b2n k.peerWait + 8 * b2n orphanHeld) ++
  toLe 8 k.num ++ toLe 8 k.bytes ++ toLe 8 k.snapshot ++ toLe 8 k.unitsDone ++ toLe 8 k.unitsTotal ++
  toLe 8 k.hits ++ toLe 2 k.endStatus ++ zeros 2 ++ toLe 4 gen

/-- A session's held outputs without an older status block write of the same comet: on resume only the latest held
update is written (12 R488). -/
def dropHeldStatus (addr rkey : Nat) (l : List Held) : List Held :=
  l.filter fun o => match o with
    | .out (.write _ r a d) => !(r == rkey && a == addr && d.length == 64)
    | _ => true

/-- One status block update: the next generation, 64 bytes, one RDMA WRITE (12 R466). A rebuild has no block. -/
def State.writeStatus (s : State) (num : Nat) : State :=
  match s.comet? num with
  | none => s
  | some k =>
    if k.kind = .rebuild then s else
    let orphan := s.isOrphan k.sid
    let g := nextGen k.gen
    let addr := u64At k.block 0
    let rkey := u32At k.block 8
    let s1 := if orphan then s.modSession k.sid fun x => { x with held := dropHeldStatus addr rkey x.held } else s
    (s1.toHost k.sid (.write k.sid rkey addr (statusBlock k g orphan))).modComet num fun k => { k with gen := g, shown := k.bytes }

/-- Ends a comet by its final-state write (12 R486, Table 12.9). With `quiet` no write reaches the host (END_CAUSE
0x02). Ending an ended comet changes nothing. -/
def State.endComet (s : State) (num : Nat) (st : CometState) (cause status : Nat) (quiet : Bool) : State :=
  match s.comet? num with
  | none => s
  | some k =>
    if !k.isRunning then s else
    let s1 := s.modComet num fun k => { k with st := st, endCause := cause, endStatus := status }
    if quiet then s1 else s1.writeStatus num

/-- Ends every running comet that `p` selects. -/
def State.endComets (s : State) (p : Comet → Bool) (st : CometState) (cause status : Nat) (quiet : Bool) : State :=
  ((s.comets.list.filter fun k => k.isRunning && p k).map (·.num)).foldl
    (fun s n => s.endComet n st cause status quiet) s

/-- Ends a pin: its comets end EXPIRED with END_STATUS 0x0402 (06 R269, 12 Table 12.9). -/
def State.endPin (s : State) (csn : Nat) : State :=
  let s1 := s.endComets (fun k => k.pinned && k.snapshot == csn) .expired 0x0C 0x0402 false
  ({ s1 with kv := { s1.kv with pins := s1.kv.pins.filter (·.csn != csn) } }).reclaim

/-- Ends every pin (06 R270). -/
def State.endPins (s : State) : State := ({ s with kv := { s.kv with pins := [] } }).reclaim

/-- Ends the object sessions that `p` selects; their bytes are discarded (05 R228). -/
def State.endObjects (s : State) (p : ObjSession → Bool) : State :=
  let sealed := fun (o : ObjSession) => s.cmds.list.any fun c => c.obj == some o.handle && c.extents.any (·.ofObj) && c.hasCsn
  let s1 := (s.kv.objects.filter fun o => p o && !sealed o).foldl (fun s o => s.dropExtents o.extents o.token) s
  { s1 with kv := { s1.kv with objects := s1.kv.objects.filter fun o => !p o } }

/-! ### Completions held for the partner -/

/-- Held completions are released and written where their rings' order allows (15 R569, R572). -/
def State.releaseHeld (s : State) (p : Cmd → Bool) : State :=
  let s1 : State := { s with cmds := { s.cmds with list := mapWhere p (fun c => { c with hold := false }) s.cmds.list } }
  s1.sess.sessions.foldl (fun s x => x.rings.foldl (fun s r => s.writeOut x.sid r.idx) s) s1

/-! ### Ring reset (03 R140 to R146) -/

/-- RESULT_AUX of a KV_BATCH that no single sub-operation made fail (04 R180). -/
def batchComp (d : Bytes) (k : Comp) : Comp := if dOpcode d == opBatch then { k with aux := 0xFFFFFFFF } else k

/-- A fixed outcome that a reset leaves: a mutation's only if it took effect, any other command's but a read's (03
R140). -/
def Cmd.keepsOutcome (c : Cmd) : Bool :=
  c.phase == .finished && (!opMutation (dOpcode c.desc) || (c.done.map (·.status)) == some .ok)

/-- What a command in flight completes with at the acceptance of a reset of its ring: none keeps its own outcome.
A mutation that has its CSN finishes as if no reset had been requested; one that has none is aborted even when its
failure is decided, a read even when its outcome is fixed (03 R140). -/
def resetOutcome (c : Cmd) : Option Comp :=
  let op := dOpcode c.desc
  if c.hasCsn then none
  else if op == opGet || op == opHead then some { status := .abortedReset }
  else if c.keepsOutcome then none
  else some (batchComp c.desc { status := .abortedReset })

/-- An ADM_NS_DELETE or ADM_FORMAT past its point of effect, or a settings change that the partner may hold already: it keeps
its own outcome (13 R498, R514, 02 R61). -/
def State.pastPoint (s : State) (c : Cmd) : Bool :=
  (s.pair.change.map (·.ref)) == some c.ref ||
  c.decided && (dOpcode c.desc == 0x57 ||
    (dOpcode c.desc == 0x4A && s.ns.any fun n => n.nsid == dNsid c.desc && n.gone))

/-- Acceptance of a ring reset (03 R140): the ring is RESETTING; each uncommitted command completes with
ST_ABORTED_RESET; each running comet of the ring ends ABORTED (12 R487). `spare` names the ADM_RING_RESET and
ADM_RING_DESTROY commands that a reset of the admin ring leaves (R146). -/
def State.acceptReset (s : State) (sid ring : Nat) (t : ResetRec) (spare : List Nat) : State :=
  match s.ring? sid ring with
  | none => s
  | some r =>
    let mine := fun (k : Comet) => k.sid == sid && k.ring == ring && k.kind != .rebuild
    let nAbrt := (s.comets.list.filter fun k => k.isRunning && mine k).length
    let nDone := (s.comets.list.filter fun k => k.st == .done && mine k && !Config.finalAcked k.num).length
    let rec1 := { t with fetchEnd := r.fetch.toNat, acceptTime := s.time.now, nCometDone := nDone, nCometAbrt := nAbrt }
    let s1 := s.modRing sid ring fun r =>
      { r with st := .resetting, resetSeq := r.resetSeq + 1, reset := some rec1, asked := 0, ahead := [], reread := false }
    let s2 := s1.endComets mine .aborted 0x01 0 false
    let s3 : State := { s2 with comets := { list := s2.comets.list.filter fun k => k.isRunning || !mine k } }
    let outcomes := (s3.ringCmds sid ring).filterMap fun c =>
      if c.ref ∈ spare || s3.pastPoint c then none else (resetOutcome c).map fun k => (c.ref, k)
    s3.finishAll outcomes

/-- The reset report (03 Table 3.9). -/
def resetReport (r : Ring) (t : ResetRec) : Bytes :=
  toLe 2 r.idx ++ toLe 1 t.cause ++ zeros 1 ++ toLe 4 r.resetSeq.toNat ++ toLe 4 t.fetchEnd ++ toLe 4 r.producer.toNat ++
  toLe 4 r.cqCount.toNat ++ toLe 4 t.nFinished ++ toLe 4 t.nAborted ++ toLe 2 t.nCometDone ++ toLe 2 t.nCometAbrt ++
  toLe 8 r.csnMark ++ toLe 8 t.acceptTime ++ zeros 16

/-- Writes a reset report (03 R142, R175); none when the address is 0. -/
def State.putReport (s : State) (sid : Nat) (r : Ring) (t : ResetRec) : State :=
  if t.bufAddr == 0 then s else s.emit (.write sid t.bufRkey t.bufAddr (resetReport r t))

/-- The event that announces completions of a ring (03 R137). -/
def eventOutput (sid : Nat) (r : Ring) : List Output :=
  if r.event == 1 then [.immediate sid r.idx]
  else if r.event == 2 then [.send sid (toLe 2 r.idx ++ zeros 2 ++ toLe 4 r.cqCount.toNat)]
  else []

/-! ### The end of a session -/

/-- The session that a resuming session is to take over: the Session Table is searched by its handle (03 R150, 10 R395). -/
def State.orphanOf (s : State) (handle : Nat) : Option Session :=
  s.sess.sessions.find? fun x => decide (x.cls = .orphan) && x.handle == handle && enabled s.sessPlaces (handle % 8) x.row

/-- The indices that a login on an orphan's admin ring has moved (03 R150). -/
def Ring.withIndices (r a : Ring) : Ring :=
  { r with producer := a.producer, fetch := a.fetch, cqCount := a.cqCount, idleSeq := a.idleSeq }

/-- A session that was to resume an orphan ends without having done so: the orphan's admin ring keeps the indices that
the attempt reached, so that the next attempt goes on from them (03 R150). -/
def State.returnAdmin (s : State) (x : Session) : State :=
  match x.resuming.bind s.orphanOf, x.ring? 0 with
  | some o, some a => s.modRing o.sid 0 (·.withIndices a)
  | _, _ => s

/-- Ends a session (03 R152): each ring is reset, completions and reports are discarded, comets end with END_CAUSE
0x02 without a write, object sessions end, the Session Table row is cleared. Mutations that have their CSN keep their
full effect, and their locks until they are durable; the others have none. With `dreq` the module sends DREQ. -/
def State.endSession (s : State) (sid : Nat) (dreq : Bool) : State :=
  match s.session? sid with
  | none => s
  | some x =>
    let s0 := (if dreq then s.emit (.dreq sid) else s).returnAdmin x
    let s1 := s0.endComets (fun k => k.sid == sid && k.kind != .rebuild) .aborted 0x02 0 true
    let lost := s1.cmds.list.filter fun c => c.sid == sid && !c.hasCsn
    let s3 := (lost.foldl (fun s c => s.undo c) s1).endObjects (·.sid == sid)
    { s3 with
      cmds := { s3.cmds with list := s3.cmds.list.filter fun c => c.sid != sid || c.hasCsn }
      comets := { list := s3.comets.list.filter fun k => k.isRunning || k.sid != sid }
      sess := { s3.sess with sessions := s3.sess.sessions.filter (·.sid != sid)
                             waits := s3.sess.waits.filter (·.1 != sid) }
      ports := { s3.ports with windows := s3.ports.windows.filter fun w => w.path != .inband sid } }

/-- Ends every session that `p` selects. -/
def State.endSessions (s : State) (p : Session → Bool) (dreq : Bool) : State :=
  ((s.sess.sessions.filter p).map (·.sid)).foldl (fun s i => s.endSession i dreq) s

/-- An ADM_RING_RESET or ADM_RING_DESTROY writes a report only to an address other than 0, and a destroy only when it
performs a reset (03 R114, R145, 04 R175). -/
def State.reportsReset (s : State) (c : Cmd) : Bool :=
  u64At c.desc 16 != 0 && (dOpcode c.desc == 0x44 || match s.ring? c.sid (bitsOf (u16At c.desc 8) 0 12) with
    | some r => decide (r.st ≠ .stopped) && decide (r.st ≠ .resetting)
    | none => false)

/-- An ADM_ command that reads or writes host memory beyond its descriptor. -/
def admNeedsHost (d : Bytes) : Bool :=
  let op := dOpcode d
  let o := byteAt d 8
  if op ∈ [0x40, 0x47, 0x4B, 0x52, 0x58, 0x5A] then true
  else if op = 0x4C then decide (o ∈ [1, 2, 6])
  else if op = 0x4D then o == 3
  else if op = 0x4E then o == 1 || o == 4
  else if op = 0x50 then o == 6
  else if op = 0x51 then true
  else if op = 0x59 then o == 1
  else op == 0x4F && !bitOf (byteAt d 8) 7

/-- The host areas of a command are still to be read (04 R184, step 8). -/
def Cmd.lacksAreas (c : Cmd) : Bool := c.phase == .areas || (!c.late && needsAreas c.desc)

/-- A fetched command of a session that becomes an orphan ends at once (03 R733): a mutation that has no CSN, an ADM_
command that needs host memory, a read or a COMET_START whose areas are still to be read. A read that holds them runs
on to the point at which it has bytes to write, and an unlisted opcode needs none (04 R171). -/
def State.endsAtOrphan (s : State) (c : Cmd) : Bool :=
  let op := dOpcode c.desc
  if c.phase == .finished || c.phase == .unknown || c.hasCsn || (c.phase == .adminWait && op != 0x4F) then false
  else if op == 0x43 || op == 0x44 then s.reportsReset c
  else if opAdmin op then admNeedsHost c.desc
  else if opRead op then c.lacksAreas
  else true

/-- A session's queue pair has failed after its login: the session is held as an orphan, and its rings are not fetched
from (03 R147). -/
def State.holdSession (s : State) (sid : Nat) : State :=
  let s1 := s.modSession sid fun x =>
    { x with cls := .orphan, age := 0, limit := s.settings.orphanHold * 1000,
             rings := x.rings.map fun r => { r with asked := 0, polled := 0, reread := false } }
  { s1 with sess := { s1.sess with waits := s1.sess.waits.filter (·.1 != sid) } }

/-- The fetched commands of an orphaned session that need host memory end with ST_BUSY_RETRY (03 R733). -/
def State.endNeedy (s : State) (sid : Nat) : State :=
  s.finishAll ((s.cmds.list.filter fun c => c.sid == sid && s.endsAtOrphan c).map fun c =>
    (c.ref, batchComp c.desc (Comp.plain .busyRetry)))

/-- A session's queue pair enters the error state (03 R147, R733): before login the session ends; after it the
session is orphaned, its commands that still need host memory end with ST_BUSY_RETRY, and completions are held. -/
def State.orphan (s : State) (sid : Nat) : State :=
  match s.session? sid with
  | none => s
  | some x =>
    if x.role = 0 then s.endSession sid false
    else if x.cls = .orphan then s
    else (s.holdSession sid).endNeedy sid

/-- A command's RDMA operation met a remote access error before the command took effect (03 R148): it completes with
ST_HOST_ACCESS and its session is orphaned; the completion is held. -/
def State.hostAccess (s : State) (ref : Nat) (k : Comp) : State :=
  match s.cmd? ref with
  | none => s
  | some c =>
    if s.roleOf c.sid = 0 then s.endSession c.sid false
    else ((if s.isOrphan c.sid then s else s.holdSession c.sid).finish ref k).endNeedy c.sid

/-- A read is about to write `data` to its host: while its session is orphaned it ends with ST_BUSY_RETRY instead (03
R733), and a remote access error ends it with ST_HOST_ACCESS (R148). -/
def State.toHostOr (s : State) (c : Cmd) (w : HostWrite) (next : State → State) : State :=
  if !s.polls c.sid then s.finish c.ref (Comp.plain .busyRetry)
  else match w with
    | .accessError => s.hostAccess c.ref (Comp.plain .hostAccess)
    | .acked => next (s.refresh c.sid)

/-- One RDMA READ of a ring's Doorbell Record (03 R121). The module reads every record by itself: R123 allows it to
read several at once and asks for nothing (DESIGN CHOICE, notes/assumptions/18.md). -/
def readDoorbell (sid : Nat) (r : Ring) : Output := .read sid r.rkey r.dbAddr 8

/-- Every RDMA WRITE of a list of pieces (remote key, address, bytes). -/
def State.writePieces (s : State) (sid : Nat) (ps : List (Nat × Nat × Bytes)) : State :=
  ps.foldl (fun s p => s.toHost sid (.write sid p.1 p.2.1 p.2.2)) s

/-- Wakes the module from P1, P2 or P3 (02 R73, R75): during an entry the work is held and the exit follows it. A
requested lower state stays requested (R71). -/
def State.wake (s : State) : State :=
  if s.power.entering.isSome then { s with power := { s.power with workHeld := true, returnTo := none } }
  else match s.power.pstate with
    | .p1 | .p2 | .p3 => { s with power := { s.power with exiting := true, returnTo := none } }
    | _ => s

end Sys2Proof.Machine
end

