-- ==== Sys2Proof/Machine/Checks.lean ====
section
/-! DEFINITION. The checks of 04 R184: steps 1 to 7 at the fetch, the mode rules of 02 R50 to R52 and R729, and
steps 8 to 13 once the host areas are read, with the Range Map and Rule Table lookups of 10. -/

namespace Sys2Proof.Machine

/-- ST_REDIRECT to the pair partner (04 Table 4.12). -/
def State.toPartner (s : State) : Comp :=
  { status := .redirect, result := s.ident.moduleId + 0x10000, aux := s.pair.epoch }

/-- What the mode answers to a data command or COMET_START, in the order of 02 R52. -/
def State.modeOfData (s : State) (op : Nat) : Option Comp :=
  let mutation := opMutation op
  match s.mode.mode with
  | .eclipse => some (Comp.plain .fenced)
  | .mirror => some s.toPartner
  | .service => some (Comp.plain .busyRetry)
  | .commission => some (Comp.denied 6)
  | .custody =>
    if mutation then some (Comp.plain .readOnly) else none
  | _ => if mutation && s.mode.warming then some (Comp.plain .warming) else none

/-- ADM_ opcodes served in MIRROR and eclipse (02 Table 2.8): logins, the ring family, attestation, health and log,
mode and power, pair, key slots and images. -/
def admServedInMirror (op : Nat) : Bool :=
  (decide (0x40 ≤ op) && decide (op ≤ 0x47)) || op == 0x4E || op == 0x50 ||
    (decide (0x52 ≤ op) && decide (op ≤ 0x56)) || op == 0x58 || op == 0x59 || op == 0x5A

/-- ADM_ opcodes served in SERVICE to a session that is not a Custodian (02 R729): the ring family, ADM_ATTEST,
ADM_HEALTH and ADM_NS_QUERY; and the login commands. -/
def admServedInService (op : Nat) : Bool :=
  (decide (0x40 ≤ op) && decide (op ≤ 0x47)) || op == 0x58 || op == 0x59 || op == 0x4B

/-- What the mode answers to an ADM_ command (02 R51, R729). -/
def State.modeOfAdmin (s : State) (role op : Nat) : Option Comp :=
  match s.mode.mode with
  | .mirror => if op = 0x57 then some (Comp.denied 6) else if admServedInMirror op then none else some s.toPartner
  | .eclipse =>
    if op = 0x57 then some (Comp.denied 6) else if admServedInMirror op then none else some (Comp.plain .fenced)
  | .service => if role = 1 || admServedInService op then none else some (Comp.plain .busyRetry)
  | _ => none

/-- Step 5 of R184. -/
def State.modeOf (s : State) (role op : Nat) : Option Comp :=
  if opAdmin op then s.modeOfAdmin role op else s.modeOfData op

/-- The role admits the opcode (04 Table 4.5); the two self-tests are Custodian-only. -/
def roleAdmits (role op subop : Nat) : Bool :=
  if op == 0x40 || op == 0x41 then true
  else if role == 0 then false
  else if opAdmin op then
    if op ∈ [0x48, 0x49, 0x4A, 0x4C, 0x4D, 0x4F] then role == 1 || role == 2
    else if op ∈ [0x4E, 0x50, 0x51, 0x52, 0x53, 0x54, 0x55, 0x56, 0x57, 0x5A] then role == 1
    else true
  else if op == opComet && (subop == 4 || subop == 5) then role == 1
  else true

/-- The login state admits the opcode (03 R98, R101). -/
def loginAdmits (role op : Nat) : Bool := (op == 0x40 || op == 0x41) == (role == 0)

/-- Step 6 of R184 on a descriptor or sub-descriptor: key length, then value length (04 R159, R163, 05 R222). -/
def lengthCheck (d : Bytes) : Option Comp :=
  let op := dOpcode d
  let kl := dKeyLen d
  let vl := dValueLen d
  let keyless := op == opBatch || op == opObjAppend || op == opObjSeal || op == opComet
  if (keyless && kl != 0) || (!keyless && (kl == 0 || decide (4096 < kl))) then some (Comp.plain .keyLength)
  else if op == opDeleteRange && (vl == 0 || decide (4096 < vl)) then some (Comp.plain .keyLength)
  else if op == opGet && decide (2147483648 < vl) then some (Comp.plain .valueTooLarge)
  else if (op == opPut || op == opCas || op == opObjAppend) && decide (67108864 < vl) then some (Comp.plain .valueTooLarge)
  else if op == opObjAppend && decide (4294967296 < dArg32 d + vl) then some (Comp.plain .valueTooLarge)
  else none

/-- Step 7 of R184: fields and flags (04 R161, R163, R166, R172). -/
def fieldCheck (d : Bytes) : Option Comp :=
  let op := dOpcode d
  let f := dFlags d
  let vl := dValueLen d
  let bad :=
    (fIfAbsent f && fIfPresent f) || (op == opPut && fNoDigest f && fReturnDigest f) ||
    (sglHonoured op && fSgl f && (dCount d == 0 || decide (256 < dCount d) || !aligned (dValueAddr d) 16)) ||
    (op == opHead && decide (1 ≤ vl) && decide (vl < 64)) ||
    (op == opObjSeal && decide (1 ≤ vl) && decide (vl < 32)) ||
    (op == opObjAppend && vl == 0) ||
    (op == opBatch && (dCount d == 0 || decide (256 < dCount d) || vl != 64 * dCount d || !aligned (dValueAddr d) 64)) ||
    (op == opComet && (dSubop d == 0 || decide (6 < dSubop d) || vl != 128))
  if bad then some (Comp.denied 7) else none

/-- Steps 1 to 7 of R184 on a fetched descriptor. An unknown opcode is left to its own row. A KV_BATCH refused by a
check of its outer descriptor carries RESULT_AUX 0xFFFFFFFF (04 R180). -/
def State.earlyCheck (s : State) (x : Session) (ring : Nat) (d : Bytes) : Option Comp :=
  let op := dOpcode d
  let k :=
    if opAdmin op != (ring == 0) then some (Comp.denied 2)
    else if !loginAdmits x.role op then some (Comp.denied 3)
    else if !roleAdmits x.role op (dSubop d) then some (Comp.denied 4)
    else match s.modeOf x.role op with
      | some k => some k
      | none =>
        if opAdmin op then none
        else match lengthCheck d with
          | some k => some k
          | none => fieldCheck d
  k.map (batchComp d)

/-! ### Host areas (step 8) -/

/-- Scatter entries (04 Table 4.7): address, remote key, length. -/
def parseSgl : Nat → Bytes → List (Nat × Nat × Nat)
  | 0, _ => []
  | n + 1, bs => (u64At bs 0, u32At bs 12, u32At bs 8) :: parseSgl n (bs.drop 16)

/-- The scatter-list rules of 04 R166: each length 1 to 2 GiB, the sum VALUE_LEN. -/
def sglOk (segs : List (Nat × Nat × Nat)) (len : Nat) : Bool :=
  segs.all (fun e => decide (1 ≤ e.2.2) && decide (e.2.2 ≤ 2147483648)) && sumNat (segs.map (·.2.2)) == len

/-- The bytes of a read area, cut to the length asked for. -/
def areaBytes (r : HostRead) (len : Nat) : Option Bytes :=
  match r with
  | .data bs => some (fit len bs)
  | .accessError => none

/-- One part from a descriptor and what was read for it: its key, and its segments. `none`: a read failed. -/
def partOf (d : Bytes) (key sgl endKey : HostRead) : Option Part :=
  let op := dOpcode d
  let k := if keyIndirect d then areaBytes key (dKeyLen d) else some ((dKeyArea d).take (dKeyLen d))
  let segs :=
    if sglHonoured op && fSgl (dFlags d) then (areaBytes sgl (16 * dCount d)).map (parseSgl (dCount d))
    else some [(dValueAddr d, dValueRkey d, dValueLen d)]
  let e := if op == opDeleteRange then areaBytes endKey (dValueLen d) else some []
  match k, segs, e with
  | some k, some g, some e =>
    some { op := op, nsid := dNsid d, key := k, endKey := e, flags := dFlags d,
           len := if op == opPut || op == opCas || op == opObjAppend || op == opGet then dValueLen d else 0,
           arg64 := dArg64 d, segs := g }
  | _, _, _ => none

/-- Step 9 on one part: the scatter-list rules, the order of a range's keys (05 R229). -/
def partCheck (d : Bytes) (p : Part) : Option Comp :=
  if sglHonoured p.op && fSgl (dFlags d) && !sglOk p.segs p.len then some (Comp.denied 7)
  else if p.op == opDeleteRange && !keyLt p.key p.endKey then some (Comp.denied 7)
  else none

/-! ### Range Map and Rule Table lookups (steps 12 and 13) -/

/-- (n, k) is not above (m, j) in the order of rows (10 R397). -/
def rowLe (n : Nat) (k : Bytes) (m : Nat) (j : Bytes) : Bool := decide (n < m) || (n == m && keyLe k j)

/-- The active rows of the banks that a lookup for a namespace enables (10 R395, R398). -/
def activeRows (rows : List RangeRow) (nsid : Nat) : List RangeRow :=
  (((List.range rows.length).zip rows).filter fun p => enabled (rangePlaces rows) (nsid % 8) p.1 && p.2.active).map (·.2)

/-- The active row with the greatest (NSID, LOW) not above (nsid, key) (10 R398). -/
def findRange (rows : List RangeRow) (nsid : Nat) (key : Bytes) : Option RangeRow :=
  ((activeRows rows nsid).filter fun r => rowLe r.nsid r.low nsid key).getLast?

/-- The module that owns a key, when it is not this one (10 R398). -/
def State.foreignOwner (s : State) (nsid : Nat) (key : Bytes) : Option Nat :=
  match findRange s.asu.ranges nsid key with
  | some r => if r.nsid == nsid && r.owner != s.ident.moduleId then some r.owner else none
  | none => none

/-- The owner to whom a range is redirected: that of the lowest part not owned here (10 R399, 05 R234). -/
def State.foreignInRange (s : State) (nsid : Nat) (lo hi : Bytes) : Option Nat :=
  match s.foreignOwner nsid lo with
  | some o => some o
  | none =>
    (((activeRows s.asu.ranges nsid).filter fun r => r.nsid == nsid && keyLt lo r.low && keyLt r.low hi).find?
      fun r => r.owner != s.ident.moduleId).map (·.owner)

/-- ST_REDIRECT to a range owner (04 Table 4.12). -/
def State.toOwner (s : State) (owner : Nat) : Comp := { status := .redirect, result := owner, aux := s.asu.epoch }

/-- The OPS bit of a command (10 Table 10.6). -/
def opsClass (op subop : Nat) : Nat :=
  if op == opGet || op == opHead then 0
  else if op == opPut || op == opCas then 1
  else if op == opDelete then 2
  else if op == opDeleteRange then 3
  else if op == opObjBegin || op == opObjAppend || op == opObjSeal then 4
  else if subop == 1 || subop == 2 then 5
  else if subop == 3 then 6
  else 7

/-- A Rule Table row matches (10 R405). `key` is empty for a command without a key. -/
def ruleMatches (r : Rule) (nsid role cred ops : Nat) (key : Bytes) : Bool :=
  (r.nsAny || r.nsid == nsid) && decide (1 ≤ role) && bitOf r.roles (role - 1) && (r.credAny || r.cred == cred) &&
    bitOf r.ops ops && startsWith r.pre key

/-- Two matching rows in cursor order: descending PRIORITY, then ascending index (10 R407). -/
def ruleBefore (a b : Rule) : Bool := decide (b.priority < a.priority) || (a.priority == b.priority && decide (a.idx ≤ b.idx))

/-- The matching rows in cursor order (10 R395, R406, R407): the first is the winner. -/
def matching (rules : List Rule) (nsid role cred ops : Nat) (key : Bytes) : List Rule :=
  sortBy ruleBefore (rules.filter fun r => enabled (rulePlaces rules) (nsid % 8) r.idx && ruleMatches r nsid role cred ops key)

/-- The access rules allow (10 R406). -/
def State.allowed (s : State) (x : Session) (nsid ops : Nat) (key : Bytes) : Bool :=
  match matching s.asu.rules nsid x.role x.cred ops key with
  | r :: _ => r.allow
  | [] => false

def State.namespace? (s : State) (nsid : Nat) : Option Namespace := s.ns.find? (·.nsid == nsid)

/-- The namespace exists and its deletion has not taken effect. -/
def State.nsExists (s : State) (nsid : Nat) : Bool := match s.namespace? nsid with
  | some n => !n.gone
  | none => false

/-- Steps 11 to 13 for one key of a command. -/
def State.keyChecks (s : State) (x : Session) (p : Part) (subop : Nat) : Option Comp :=
  if !s.nsExists p.nsid then some (Comp.denied 8)
  else
    let owner := if p.op == opDeleteRange then s.foreignInRange p.nsid p.key p.endKey else s.foreignOwner p.nsid p.key
    match owner with
    | some o => some (s.toOwner o)
    | none => if s.allowed x p.nsid (opsClass p.op subop) p.key then none else some (Comp.denied 5)

def State.object? (s : State) (h : Nat) : Option ObjSession := s.kv.objects.find? (·.handle == h)

/-- Steps 10 to 13 of R184 for a command whose parts are read. A KV_OBJ_APPEND or KV_OBJ_SEAL takes the namespace
and key of its object session; a self-test passes steps 11 to 13 (12 R460); a comet has no key. -/
def State.lateCheck (s : State) (c : Cmd) : Option Comp :=
  match s.session? c.sid with
  | none => some (Comp.plain .busyRetry)
  | some x =>
    let op := dOpcode c.desc
    if op == opObjAppend || op == opObjSeal then
      match s.object? (dArg64 c.desc) with
      | none => some (Comp.denied 9)
      | some o =>
        if o.sid != c.sid then some (Comp.denied 9)
        else s.keyChecks x { op := op, nsid := o.nsid, key := o.key } 0
    else if op == opComet then
      let sub := dSubop c.desc
      if sub == 4 || sub == 5 then none
      else if !s.nsExists (dNsid c.desc) then some (Comp.denied 8)
      else if s.allowed x (dNsid c.desc) (opsClass op sub) [] then none else some (Comp.denied 5)
    else match c.parts with
      | [p] => s.keyChecks x p 0
      | _ => none

/-! ### KV_BATCH (04 R167, R168, R184) -/

/-- The sub-descriptor of index `i` in a batch array. -/
def subDesc (block : Bytes) (i : Nat) : Bytes := slice block (64 * i) 64

/-- What R184 tests of one sub-operation before its host areas are read: the opcode test of R168, and steps 6 and 7
with the running total of value lengths. -/
def subEarly (d : Bytes) (earlier : List Part) : Option Comp :=
  let op := dOpcode d
  let f := dFlags d
  if !(op == opPut || op == opDelete || op == opCas) then some (Comp.denied 7)
  else match lengthCheck d with
    | some k => some k
    | none =>
      if 67108864 < sumNat (earlier.map (·.len)) + (if op == opDelete then 0 else dValueLen d) then
        some (Comp.plain .valueTooLarge)
      else if (fIfAbsent f && fIfPresent f) ||
          (sglHonoured op && fSgl f && (dCount d == 0 || decide (256 < dCount d) || !aligned (dValueAddr d) 16)) then
        some (Comp.denied 7)
      else none

/-- What R184 makes of one sub-operation once its host areas are read: steps 8 and 9 with the comparison with earlier
keys, and steps 11 to 13. -/
def State.subLate (s : State) (x : Session) (d : Bytes) (area : HostRead × HostRead) (earlier : List Part) :
    Part ⊕ Comp :=
  match partOf d area.1 area.2 (.data []) with
  | none => .inr (Comp.plain .hostAccess)
  | some p =>
    match partCheck d p with
    | some k => .inr k
    | none =>
      if earlier.any fun q => q.nsid == p.nsid && q.key == p.key then .inr (Comp.denied 7)
      else match s.keyChecks x p 0 with
        | some k => .inr k
        | none => .inl p

/-- Checks of a KV_BATCH so far: the RDMA READs made for its sub-operations, and its parts or its failure. -/
structure BatchRun where
  reads : List Output
  parts : List Part ⊕ Comp

/-- The sub-operations one at a time in array order (04 R184): the indirect key and the scatter list of each are read
once (R157) before its later checks; the first failure decides, and RESULT_AUX names it. -/
def State.batchChecks (s : State) (x : Session) (block : Bytes) : Nat → Nat → List (HostRead × HostRead) → List Part →
    BatchRun
  | 0, _, _, acc => { reads := [], parts := .inl acc }
  | n + 1, i, areas, acc =>
    let d := subDesc block i
    match subEarly d acc with
    | some k => { reads := [], parts := .inr { k with aux := i } }
    | none =>
      match s.subLate x d (areas.headD (.data [], .data [])) acc with
      | .inr k => { reads := areaReads x.sid d, parts := .inr { k with aux := i } }
      | .inl p =>
        let rest := State.batchChecks s x block n (i + 1) (areas.drop 1) (acc ++ [p])
        { rest with reads := areaReads x.sid d ++ rest.reads }

/-! ### Admission at execution -/

/-- A command that still waits is checked against the login state and the mode again when it would go on: a login
command of a session that has logged in meanwhile is refused (03 R101), and a command that had not obtained its key
lock before a mode change completes with the new mode's status (02 R57). An inline command's steps 10 to 13 are made
here, when it starts. A read that has its version goes on. -/
def State.checkRefusal (s : State) (c : Cmd) : Option Comp :=
  let op := dOpcode c.desc
  if c.version.isSome then none
  else if !loginAdmits (s.roleOf c.sid) op then some (Comp.denied 3)
  else match s.modeOf (s.roleOf c.sid) op with
    | some k => some (batchComp c.desc k)
    | none => if c.late || opAdmin op then none else s.lateCheck c

/-- Runs `k` on a ready command of one opcode whose checks pass; a failed check completes it. A row that names no
ready command of its opcode changes nothing (notes/assumptions/2.md). -/
def State.withReady (s : State) (ref : Nat) (p : Bytes → Bool) (k : Cmd → State → State) : State :=
  match s.cmd? ref with
  | none => s
  | some c =>
    if c.phase == .ready && p c.desc then
      match s.checkRefusal c with
      | some comp => s.finish ref comp
      | none => k c (s.modCmd ref fun c => { c with late := true })
    else s

end Sys2Proof.Machine
end

