-- ==== Sys2Proof/Machine/Operands.lean ====
section
/-! DEFINITION. The operand forms of data commands: value buffers and scatter lists (04 R165), the bytes a read
returns (04 R164), the head record (04 Table 4.8), the placement of a value's extents (08 R325, R326, R336), and the
digest, seal and charge that a stored value gets (05 R197, R210; 07 R290; 14 R524). -/

namespace Sys2Proof.Machine

/-! ### Source values -/

/-- An opcode whose part carries value bytes from the host. -/
def opHasValue (op : Nat) : Bool := op == opPut || op == opCas || op == opObjAppend

/-- A part whose value bytes must still be read from the host; a remote access error ends the read too (05 R196). -/
def Part.wants (p : Part) : Bool := opHasValue p.op && p.len != 0 && p.value.isNone

/-- Every value byte of a command has been received. -/
def Cmd.received (c : Cmd) : Bool := c.parts.all fun p => !p.wants

/-- The RDMA READs of a part's value (04 R165): one per segment. -/
def valueReads (sid : Nat) (p : Part) : List Output :=
  if p.wants then p.segs.map fun g => .read sid g.2.1 g.1 g.2.2 else []

/-- The value bytes of a part. -/
def Part.bytes (p : Part) : Bytes := match p.value with
  | some (.data bs) => fit p.len bs
  | _ => []

/-- The value bytes of a part have been read. -/
def Part.hasBytes (p : Part) : Bool := match p.value with
  | some (.data _) => true
  | _ => false

/-! ### Destination buffers -/

/-- Bytes laid over destination segments in entry order: remote key, address, bytes (04 R165). -/
def scatter : List (Nat × Nat × Nat) → Bytes → List (Nat × Nat × Bytes)
  | [], _ => []
  | g :: gs, bs => if bs.isEmpty then [] else (g.2.1, g.1, bs.take g.2.2) :: scatter gs (bs.drop g.2.2)

/-- The bytes a KV_GET returns: from ARG32 to the end of the value, or VALUE_LEN bytes (04 R164). -/
def getRange (d v : Bytes) : Bytes := (v.drop (dArg32 d)).take (dValueLen d)

/-- Value bytes remain beyond VALUE_LEN (04 R164). -/
def getTruncated (d v : Bytes) : Bool := decide (dArg32 d + dValueLen d < v.length)

/-- The head record of a version (04 Table 4.8). -/
def headRecord (v : Version) : Bytes :=
  toLe 8 v.csn ++ toLe 8 (v.value.getD []).length ++ fit 32 (v.digest.getD []) ++
    toLe 1 (b2n v.digest.isSome + 2 * b2n v.object + 4 * b2n v.sealed) ++ toLe 1 v.suite ++ zeros 6 ++ toLe 8 v.commitTime

/-! ### Placement -/

/-- Channel of a die: eight dies to a channel (08 Table 8.6, 16 Table 16.1). -/
def channelOf (die : Nat) : Nat := die / 8

/-- A die is lost, by itself or with its channel. -/
def Moon.dieGone (m : Moon) (die : Nat) : Bool := decide (die ∈ m.diesLost) || decide (channelOf die ∈ m.chansLost)

/-- Blocks of a die that enter service in the SLC pool, 3 % of its rated blocks (08 R324). -/
def slcBlocks : Nat := 610

/-- Pages of a block in SLC mode and in QLC mode (08 Table 8.1). -/
def slcPages : Nat := 384
def qlcPages : Nat := 1536

/-- Blocks of the SLC pool of a moon; those of a lost die are replaced (08 R324, 09 R361). -/
def State.slcPool (s : State) (m : Nat) : Nat :=
  let gone := fun (d : Nat) => ((s.media.moons[m]?).map fun q => q.dieGone d).getD true
  let listed := s.media.blocks.filter fun b => b.id.moon == m && !gone b.id.die
  slcBlocks * 512 + (listed.filter fun b => slcBlocks ≤ b.id.block && b.mode == .slc).length
    - (listed.filter fun b => b.id.block < slcBlocks && b.mode != .slc).length

/-- Programmed in SLC mode (08 Table 8.3). -/
def PageType.isSlc : PageType → Bool
  | .slcChunk | .slcPack | .mapLog | .frontCkpt => true
  | _ => false

/-- SLC pages that an extent takes on a moon (08 R323). -/
def slcNeed (len : Nat) : Nat := max 1 ((len + 16383) / 16384)

/-- SLC blocks of a moon that hold a page, or are being written, and the pages that are left in the one being written. -/
def State.slcInUse (s : State) (m : Nat) : Nat × Nat :=
  let used := ((s.media.pages.filter fun p => p.header.kind.isSlc && p.block.moon == m).map (·.block)).eraseDups
  match (s.media.moons[m]?).bind (·.slcOpen) with
  | some (b, n) => ((used.filter (· != b)).length + 1, slcPages - n)
  | none => (used.length, 0)

/-- The SLC pool of a moon can accept an extent of `len` bytes: it has a free block, and room beside the extents that are
staged on the moon and not programmed (08 R326, R336). -/
def State.slcAccepts (s : State) (m len : Nat) : Bool :=
  let used := s.slcInUse m
  let free := s.slcPool m - used.1
  let waiting := sumNat ((s.liveExtents.filter fun e => !e.progd && (e.home == m || e.shadow == m)).map fun e => slcNeed e.len)
  decide (0 < free) && decide (waiting + slcNeed len ≤ slcPages * free + used.2)

/-- Moons that can take an extent (08 R326, R336). -/
def State.stagingMoons (s : State) (len : Nat) : List (Nat × Nat) :=
  ((List.range 8).zip s.media.moons).filterMap fun p =>
    if p.2.inService && s.slcAccepts p.1 len then some (p.2.staged, p.1) else none

/-- Lowest staged occupancy first; ties go to the lower moon number (08 R326). -/
def moonBefore (a b : Nat × Nat) : Bool := decide (a.1 < b.1) || (a.1 == b.1 && decide (a.2 ≤ b.2))

/-- Home and shadow moon of a new extent (08 R326); none while fewer than two moons can take it (R336). -/
def State.pickPair (s : State) (len : Nat) : Option (Nat × Nat) := match sortBy moonBefore (s.stagingMoons len) with
  | a :: b :: _ => some (a.2, b.2)
  | _ => none

/-- Bytes of a whole extent (08 R325). -/
def extentSize : Nat := 1048576

/-- Offsets and lengths of the extents of a value of `len` bytes; an empty value is one extent, its pack record (08 R325). -/
def extentCuts (len : Nat) : List (Nat × Nat) :=
  if len = 0 then [(0, 0)]
  else (List.range ((len + (extentSize - 1)) / extentSize)).map fun i => (i * extentSize, min extentSize (len - i * extentSize))

/-- The extents of a value that is written whole, and the offset of the one with which its key is charged. The whole extents
of an object are placed before it is sealed; its key goes with the last one, which is empty when they hold every byte: DESIGN
CHOICE, notes/assumptions/15.md. -/
def valueCuts (byAppends : Bool) (len : Nat) : List (Nat × Nat) × Nat :=
  if !byAppends then (extentCuts len, 0)
  else (extentCuts len ++ (if len = 0 || len % extentSize != 0 then [] else [(len, 0)]), len / extentSize * extentSize)

/-- An extent to be placed: what it is of, and its offset and length. -/
structure Cut where
  part : Nat
  obj  : Nat
  slot : Nat
  key  : Nat := 0
  off  : Nat
  len  : Nat
  deriving DecidableEq, Repr

/-- Places one extent: its bytes count at both moons from now on, and it stands with those placed before it. -/
def placeExtent (st : State × List Extent) (k : Cut) : State × List Extent :=
  match st.1.pickPair k.len with
  | none => st
  | some (h, w) =>
    let add := fun (m : Moon) => { m with staged := m.staged + k.len }
    ((st.1.modMoon h add).modMoon w add,
      st.2 ++ [{ part := k.part, obj := k.obj, off := k.off, len := k.len, key := k.key, home := h, shadow := w, slot := k.slot }])

/-- The version that a part will write gets its object identifier, once (08 R323). -/
def State.giveObject (s : State) (ref part : Nat) : State × Nat :=
  match (s.cmd? ref).bind fun c => c.parts[part]? with
  | none => (s, 0)
  | some p =>
    if p.obj != 0 then (s, p.obj)
    else
      let obj := s.kv.nextObjId
      let s1 := s.modCmd ref fun c => { c with parts := c.parts.modify part fun p => { p with obj := obj } }
      ({ s1 with kv := { s1.kv with nextObjId := obj + 1 } }, obj)

/-- The key slot of a namespace. -/
def State.slotOf (s : State) (nsid : Nat) : Nat := ((s.namespace? nsid).map (·.slot)).getD 0

/-- The extents of a part that are not placed. -/
def Cmd.missingCuts (c : Cmd) (i : Nat) (p : Part) : List (Nat × Nat) :=
  (valueCuts (p.op == opObjSeal) p.len).1.filter fun cut => !c.extents.any fun e => e.part == i && e.off == cut.1

/-- Places the extents of part `i`, a value that is at hand, that are not placed yet (08 R325, R326). Nothing is placed
while no two moons can take an extent: the value stays in the ingest buffer (R336). -/
def State.placeValue (s : State) (ref i : Nat) (p : Part) : State :=
  let o := s.giveObject ref i
  let cuts := ((s.cmd? ref).map fun c => c.missingCuts i p).getD []
  let keyAt := (valueCuts (p.op == opObjSeal) p.len).2
  let place := fun (st : State × List Extent) (cut : Nat × Nat) => placeExtent st
    { part := i, obj := o.2, slot := s.slotOf p.nsid, key := if cut.1 = keyAt then p.key.length else 0, off := cut.1, len := cut.2 }
  let r := cuts.foldl place (o.1, [])
  let s1 := r.1.modCmd ref fun c => { c with extents := c.extents ++ r.2 }
  { s1 with seq := { s1.seq with
      charges := mapWhere (·.ref == ref) (fun q => { q with extents := q.extents ++ r.2 }) s1.seq.charges } }

/-- A mutation has started and its outcome is not fixed: its values are being placed. -/
def Cmd.places (c : Cmd) : Bool :=
  decide (c.phase ∈ [.orderWait, .lockWait, .valueWait, .csnWait, .granted, .committed])

/-- The parts that write a value which is at hand and not placed whole. -/
def Cmd.unplaced (c : Cmd) : List (Nat × Part) :=
  ((List.range c.parts.length).zip c.parts).filter fun p =>
    (p.2.op == opPut || p.2.op == opCas || p.2.op == opObjSeal) && (p.2.len == 0 || p.2.hasBytes) &&
      !(c.missingCuts p.1 p.2).isEmpty

/-- Places what can be placed of a command. -/
def State.placeParts (s : State) (c : Cmd) : State := c.unplaced.foldl (fun s p => s.placeValue c.ref p.1 p.2) s

/-- The whole extents of an object's bytes are placed (08 R325); the object identifier is that of the version it will be. -/
def State.placeObject (s : State) (o : ObjSession) : State :=
  let cuts := (extentCuts o.bytes.length).filter fun cut => cut.2 == extentSize && !o.extents.any (·.off == cut.1)
  if cuts.isEmpty then s
  else
    let obj := if o.objId = 0 then s.kv.nextObjId else o.objId
    let place := fun (st : State × List Extent) (cut : Nat × Nat) =>
      placeExtent st { part := 0, obj := obj, slot := s.slotOf o.nsid, off := cut.1, len := cut.2 }
    let r := cuts.foldl place (s, [])
    let os := mapWhere (·.handle == o.handle) (fun x => { x with objId := obj, extents := x.extents ++ r.2 }) r.1.kv.objects
    { r.1 with kv := { r.1.kv with objects := os, nextObjId := max r.1.kv.nextObjId (obj + 1) } }

/-- Places what waits in the ingest buffers once folding has freed SLC blocks (08 R336). -/
def State.placeWaiting (s : State) : State :=
  s.kv.objects.foldl State.placeObject ((s.cmds.list.filter Cmd.places).foldl State.placeParts s)

/-- Every extent of a command is placed and staged on both its moons. -/
def Cmd.stagedAll (c : Cmd) : Bool := c.unplaced.isEmpty && c.extents.all (·.staged)

/-! ### Pages and data units -/

/-- A version is stored in a pack page (08 R321, R322). -/
def inPack (key : Bytes) (len : Nat) : Bool := decide (key.length + len + 48 ≤ 12288)

/-- QLC pages of a value: one in a pack page, or one for each chunk (08 R323). -/
def pageCount (key : Bytes) (len : Nat) : Nat := if inPack key len then 1 else (len + 16383) / 16384

/-- AES blocks of one page of a value: its pack record's body, or its chunk (14 R520, R521, R539). -/
def pageBlocks (key : Bytes) (len page : Nat) : Nat :=
  if inPack key len then aesBlocks (key.length + len) else aesBlocks (min 16384 (len - 16384 * page))

/-- AES blocks of an extent as it is staged: in a pack record the key goes before the value (14 R520, R539). -/
def extentBlocks (key : Bytes) (len : Nat) (e : Extent) : Nat :=
  if inPack key len then aesBlocks (key.length + e.len) else aesBlocks e.len

/-- AES blocks that no extent holds: a map record's key of a chunked version, the key of an empty pack record, and the
digest kept (14 R520, R539). -/
def recordBlocks (v : Version) : Nat := match v.value with
  | none => 0
  | some b => (if b.isEmpty || !inPack v.key b.length then aesBlocks v.key.length else 0) + (if v.digest.isSome then 2 else 0)

/-- The generation of an extent's bytes at an offset; `cur` where none is staged (14 R540). -/
def genAt (es : List Extent) (cur off : Nat) : Nat :=
  ((es.find? fun e => e.staged && decide (e.off ≤ off) && decide (off < e.off + e.len)).map (·.gen)).getD cur

/-! ### What a stored value gets -/

/-- The digest kept with a value under a namespace's fixity policy (05 R210, 13 Table 13.1): 0 OPTIONAL, 1 REQUIRED,
2 NONE. -/
def keptDigest (fixity : Nat) (noDigest : Bool) (value : Bytes) : Option Bytes :=
  if fixity == 2 || (fixity == 0 && noDigest) then none else some (sha256 value)

/-- A part writes a value. -/
def Part.writes (p : Part) : Bool := p.op == opPut || p.op == opCas || p.op == opObjSeal

/-- The value a mutation's part writes: none for a deletion. -/
def Part.newValue (p : Part) : Option Bytes := if p.writes then some p.bytes else none

/-- Bytes that an extent charges: its own, and those of the key that goes with it (07 R290). -/
def Extent.charge (e : Extent) : Nat := e.len + e.key

/-- Bytes a command charges to the window: key and value lengths it writes, less those programmed twice (07 R290, R292). -/
def Cmd.windowCharge (c : Cmd) : Nat :=
  if c.progd then 0
  else sumNat ((c.parts.filter (·.writes)).map fun p => p.key.length + p.len) - sumNat ((c.extents.filter (·.progd)).map (·.charge))

/-- A mutation that writes no value bytes: deletions, and values of 0 bytes (07 R286). -/
def Cmd.valueless (c : Cmd) : Bool := c.parts.all fun p => !p.writes || p.len == 0

/-- Growth of one part in bytes and objects (05 R197, R198). -/
def State.growth (s : State) (p : Part) : Int × Int :=
  let old := s.currentValue p.nsid p.key
  let newB : Int := if p.writes then (p.key.length + p.len : Nat) else 0
  let newO : Int := if p.writes then 1 else 0
  (newB - (keyCharge old : Int), newO - (if old.isSome then 1 else 0))

end Sys2Proof.Machine
end

