-- ==== Sys2Proof/Machine/Flags.lean ====
section
/-! DEFINITION. Every flag a command or the module reports: the bits of a completion (04 Table 4.11, R178, R179, 07
R284), the attention causes and warnings whose conditions State shows (16 Table 16.3, Table 16.4), and the state bits
of a ring query. -/

namespace Sys2Proof.Machine

/-- Every byte of a mutation is programmed twice, in PRIMARY on both members (07 R284, R287, 15 R568). -/
def State.atMedia (s : State) (c : Cmd) : Bool := c.progd && (!s.mirroring || c.partnerMedia)

/-- DURABLE_LEVEL of a mutation that completes now (07 R284 to R287; in PRIMARY the lower of the two members', 15
R568): 2 MEDIA, else 1 WINDOW. -/
def State.levelOf (s : State) (c : Cmd) : Nat := if s.atMedia c then 2 else 1

/-- The completion of a mutation with ST_OK (04 Table 4.12, R178). -/
def State.mutationComp (s : State) (c : Cmd) (result : Nat) (digest : Bool) : Comp :=
  { status := .ok, csn := c.csn, result := result, level := s.levelOf c, digest := digest }

/-- The completion of a KV_GET with ST_OK (04 Table 4.12, R164, 05 R204). -/
def getComp (d : Bytes) (v : Version) (degraded : Bool) : Comp :=
  let b := v.value.getD []
  { status := .ok, csn := v.csn, result := b.length, aux := (getRange d b).length, truncated := getTruncated d b,
    degraded := degraded }

/-- The completion of a KV_GET whose seal check failed (04 R179, 05 R204, 14 R527, R528): with AUTHFAIL_COMPAT no byte
reaches the host, so none that was rebuilt. -/
def sealFailComp (d : Bytes) (v : Version) (compat degraded : Bool) : Comp :=
  let b := v.value.getD []
  { status := .sealFail, csn := v.csn, result := b.length, aux := if compat then 0 else (getRange d b).length,
    untrusted := !compat, degraded := !compat && degraded }

/-- The completion of a KV_HEAD with ST_OK (04 Table 4.12, R170): DIGEST_WRITTEN tells that the record written holds a
digest, with or without RETURN_DIGEST. -/
def headComp (v : Version) (written : Bool) : Comp :=
  { status := .ok, csn := v.csn, result := (v.value.getD []).length, digest := written && v.digest.isSome }

/-- Raises an attention cause: set, with its trouble-log entry (16 R608, R611). -/
def State.raise (s : State) (bit code unit index : Nat) (data : List (Nat × Bytes)) : State :=
  (s.setCause bit).logEvent code unit index data

/-! Sideband pins (21 Table 21.7). -/

def pinScl : Nat := 2
def pinSda : Nat := 4
def pinPresent : Nat := 6
def pinAliveOut : Nat := 16
def pinAliveIn : Nat := 18
def pinPps : Nat := 20

/-- A sideband pin is shorted to the field supply (20 R715, 18 Table 18.14). -/
def State.shorted (s : State) (pin : Nat) : Bool := decide (0 < pin) && s.pins.short.getLsbD (pin - 1)

/-- PAIR_ALIVE_OUT is driven: neither shorted nor in contention (20 Table 20.12, R716). -/
def State.drivesAlive (s : State) : Bool := !s.shorted pinAliveOut && !s.pins.contention

end Sys2Proof.Machine
end

