-- ==== Sys2Proof/Machine/Flash.lean ====
section
/-! DEFINITION. Flash as blocks, bands and programmed pages: block state (08 R324; 09 R357, R370 to R372), page headers (08
R320 to R322), read references and flash reads (09 R369, R377), the programming of SLC pages (08 R323, R327, R328) and the
stored bytes of a page (08 R331; 14 R520, R521). Block numbers of a die: 0 to 609 enter service in the SLC pool, 610 to
18,311 in the QLC pool, the rest are spares (notes/assumptions/31.md). -/

namespace Sys2Proof.Machine

/-! ### The geometry of a die (08 R318, R319, Table 8.1) -/

def planes : Nat := 6
def planeBlocks : Nat := 3400
def goodPlaneBlocks : Nat := 3391
def wordlines : Nat := 384
def pageData : Nat := 16384
def pageSpare : Nat := 2176

/-- Pages that count for the rated capacity of a die. -/
def ratedPages : Nat := 31250000

/-- Rated blocks of a die: those that hold its rated pages (08 R319, 09 R360). -/
def ratedBlocks : Nat := (ratedPages + qlcPages - 1) / qlcPages

/-- Blocks of a die beyond the rated ones that may be good; they join its spare pool at factory format (08 R319). -/
def extraBlocks : Nat := planes * planeBlocks - ratedBlocks

/-! ### Blocks, dies, bands -/

/-- A block as at factory format (08 R324, 09 R360). -/
def factoryBlock (id : BlockId) : Block :=
  { id := id, mode := if id.block < 610 then .slc else if id.block < 18312 then .qlc else .spare }

/-- Wear of a block in units of 0.01 % (09 R358). -/
def Block.wear (b : Block) : Nat := b.count / 6

/-- Read-disturb threshold of a block (09 Table 9.4). -/
def Block.threshold (b : Block) : Nat :=
  if b.mode = .slc then (if b.count ≤ 30000 then 10000000 else 4000000) else if b.count ≤ 30000 then 1000000 else 400000

/-- The read counter of a block after an unclean power loss (09 R371). -/
def Block.restart (b : Block) : Block := { b with reads := max b.saved (b.threshold / 2) }

/-- A block in service: in the SLC or the QLC pool. -/
def Block.inService (b : Block) : Bool := b.mode == .slc || b.mode == .qlc

/-- A block of the module. -/
def State.block (s : State) (id : BlockId) : Block :=
  let f := if s.media.restarted then (factoryBlock id).restart else factoryBlock id
  let scanned := { f with reads := f.reads + ((s.media.moons[id.moon]?).map (·.scans)).getD 0 }
  (s.media.blocks.find? fun b => b.id == id).getD scanned

/-- Writes a block. -/
def State.setBlock (s : State) (b : Block) : State :=
  let others := s.media.blocks.filter fun q => q.id != b.id
  { s with media := { s.media with blocks := others ++ [b] } }

/-- A die whose clock or sensor has been read. -/
def State.die? (s : State) (moon die : Nat) : Option Die := s.media.dies.find? fun d => d.moon == moon && d.die == die

/-- The equivalent-age clock of a die (09 R372). -/
def State.dieClock (s : State) (moon die : Nat) : Nat := ((s.die? moon die).map (·.age)).getD 0

/-- The temperature of a die, in units of 0.25 °C: its last reading (09 R372, R377). -/
def State.dieTemp (s : State) (moon die : Nat) : Int :=
  ((s.die? moon die).bind (·.temp)).getD (Config.dieTemp moon die).toInt

/-- Changes a die. -/
def State.modDie (s : State) (moon die : Nat) (f : Die → Die) : State :=
  let mine := fun (d : Die) => d.moon == moon && d.die == die
  let d := (s.die? moon die).getD { moon := moon, die := die }
  let others := s.media.dies.filter fun d => !mine d
  { s with media := { s.media with dies := others ++ [f d] } }

/-- A die or its moon is out of service: its pages are read through the other pages of their stripes (08 R340). -/
def State.partOut (s : State) (i : BlockId) : Bool :=
  ((s.media.moons[i.moon]?).map fun m => !m.inService || m.dieGone i.die).getD true

def State.band? (s : State) (n : Nat) : Option Band := s.media.bands.find? (·.num == n)

/-- Changes a band. -/
def State.modBand (s : State) (n : Nat) (f : Band → Band) : State :=
  { s with media := { s.media with bands := mapWhere (·.num == n) f s.media.bands } }

/-- Band of a stripe (08 R330). -/
def bandOf (stripe : Nat) : Nat := stripe / 1536

/-- The map buddy of a moon: its number with bit 2 changed (08 R342). -/
def buddyOf (m : Nat) : Nat := if m % 8 < 4 then m + 4 else m - 4

/-- The log tail of a moon. -/
def State.tailOf (s : State) (moon : Nat) : List MapRec := ((s.media.moons[moon]?).map (·.tail)).getD []

/-- The moons in service. -/
def State.moonsIn (s : State) : List Nat :=
  ((List.range 8).zip s.media.moons).filterMap fun p => if p.2.inService then some p.1 else none

/-- The parity moon of a stripe (08 R330); of a narrow band the one of its seven moons that R344 counts. -/
def State.parityMoon (s : State) (stripe : Nat) : Nat := match s.band? (bandOf stripe) with
  | some b => if b.narrow then (sortBy (fun x y => decide (x ≤ y)) (b.blocks.map (·.moon))).getD (stripe % 7) 8 else stripe % 8
  | none => stripe % 8

/-! ### Page headers (08 R320 to R322) -/

/-- PAGE_TYPE (08 Table 8.3). -/
def PageType.code : PageType → Nat
  | .slcChunk => 1 | .slcPack => 2 | .qlcChunk => 3 | .qlcPack => 4 | .parity => 5 | .map => 6 | .mapLog => 7 | .frontCkpt => 8

/-- A data page moves into QLC with its LADDR unchanged (08 R323, Table 8.3). -/
def PageType.toQlc : PageType → PageType
  | .slcChunk => .qlcChunk
  | .slcPack => .qlcPack
  | k => k

/-- Bytes 0 to 59 of a page header (08 Table 8.2). -/
def PageHeader.body (h : PageHeader) : Bytes :=
  toLe 2 1 ++ toLe 1 h.kind.code ++
    toLe 1 (b2n h.provisional + 2 * b2n h.shadow + 4 * b2n h.pad + 8 * b2n h.relocated) ++ toLe 2 (h.nsid % 4096) ++
    toLe 2 (signed16 h.progTemp) ++ toLe 8 h.csn ++ toLe 8 h.laddr ++ toLe 2 h.valid ++ toLe 2 h.records ++
    toLe 5 h.stripe ++ toLe 1 (h.position % 8 + 8 * b2n h.narrow) ++ toLe 1 (h.partner % 8) ++ zeros 1 ++
    toLe 2 (h.keySlot % 8192) ++ zeros 2 ++ toLe 8 h.token ++ toLe 8 h.progTime ++ zeros 4

/-- The 64 bytes of a page header (08 Table 8.2). -/
def PageHeader.bytes (h : PageHeader) : Bytes := h.body ++ toLe 4 (crc32c h.body).toNat

/-- A header as recovery reads it is taken: its PAGE_TYPE is listed and its HDR_CRC matches (08 R322). -/
def headerReadable (b : Bytes) : Bool :=
  decide (1 ≤ byteAt b 2 ∧ byteAt b 2 ≤ 8) && u32At b 60 == (crc32c (b.take 60)).toNat

/-- LADDR of a chunk page: object identifier and chunk index (08 Table 8.3). -/
def chunkAddr (obj chunk : Nat) : Nat := obj * 2 ^ 18 + chunk

/-- The codewords that cover part of a page's data area (08 R320). -/
def codewords (off len : Nat) : List Nat :=
  (List.range 4).filter fun k => decide (off < 4096 * (k + 1)) && decide (4096 * k < off + len)

/-- The codeword that a read of a page header decodes (08 R320). -/
def headerCodewords : List Nat := [0]

/-- What one of the four codewords of a page covers: 4,096 bytes of the data area, and in codeword 0 the header (08 R320). -/
def codewordBytes (h : PageHeader) (area : Bytes) (k : Nat) : Bytes :=
  fit 4096 (area.drop (4096 * k)) ++ if k = 0 then h.bytes else []

/-- The 2,176-byte spare area of a page: its header and four LDPC parity fields of 528 bytes (08 R320). -/
def spareArea (h : PageHeader) (area : Bytes) : Bytes :=
  h.bytes ++ (List.range 4).flatMap fun k => toLe 528 (Config.ldpcParity (codewordBytes h area k)).toNat

/-! ### Flash reads (09 R369, R377) -/

/-- The level of an island: its own, or its moon's when that is higher (20 R708). -/
def State.levelAt (s : State) (i : Island) : Nat :=
  let own := fun (j : Island) => ((s.thermal.islands.find? fun t => decide (t.island = j)).map (·.level)).getD 0
  match i with
  | .channel m _ => max (own i) (own (.moon m))
  | _ => own i

/-- A block's channel island is at T7, where comet reads and background work of ranks 3 to 6 are suspended (20 R709). -/
def State.atT7 (s : State) (i : BlockId) : Bool := s.levelAt (.channel i.moon (i.die / 64)) == 7

/-- The bin of a difference of temperature in units of 0.25 °C: bins of 25 K from -200 K to +200 K (09 R377). -/
def refBin (delta : Int) : Nat := (max 0 (min 15 ((delta + 800) / 100))).toNat

/-- The read-reference set of a page read: by the program temperature that the band table records for its block, and on a
retry by that of the page's header (09 R377). -/
def State.readRefs (s : State) (p : Page) (retry : Bool) : Nat :=
  let prog := if retry then p.header.progTemp else (s.block p.block).progTemp
  Config.readRefs p.block.moon p.block.die (refBin (s.dieTemp p.block.moon p.block.die - prog))

/-- One read operation of a page (08 R320, 09 R369, R377): the codewords asked for, and the block's read counter. -/
def State.readFlash (s : State) (p : Page) (cws : List Nat) (retry : Bool) : State :=
  let b := s.block p.block
  (s.emit (.flashRead p.block p.index cws (s.readRefs p retry))).setBlock { b with reads := b.reads + 1 }

/-- The other pages of a page's stripe, its parity page among them. -/
def State.besides (s : State) (p : Page) : List Page :=
  s.media.pages.filter fun q => !q.header.kind.isSlc && q.header.stripe == p.header.stripe && q.block != p.block

/-- A degraded read (08 R340): the same codewords of the other pages of the stripe. -/
def State.readAround (s : State) (p : Page) (cws : List Nat) : State :=
  (s.besides p).foldl (fun s q => s.readFlash q cws false) s

/-- The data area that a degraded read rebuilds: the XOR of the other pages' (08 R340). -/
def State.rebuiltArea (s : State) (p : Page) : Bytes := parityPage ((s.besides p).map (·.area)) pageData

/-- A page is lost for this read: its block cannot be read and no other page of its stripe is lost (08 R340), or another one
is, so that it cannot be rebuilt (R341). -/
def State.lostTwice (s : State) (p : Page) : Bool := s.partOut p.block && (s.besides p).any fun q => s.partOut q.block

/-- A page that lies on a lost part is read through its stripe, any other by itself (08 R340, 06 R277). -/
def State.readPage (s : State) (p : Page) (cws : List Nat) : State :=
  if s.partOut p.block then s.readAround p cws else s.readFlash p cws false

/-- A QLC page that stays undecodable: seven retries with shifted references, then its stripe (08 R339, R340). -/
def State.retryPage (s : State) (p : Page) (cws : List Nat) : State :=
  ((List.range 7).foldl (fun s _ => s.readFlash p cws true) s).readAround p cws

/-! ### The pages of a version (08 R323, R325) -/

/-- Data bytes in use of a page of a value: a pack record of header, key and value, or a chunk (08 R323, R321). -/
def validBytes (key : Bytes) (len chunk : Nat) : Nat :=
  if inPack key len then 48 + key.length + len else min 16384 (len - 16384 * chunk)

/-- The chunks of a value that an extent holds (08 R323, R325). -/
def Extent.chunks (e : Extent) (key : Bytes) (len : Nat) : List Nat :=
  if inPack key len then [0] else (List.range ((e.len + 16383) / 16384)).map (· + e.off / 16384)

/-- Offset in a page's data area and length of the bytes that a range of the value covers on a page (08 R320, R323). -/
def pageRange (key : Bytes) (len off n chunk : Nat) : Nat × Nat :=
  if inPack key len then (48 + key.length + off, n)
  else
    let from_ := max off (16384 * chunk)
    let to_ := min (off + n) (16384 * (chunk + 1))
    (from_ - 16384 * chunk, to_ - from_)

/-- What the pages of a value have in common: namespace, CSN, key slot, object, key and value. -/
structure PageOwner where
  nsid  : Nat
  csn   : Nat
  slot  : Nat
  obj   : Nat
  key   : Bytes
  value : Bytes
  deriving DecidableEq, Repr

/-- The length of the value. -/
def PageOwner.len (w : PageOwner) : Nat := w.value.length

/-- The owner of a version's pages. -/
def Version.owner (v : Version) : PageOwner :=
  { nsid := v.nsid, csn := v.csn, slot := v.slot, obj := v.objId, key := v.key, value := v.value.getD [] }

/-- The plaintext body of a page of a value: key and value of a pack record, or a chunk (14 R520). -/
def PageOwner.body (w : PageOwner) (chunk : Nat) : Bytes :=
  if inPack w.key w.len then w.key ++ w.value else slice w.value (16384 * chunk) 16384

/-- What a page of a value holds of it, as it is stored under a key generation (08 R323, 14 R520, R521): a pack record's
header, which is not encrypted, goes before its body. -/
def State.storedBytes (s : State) (w : PageOwner) (gen chunk : Nat) : Bytes :=
  let root := ((s.vault.slots.find? (·.slot == w.slot)).map (·.root)).getD []
  let body := xtsBody (xtsKeys root w.slot gen) w.obj chunk (w.body chunk)
  if inPack w.key w.len then toLe 48 (Config.recordHeader w.obj).toNat ++ body else body

/-- The header of a data page (08 Table 8.2, R321, R327, R328) with one record of a pack. The pack number is the object
identifier of its first record's version: DESIGN CHOICE, notes/assumptions/66.md. -/
def dataHeader (w : PageOwner) (chunk : Nat) (token : Option Nat) (shadow : Bool) (partner : Nat) : PageHeader :=
  let pack := inPack w.key w.len
  { kind := if pack then .slcPack else .slcChunk, provisional := token.isSome, shadow := shadow, nsid := w.nsid,
    csn := if token.isSome then 0 else w.csn, laddr := if pack then w.obj else chunkAddr w.obj chunk,
    valid := validBytes w.key w.len chunk, records := b2n pack, partner := partner, keySlot := w.slot,
    token := token.getD 0 }

/-! ### Programming SLC (08 R324, R327, R328) -/

/-- SLC blocks of a moon in an order that the manual does not state, from which the next one to write is taken. -/
def slcOrder (moon start k : Nat) : BlockId :=
  let x := (start + k) % 312320
  { moon := moon, die := x % 512, block := x / 512 }

/-- The SLC blocks that a moon is writing: for data, and for the two copies of its map log (08 R352). -/
def Moon.openSlc (m : Moon) : List (BlockId × Nat) := m.slcOpen.toList ++ m.logOpen.filterMap id

/-- An SLC block without a page that may be written: of a die in service, not worn out, not being written (08 R324, 09 R359). -/
def State.slcFree (s : State) (i : BlockId) : Bool :=
  let b := s.block i
  b.mode == .slc && decide (b.count < 60000) && !s.partOut i && !s.media.pages.any (·.block == i) &&
    !((s.media.moons[i.moon]?).map fun m => m.openSlc.any (·.1 == i)).getD false

/-- The SLC block that a moon opens next: a free one that `ok` admits, which is not stated. -/
def State.nextSlc (s : State) (moon : Nat) (ok : BlockId → Bool) : BlockId :=
  let start := (Config.slcBlock s.fresh).toNat
  let ids := (List.range (2 * s.media.pages.length + s.media.blocks.length + 1024)).map (slcOrder moon start)
  let others := (s.media.blocks.filter fun b => b.id.moon == moon && b.mode == .slc).map (·.id)
  ((ids ++ others).find? fun i => ok i && s.slcFree i).getD (slcOrder moon start 0)

/-- The next page of an SLC block that is being written: 384 to a block (08 Table 8.1); else the first of a new one. -/
def State.slcSlot (s : State) (moon : Nat) (at_ : Option (BlockId × Nat)) (ok : BlockId → Bool) : BlockId × Nat :=
  match at_ with
  | some (b, n) => if n < slcPages && !s.partOut b then (b, n) else (s.nextSlc moon ok, 0)
  | none => (s.nextSlc moon ok, 0)

/-- A change that reaches the media alone. -/
def State.onMedia (s : State) (f : State → State) : State := { s with media := (f s).media }

/-- A block takes its first page: its program temperature and age are noted (09 R372, R377). -/
def State.startBlock (s : State) (i : BlockId) : State :=
  let age := s.dieClock i.moon i.die
  s.setBlock { s.block i with progAge := age, progTemp := s.dieTemp i.moon i.die, progTime := s.time.now, sampleAge := age,
                              sampleTime := s.time.now }

/-- Adds a programmed page, with the die's temperature and the module's time in its header. -/
def State.addPage (s : State) (p : Page) : State :=
  let h := { p.header with progTemp := s.dieTemp p.block.moon p.block.die, progTime := s.time.now, position := p.block.moon }
  { s with media := { s.media with pages := s.media.pages ++ [{ p with header := h }] } }

/-- What is written to a page: the objects of its records, its chunk, its header and its data area. -/
structure Image where
  obj    : Nat := 0
  also   : List Nat := []
  chunk  : Nat := 0
  header : PageHeader
  area   : Bytes := []
  deriving DecidableEq, Repr

/-- An image at a place. -/
def Image.put (g : Image) (block : BlockId) (index : Nat) : Page :=
  { block := block, index := index, obj := g.obj, also := g.also, chunk := g.chunk, header := g.header, area := g.area }

/-- What a page holds. -/
def Page.image (p : Page) : Image := { obj := p.obj, also := p.also, chunk := p.chunk, header := p.header, area := p.area }

/-- The objects whose records or chunk a page holds. -/
def Page.objs (p : Page) : List Nat := if p.obj = 0 then [] else p.obj :: p.also

/-- A page holds a record or a chunk of an object. -/
def Page.holds (p : Page) (obj : Nat) : Bool := decide (obj ∈ p.objs)

/-- Programs one SLC page of data on a moon in service. -/
def State.programSlc (s : State) (moon : Nat) (g : Image) : State :=
  s.draw.onMedia fun s => if moon ∉ s.moonsIn then s else
    let a := s.slcSlot moon ((s.media.moons[moon]?).bind (·.slcOpen)) fun _ => true
    let s1 := s.modMoon moon fun m => { m with slcOpen := some (a.1, a.2 + 1) }
    (if a.2 = 0 then s1.startBlock a.1 else s1).addPage (g.put a.1 a.2)

/-- Both SLC copies of a page of an extent (08 R327): identical ciphertext, each names the other moon, the shadow's is marked. -/
def State.programPair (s : State) (e : Extent) (g : Image) : State :=
  (s.programSlc e.home { g with header := { g.header with partner := e.shadow, shadow := false } }).programSlc e.shadow
    { g with header := { g.header with partner := e.home, shadow := true } }

/-- The page of a chunk of a value, as its extent encrypted it. -/
def State.chunkImage (s : State) (w : PageOwner) (token : Option Nat) (e : Extent) (k : Nat) : Image :=
  { obj := w.obj, chunk := k, header := dataHeader w k token false e.shadow, area := s.storedBytes w e.gen k }

/-- Both SLC copies of an extent's pages (08 R327). -/
def State.programExtent (s : State) (w : PageOwner) (token : Option Nat) (e : Extent) : State :=
  (e.chunks w.key w.len).foldl (fun s k => s.programPair e (s.chunkImage w token e k)) s

/-- Where the value of a version is staged and not programmed: its charged extents, else its home and shadow moons. -/
def State.stagedExtents (s : State) (v : Version) : List Extent :=
  match (s.seq.charges.flatMap (·.extents)).filter (·.obj == v.objId) with
  | [] => [{ part := 0, obj := v.objId, off := 0, len := (v.value.getD []).length, home := v.home, shadow := v.shadow }]
  | es => es.filter (!·.progd)

/-- Programs the staged value of a committed version (07 R295, 08 R327), but for one that a flush leaves short (07 R314); it
is in SLC then. -/
def State.programVersion (s : State) (v : Version) : State :=
  let here := fun (u : Version) => u.objId == v.objId
  let s1 := if v.value.isSome && !v.lost then (s.stagedExtents v).foldl (fun s e => s.programExtent v.owner none e) s else s
  { s1 with kv := { s1.kv with versions := mapWhere here (fun u => { u with place := .slc }) s1.kv.versions } }

/-- Programs every staged version, in ascending order of CSN (07 R731, Table 7.6 step 3, 02 R76 step 3). -/
def State.programStaged (s : State) : State :=
  (sortBy (fun (a b : Version) => decide (a.csn ≤ b.csn)) (s.kv.versions.filter (·.place == .staged))).foldl State.programVersion s

/-! ### Extents one by one (07 R295, R730, R731) -/

/-- An extent to be programmed: what its pages have in common, its token while its mutation has not committed, and the CSN of
its charge. -/
structure SlcJob where
  owner  : PageOwner
  token  : Option Nat
  charge : Option Nat
  ext    : Extent
  deriving DecidableEq, Repr

/-- The same extent. -/
def sameExtent (e x : Extent) : Bool := x.obj == e.obj && x.off == e.off

/-- Bytes leave the occupancy with their extent; a charge whose extents are all programmed is gone (07 R295). -/
def Charge.less (e : Extent) (q : Charge) : Charge :=
  if q.extents.any (sameExtent e) then { q with bytes := q.bytes - e.charge } else q

/-- A charge of which nothing is left to program. -/
def Charge.done (q : Charge) : Bool := !q.extents.isEmpty && q.extents.all (·.progd)

/-- A committed version is in SLC once each of its extents is placed and programmed. -/
def State.settleVersion (s : State) (obj : Nat) : State :=
  let open_ := s.seq.charges.any (fun q => q.extents.any fun e => e.obj == obj && !e.progd) ||
    s.cmds.list.any fun c => c.isCommitted && c.unplaced.any fun p => p.2.obj == obj
  if open_ then s
  else
    let mine := fun (v : Version) => v.objId == obj && v.place == .staged
    { s with kv := { s.kv with versions := mapWhere mine (fun v => { v with place := .slc }) s.kv.versions } }

/-- A pack page with the records of several jobs (08 R323): the highest of their CSNs, the sum of their bytes. -/
def State.packImage (s : State) (js : List SlcJob) (h : PageHeader) : Image :=
  let ws := js.map (·.owner)
  { obj := (ws.head?.map (·.obj)).getD 0, also := ws.tail.map (·.obj),
    header := { h with csn := maxNat (ws.map (·.csn)), records := ws.length,
                       valid := sumNat (ws.map fun w => validBytes w.key w.len 0) },
    area := js.flatMap fun j => s.storedBytes j.owner j.ext.gen 0 }

/-- The records of other jobs may stand beside that of a job in one pack page: of one namespace and key slot, of the same two
moons, committed, and with room for all of them (08 R321, R323). -/
def packTogether (j : SlcJob) (js : List SlcJob) : Bool :=
  let all := j :: js
  js.isEmpty || ((all.map (·.owner.obj)).Nodup && all.all (fun k => k.token.isNone && inPack k.owner.key k.owner.len &&
    k.owner.nsid == j.owner.nsid && k.owner.slot == j.owner.slot && k.ext.home == j.ext.home && k.ext.shadow == j.ext.shadow) &&
    decide (sumNat (all.map fun k => validBytes k.owner.key k.owner.len 0) ≤ pageData))

/-- An extent has both its copies: its bytes leave the occupancy and the staging (07 R295). -/
def State.leaveWindow (s : State) (e : Extent) : State :=
  let s1 := (s.unstageAll [e]).modExtent e fun x => { x with progd := true }
  let left := (s1.seq.charges.map (Charge.less e)).filter fun q => !q.done
  State.settleVersion { s1 with seq := { s1.seq with charges := left } } e.obj

/-- Both copies of an extent are programmed: its pages stand in SLC (07 R295). -/
def State.programJob (s : State) (j : SlcJob) : State :=
  if j.ext.progd then s else (s.programExtent j.owner j.token j.ext).leaveWindow j.ext

/-- The charged extents that a moon programs ahead of a job: those staged of a lower CSN; all of them ahead of provisional
pages (07 R731). -/
def State.aheadOf (s : State) (j : SlcJob) : List Extent :=
  ((s.seq.charges.filter fun q => (j.charge.map fun n => decide (q.csn < n)).getD true).flatMap (·.extents)).filter fun e =>
    e.staged && !e.progd

/-- Moons that have programmed their copy of an extent when those of a job have programmed theirs. -/
def SlcJob.earlier (j : SlcJob) (e : Extent) : List Nat :=
  (e.early ++ [j.ext.home, j.ext.shadow].filter fun m => m == e.home || m == e.shadow).eraseDups

/-- The order of 07 R731 lets a job be done: no extent ahead of it would have both its copies programmed before it has left. -/
def State.inSlcTurn (s : State) (j : SlcJob) : Bool := (s.aheadOf j).all fun e => decide ((j.earlier e).length < 2)

/-- The moons of a job have programmed what stood ahead of it (07 R731). -/
def State.passTurn (s : State) (j : SlcJob) : State :=
  (s.aheadOf j).foldl (fun s e => s.modExtent e fun x => { x with early := j.earlier x }) s

/-- All staged data is in SLC and durable; nothing is charged or staged any more. -/
def State.programAll (s : State) : State :=
  let s1 := s.programStaged
  { s1 with kv := { s1.kv with versions := s1.kv.versions.map fun v => { v with durable := true } }
            seq := { s1.seq with charges := [] }
            media := { s1.media with moons := s1.media.moons.map fun m => { m with staged := 0 } } }

/-! ### The map log on flash (08 R342, R352) -/

/-- The header of a MAP_LOG page: a moon's log goes to the moon itself and, as the other copy, to its buddy (08 R342, R352,
Table 8.3). -/
def MapRec.header (r : MapRec) (moon : Nat) (copy : Bool) : PageHeader :=
  { kind := .mapLog, shadow := copy, laddr := r.seq, valid := r.len, partner := if copy then moon else buddyOf moon }

/-- One copy of a MAP_LOG record: copies 0 and 1 lie on two channels of the moon, copy 2 on its buddy (08 R352). -/
def State.logCopy (s : State) (owner : Nat) (r : MapRec) (copy : Nat) : State :=
  let moon := if copy = 2 then buddyOf owner else owner
  s.draw.onMedia fun s =>
    let opens := ((s.media.moons[moon]?).map (·.logOpen)).getD []
    let other := (opens.getD (1 - copy) none).map (·.1)
    let apart := fun (i : BlockId) => copy == 2 || (other.map fun o => channelOf o.die != channelOf i.die).getD true
    let a := s.slcSlot moon (opens.getD copy none) apart
    let s1 := s.modMoon moon fun m => { m with logOpen := m.logOpen.set copy (some (a.1, a.2 + 1)) }
    let g : Image := { chunk := owner, header := r.header owner (copy == 2), area := toLe pageData (Config.metaArea s.fresh).toNat }
    (if a.2 = 0 then s1.startBlock a.1 else s1).addPage (g.put a.1 a.2)

/-- A moon programs the records of its map log that are not on flash yet, on two of its channels and on its buddy while that
is in service (08 R352). -/
def State.programLog (s : State) (m : Nat) : State :=
  let copies := if buddyOf m ∈ s.moonsIn then [0, 1, 2] else [0, 1]
  let s1 := ((s.tailOf m).filter (!·.flash)).foldl (fun s r => copies.foldl (fun s k => s.logCopy m r k) s) s
  s1.modMoon m fun q => { q with tail := q.tail.map fun r => { r with flash := true } }

/-- Every moon in service programs its map log. -/
def State.programLogs (s : State) : State := s.moonsIn.foldl State.programLog s

/-! ### Stripes (08 R330 to R334, R344) -/

/-- A stripe of an open band. -/
def State.stripe (s : State) (n : Nat) : Stripe := (s.media.stripes.find? (·.num == n)).getD { num := n }

/-- Writes a stripe. -/
def State.setStripe (s : State) (t : Stripe) : State :=
  { s with media := { s.media with stripes := (s.media.stripes.filter (·.num != t.num)) ++ [t] } }

/-- Data pages of a stripe of a band: seven, or six in a narrow band (08 R330, R344). -/
def State.dataPages (s : State) (n : Nat) : Nat := if ((s.band? n).map (·.narrow)).getD false then 6 else 7

/-- The pages that a stripe holds. -/
def State.stripePages (s : State) (n : Nat) : List Page :=
  s.media.pages.filter fun p => !p.header.kind.isSlc && p.header.stripe == n

/-- Positions of a stripe that is not complete which are taken: by data pages, or to be pads. -/
def State.stripeUse (s : State) (n : Nat) : Nat := (s.stripePages n).length + (s.stripe n).pads.length

/-- The block of a band on a moon. -/
def State.bandBlock (s : State) (n moon : Nat) : Option BlockId := (s.band? n).bind fun b => b.blocks.find? (·.moon == moon)

/-- A moon can still write its data page of a stripe. -/
def State.positionFree (s : State) (n moon : Nat) : Bool :=
  let t := s.stripe n
  !t.complete && decide (moon ∉ t.pads) && s.parityMoon n != moon && !(s.stripePages n).any (·.header.position == moon) &&
    ((s.bandBlock (bandOf n) moon).map fun i => !s.partOut i).getD false

/-- Programs a moon's page of a stripe (08 R330, Table 8.2); the stripe is open then. -/
def State.programQlc (s : State) (n moon : Nat) (g : Image) : State :=
  let q := (s.band? (bandOf n)).getD { num := bandOf n }
  match s.bandBlock (bandOf n) moon with
  | none => s
  | some i =>
    let h := { g.header with shadow := false, stripe := n, narrow := q.narrow, partner := s.parityMoon n }
    (s.setStripe (s.stripe n)).addPage ({ g with header := h }.put i (n % qlcPages))

/-- The Front that computes the parity of a stripe: A when it is even, B when it is odd, or the survivor (08 R332). -/
def State.parityFront (s : State) (stripe : Nat) : Front :=
  let f := if stripe % 2 = 0 then Front.a else .b
  if ((s.media.fronts[frontIdx f]?).map (·.inService)).getD false then f else otherFront f

/-- A home moon's data page of a stripe: programmed there, and sent over the spine to the Front that computes the parity (08
R332). -/
def State.programData (s : State) (n moon : Nat) (g : Image) : State :=
  (s.programQlc n moon g).emit (.stripeData moon (s.parityFront n) n)

/-- The parity page of a stripe: the bytewise XOR of its data pages, data area only; a pad page counts as zeros (08 R331). -/
def State.stripeParity (s : State) (stripe : Nat) : Bytes :=
  parityPage (((s.stripePages stripe).filter fun p => p.header.kind != .parity).map (·.area)) pageData

/-- A stripe whose data positions are all taken is closed: pad pages, then the parity page, which the Front that computed it
sends to the parity moon (08 R331 to R333). -/
def State.sealStripe (s : State) (n : Nat) : State :=
  let t := s.stripe n
  if t.complete || s.stripeUse n < s.dataPages (bandOf n) then s
  else
    let s1 := t.pads.foldl (fun s m => s.programQlc n m { header := { kind := .qlcPack, pad := true } }) s
    let parity : Image := { header := { kind := .parity, valid := pageData }, area := s1.stripeParity n }
    ((s1.programQlc n (s1.parityMoon n) parity).emit (.stripeParity (s1.parityFront n) (s1.parityMoon n) n)).setStripe
      { t with complete := true }

/-- The moons that a stripe still waits for. -/
def State.stripeLacks (s : State) (n : Nat) : List Nat := (List.range 8).filter fun m => s.positionFree n m

/-- At power loss and at a clean shutdown open stripes are closed with pad pages (08 R334). -/
def State.closeStripes (s : State) : State :=
  (s.media.stripes.filter (!·.complete)).foldl (fun s t =>
    (s.setStripe { t with pads := t.pads ++ s.stripeLacks t.num }).sealStripe t.num) s

/-! ### Valid data (08 R338) -/

/-- The map page that was written last under a map page number of a moon; `chunk` of a map page names the moon whose map it
is of. -/
def State.mapPage? (s : State) (moon page : Nat) : Option Page :=
  s.media.pages.reverse.find? fun p => p.header.kind == .map && p.header.laddr == page && p.chunk == moon

/-- The provisional pages of a command in flight. -/
def State.ownsProvisional (s : State) (p : Page) : Bool :=
  p.obj != 0 && ((s.cmds.list.any fun c => c.token.isSome && c.extents.any (·.obj == p.obj)) ||
    s.kv.objects.any fun o => o.token.isSome && o.objId == p.obj)

/-- A page holds valid data (08 R333, R338): a data page that the map of its version names, or whose mutation is in flight, a
map page that is the latest of its number. -/
def State.pageValid (s : State) (p : Page) : Bool := match p.header.kind with
  | .map => (s.mapPage? p.chunk p.header.laddr).map (fun q => (q.block, q.index)) == some (p.block, p.index)
  | .slcChunk | .slcPack => s.ownsProvisional p || s.kv.versions.any fun v => p.holds v.objId && v.folded[p.chunk]?.isNone
  | .qlcChunk | .qlcPack => s.kv.versions.any fun v => p.holds v.objId && v.folded[p.chunk]? == some p.header.stripe
  | .mapLog => (s.tailOf p.chunk).any fun r => r.seq == p.header.laddr
  | .frontCkpt => s.media.ckpts.any fun k => k.laddr == p.header.laddr
  | .parity => false

/-- The versions of which a page holds valid data. -/
def State.versionsIn (s : State) (p : Page) : List Version := s.kv.versions.filter fun v => p.holds v.objId &&
  (if p.header.kind.isSlc then v.folded[p.chunk]?.isNone else v.folded[p.chunk]? == some p.header.stripe)

/-- The CRC-32C that the two moons of an extent exchange for each of its pages before they program it (14 R518): identical
ciphertext gives identical CRCs, so a difference is a fault of an engine, which the row of the programming reports. -/
def State.pageCrc (s : State) (v : Version) (chunk : Nat) : BitVec 32 :=
  crc32c (fit pageData (s.storedBytes v.owner (v.gens.getD chunk 1) chunk))

end Sys2Proof.Machine
end

