-- ==== Sys2Proof/Machine/Locks.lean ====
section
/-! DEFINITION. The Key-Lock Table (10 R413 to R420) and the waits it orders (05 R191 to R194, R216, R230; 06 R258):
requests, conflicts, grants, the overflow queues and the waits of reads. -/

namespace Sys2Proof.Machine

/-! ### Fingerprints, shards and bounds -/

/-- The buffer of 01 R32: the namespace in 16 bits, then the key. -/
def shardBuf (nsid : Nat) (key : Bytes) : Bytes := toLe 2 nsid ++ key

/-- The shard of a key (01 R32). -/
def shardOf (nsid : Nat) (key : Bytes) : Nat := (crc32c (shardBuf nsid key)).toNat % 64

/-- The 64-bit fingerprint of a key (10 R413). -/
def fingerprint (nsid : Nat) (key : Bytes) : Nat :=
  (crc32c (shardBuf nsid key)).toNat + 2 ^ 32 * (crc32cFrom 0x5A5A5A5A#32 (shardBuf nsid key)).toNat

/-- The Front that owns a shard (01 R33, R34). -/
def State.ownerOf (s : State) (shard : Nat) : Front := if shard ∈ s.media.shardB then .b else .a

/-- Both Fronts are in service. -/
def State.bothFronts (s : State) : Bool := s.media.fronts.all (·.inService)

/-- *t*(k): the first 16 bytes of a key, and whether it is longer (10 R414). -/
def tKey (k : Bytes) : Bytes × Bool := (k.take 16, decide (16 < k.length))

/-- The order of truncated keys: as R229, a flagged key after an unflagged key of the same 16 bytes (10 R414). -/
def tLe (a b : Bytes × Bool) : Bool := keyLt a.1 b.1 || (a.1 == b.1 && (!a.2 || b.2))

def LockRow.lo (r : LockRow) : Bytes × Bool := (r.p0, r.p0Long)
def LockRow.hi (r : LockRow) : Bytes × Bool := if r.range then (r.p1, r.p1Long) else (r.p0, r.p0Long)

/-- Two requests conflict (10 Table 10.11). -/
def conflict (a b : LockRow) : Bool :=
  a.nsid == b.nsid &&
    (if !a.range && !b.range then a.fp == b.fp else tLe a.lo b.hi && tLe b.lo a.hi)

/-! ### Requests -/

/-- The row a part's lock request writes (10 Table 10.10); a seal's part names the key of its object. -/
def State.lockRow (s : State) (c : Cmd) (i : Nat) (p : Part) : LockRow :=
  let range := p.op == opDeleteRange
  let shard := shardOf p.nsid p.key
  { ref := c.ref, part := i, nsid := p.nsid, shard := shard, range := range,
    fp := if range then 0 else fingerprint p.nsid p.key,
    p0 := (tKey p.key).1, p0Long := (tKey p.key).2,
    p1 := if range then (tKey p.endKey).1 else [], p1Long := range && (tKey p.endKey).2, half := s.ownerOf shard }

/-- A free row, and a free range row for a range, exist in a Front's allocation (10 R418). -/
def State.roomFor (s : State) (r : LockRow) : Bool :=
  if s.bothFronts then
    let mine := s.locks.rows.filter fun q => decide (q.half = r.half)
    decide (mine.length < 16384) && (!r.range || decide ((mine.filter (·.range)).length < 64))
  else
    decide (s.locks.rows.length < 32768) && (!r.range || decide ((s.locks.rows.filter (·.range)).length < 128))

/-- No row of another command before it conflicts with a row (10 R415). -/
def clearOf (before : List LockRow) (r : LockRow) : Bool := before.all fun q => q.ref == r.ref || !conflict q r

/-- The banks in which a Front writes rows of the Key-Lock Table: its half, or all while one Front is in service (10 R418). -/
def State.lockBanks (s : State) (f : Front) : List Nat :=
  if s.bothFronts then (if f = .a then List.range 64 else (List.range 128).drop 64) else List.range 128

/-- Writes a row at the end of the arrival order, in its place (10 R396), granted at once when nothing conflicts (10 R415). -/
def State.takeRow (s : State) (r : LockRow) : State :=
  let place := (placeRow s.lockPlaces (s.lockBanks r.half) r.indexes).getD 0
  { s with locks := { s.locks with rows := s.locks.rows ++ [{ r with row := place, granted := clearOf (s.lockLookup r) r }] } }

/-- A lock request: a row, or a place in its Front's overflow queue (10 R415, R419). -/
def State.requestLock (s : State) (r : LockRow) : State :=
  if s.roomFor r && !s.locks.overflow.any (fun q => decide (q.half = r.half)) then s.takeRow r
  else { s with locks := { s.locks with overflow := s.locks.overflow ++ [r] } }

/-- The rows before a command's row of one part, in arrival order. -/
def State.rowsBefore (s : State) (ref part : Nat) : List LockRow :=
  s.locks.rows.takeWhile fun q => !(q.ref == ref && q.part == part)

/-- Grants a command's waiting row if no granted row and no earlier waiting row conflicts with it (10 R415). -/
def State.tryRow (s : State) (ref : Nat) : State :=
  let rows := s.locks.rows.map fun r =>
    if r.ref == ref && !r.granted &&
        clearOf ((s.lockLookup r).filter fun q => q.granted || decide (q ∈ s.rowsBefore r.ref r.part)) r
    then { r with granted := true } else r
  { s with locks := { s.locks with rows := rows } }

/-- A command's queued request takes a row once one is free and every request queued before it on its Front has taken
one (10 R419). -/
def State.leaveQueue (s : State) (ref : Nat) : State :=
  match s.locks.overflow.find? (·.ref == ref) with
  | none => s
  | some r =>
    let ahead := (s.locks.overflow.takeWhile (·.ref != ref)).any fun q => decide (q.half = r.half)
    if ahead || !s.roomFor r then s
    else { s with locks := { s.locks with overflow := s.locks.overflow.filter (·.ref != ref) } }.takeRow r

/-- A command's row of one part is granted. -/
def State.rowGranted (s : State) (ref part : Nat) : Bool :=
  s.locks.rows.any fun r => r.ref == ref && r.part == part && r.granted

/-- Parts in the order in which a command requests their locks: ascending shard, FP, key (10 R417). -/
def State.lockOrder (s : State) (c : Cmd) : List Nat :=
  let rows := ((List.range c.parts.length).zip c.parts).map fun p => (s.lockRow c p.1 p.2, p.2.key)
  let le := fun (a b : LockRow × Bytes) =>
    decide (a.1.shard < b.1.shard) || (a.1.shard == b.1.shard &&
      (decide (a.1.fp < b.1.fp) || (a.1.fp == b.1.fp && keyLe a.2 b.2)))
  (sortBy le rows).map (·.1.part)

/-- A key-lock stall of a shard is counted (01 Table 1.5). -/
def State.stall (s : State) (shard : Nat) : State :=
  { s with seq := { s.seq with stalls := setAssoc shard ((assoc shard s.seq.stalls).getD 0 + 1) s.seq.stalls } }

/-- Requests a command's locks one after another while each is granted at once; `fuel` bounds the parts (10 R417). -/
def State.requestLocks : Nat → Nat → State → State
  | 0, _, s => s
  | fuel + 1, ref, s =>
    match s.cmd? ref with
    | none => s
    | some c =>
      match c.lockTodo with
      | [] => s
      | i :: rest =>
        match c.parts[i]? with
        | none => s
        | some p =>
          let s1 := (s.requestLock (s.lockRow c i p)).modCmd ref fun c => { c with lockTodo := rest }
          if s1.rowGranted ref i then State.requestLocks fuel ref s1 else s1.stall (s.lockRow c i p).shard

/-- Every lock a command asked for is granted, and none is still to be asked for. -/
def State.holdsAll (s : State) (c : Cmd) : Bool :=
  c.lockTodo.isEmpty && ((List.range c.parts.length).all fun i => s.rowGranted c.ref i)

/-- Numbers the grant of a command's lock request (06 R252). -/
def State.numberGrant (s : State) (ref : Nat) : State :=
  let s1 := s.modCmd ref fun c => { c with order := s.cmds.nextOrd }
  { s1 with cmds := { s1.cmds with nextOrd := s1.cmds.nextOrd + 1 } }

/-- The earlier commands of an ORDERED ring hold their locks, or have a decided status (06 R258). -/
def State.mayAsk (s : State) (c : Cmd) : Bool := !s.isOrdered c || (s.earlier c).all (·.holdsLocks)

/-! ### Reads -/

/-- The row a read's request is compared as. -/
def readRow (nsid : Nat) (key : Bytes) : LockRow :=
  { ref := 0, part := 0, nsid := nsid, shard := 0, fp := fingerprint nsid key, p0 := (tKey key).1, p0Long := (tKey key).2 }

/-- References of the granted rows that a read waits behind (10 R416, 05 R193). -/
def State.blockersOf (s : State) (nsid : Nat) (key : Bytes) : List Nat :=
  ((s.lockLookup (readRow nsid key)).filter fun r => r.granted && conflict r (readRow nsid key)).map (·.ref)

/-- Those of a read's blockers that still hold a granted row. -/
def State.stillBlocked (s : State) (c : Cmd) : Bool :=
  c.blockers.any fun b => s.locks.rows.any fun r => r.ref == b && r.granted

end Sys2Proof.Machine
end

