-- ==== Sys2Proof/Machine/Mutation.lean ====
section
/-! DEFINITION. The course of a mutation: the start of its lock requests and value reads (05 R191, R195), decide
(05 R195 to R199, R217, 13 R509), the CSN grant (06 R237 to R240, 07 R291, R292), the commit (06 R244, 05 R188), the
durability conditions (07 R284 to R287, R296) and the completion; and the turns of object commands (05 R220 to
R228). -/

namespace Sys2Proof.Machine

/-! ### Decide -/

/-- The condition of one part on the current version (05 R195, R209, R212, R214, R226). -/
def State.condition (s : State) (p : Part) : Option Comp :=
  let cur := s.currentValue p.nsid p.key
  let csn := s.currentCsn p.nsid p.key
  if (p.op == opPut || p.op == opObjSeal) && fIfAbsent p.flags && cur.isSome then some { status := .alreadyExists, csn := csn }
  else if p.op == opPut && fIfPresent p.flags && cur.isNone then some (Comp.plain .notFound)
  else if p.op == opCas && p.arg64 != csn then some { status := .casMismatch, csn := csn }
  else if p.op == opDelete && cur.isNone then some (Comp.plain .notFound)
  else none

/-- The first part whose condition fails, with its index (05 R217). -/
def State.firstFailure (s : State) : Nat → List Part → Option (Nat × Comp)
  | _, [] => none
  | i, p :: ps => match s.condition p with
    | some k => some (i, k)
    | none => State.firstFailure s (i + 1) ps

/-- Adds growth to the sum of a namespace. -/
def addGrowth (l : List (Nat × Int × Int)) (nsid : Nat) (g : Int × Int) : List (Nat × Int × Int) :=
  match assoc nsid l with
  | some h => setAssoc nsid (h.1 + g.1, h.2 + g.2) l
  | none => setAssoc nsid g l

/-- The growth of a mutation by namespace (05 R198, R217). -/
def State.growths (s : State) (c : Cmd) : List (Nat × Int × Int) :=
  c.parts.foldl (fun l p => addGrowth l p.nsid (s.growth p)) []

/-- A quota of all ones is no limit (13 Table 13.1). -/
def exceeds (quota : Nat) (use : Int) : Bool := quota != 0xFFFFFFFFFFFFFFFF && decide ((quota : Int) < use)

/-- The quota step refuses growth in a namespace: the reserved growth counts as use (05 R198, 13 R509). -/
def quotaRefuses (n : Namespace) (g : Int × Int) : Bool :=
  (decide (0 < g.1) && exceeds n.quotaBytes (n.useBytes + n.resBytes + g.1)) ||
    (decide (0 < g.2) && exceeds n.quotaObjs (n.useObjs + n.resObjs + g.2))

/-- Some namespace's quota refuses. -/
def State.overQuota (s : State) (gs : List (Nat × Int × Int)) : Bool :=
  gs.any fun g => match s.namespace? g.1 with
    | some n => quotaRefuses n g.2
    | none => false

/-- Bytes of versions retained for snapshots: replaced ones that a pin covers (05 R190, R199). -/
def State.retainedBytes (s : State) : Nat :=
  sumNat ((s.kv.versions.filter fun v => !(laterOf s.kv.versions v).isEmpty && covered s.kv.versions s.kv.pins v).map
    fun v => keyCharge (some v))

/-- Free user capacity: 1,500 TB less use and retained versions (05 R199). -/
def State.freeBytes (s : State) : Int :=
  1500000000000000 - (sumNat (s.ns.map (·.useBytes)) : Nat) - (s.retainedBytes : Nat)

/-- The index directory is full (01 R46). -/
def State.directoryFull (s : State) : Bool := decide (160000000000 ≤ sumNat (s.ns.map (·.useObjs)))

/-- The space step refuses (05 R199). -/
def State.noSpace (s : State) (gs : List (Nat × Int × Int)) : Bool :=
  let b := gs.foldl (fun a g => a + g.2.1) (0 : Int)
  let o := gs.foldl (fun a g => a + g.2.2) (0 : Int)
  (decide (0 < b) && decide (s.freeBytes < b)) || (decide (0 < o) && s.directoryFull)

/-- The first failing step of decide before the value step (05 R195, R217, R233); ST_QUOTA before ST_NO_SPACE (04
R185). -/
def State.decideFailure (s : State) (c : Cmd) : Option Comp :=
  let batch := dOpcode c.desc == opBatch
  if dOpcode c.desc == opDeleteRange then none
  else match s.firstFailure 0 c.parts with
    | some (i, k) => some { k with aux := if batch then i else 0 }
    | none =>
      let gs := s.growths c
      if s.overQuota gs then some { status := .quota, aux := if batch then 0xFFFFFFFF else 0 }
      else if s.noSpace gs then some { status := .noSpace, aux := if batch then 0xFFFFFFFF else 0 }
      else none

/-- The positive growth a mutation reserves (13 R509). -/
def reservation (g : Nat × Int × Int) : Nat × Nat × Nat := (g.1, g.2.1.toNat, g.2.2.toNat)

/-- Takes one reservation. -/
def reserve (l : List Namespace) (r : Nat × Nat × Nat) : List Namespace :=
  mapWhere (·.nsid == r.1) (fun n => { n with resBytes := n.resBytes + r.2.1, resObjs := n.resObjs + r.2.2 }) l

/-- The outcome of a mutation with a value that could not be read: RESULT_AUX of a batch names the sub-operation (05 R195,
R217). -/
def Cmd.unreadableComp (c : Cmd) (sub : Nat) : Comp :=
  { status := .hostAccess, aux := if dOpcode c.desc == opBatch then sub else 0 }

/-- A decided mutation whose value is received asks for its CSN (01 R37, 07 R292). -/
def State.askCsn (s : State) (ref : Nat) : State :=
  match s.cmd? ref with
  | none => s
  | some c =>
    if c.decided && c.received then
      let s1 := s.modCmd ref fun c => { c with phase := .csnWait, asked := s.cmds.nextAsk }
      { s1 with cmds := { s1.cmds with nextAsk := s1.cmds.nextAsk + 1 } }
    else s.modCmd ref fun c => { c with phase := .valueWait }

/-- A mutation's failure in decide (05 R196). A seal that fails with a status outside class 0x06 ends its object
session (05 R227). -/
def State.failDecide (s : State) (c : Cmd) (k : Comp) : State :=
  let s1 := s.finish c.ref k
  match c.obj with
  | some h => if dOpcode c.desc == opObjSeal && k.status.code / 256 != 6 then s1.endObjects (·.handle == h) else s1
  | none => s1

/-- The object of a seal has ended while the seal waited for its lock: its handle is unknown (05 R220). -/
def State.objectEnded (s : State) (c : Cmd) : Bool :=
  dOpcode c.desc == opObjSeal && (c.obj.bind s.object?).isNone

/-- A mutation that holds its locks is decided (05 R195). -/
def State.decideMutation (s : State) (ref : Nat) : State :=
  match s.cmd? ref with
  | none => s
  | some c =>
    if s.objectEnded c then s.finish ref (Comp.denied 9)
    else match s.decideFailure c with
    | some k => s.failDecide c k
    | none =>
      let rs := (s.growths c).map reservation
      let s1 : State := { s with ns := rs.foldl reserve s.ns }
      (s1.modCmd ref fun c => { c with decided := true, reserved := rs }).askCsn ref

/-- Once a mutation holds every lock it is decided; until then it waits (05 R194, R195). -/
def State.afterLocks (s : State) (ref : Nat) : State :=
  match s.cmd? ref with
  | none => s
  | some c =>
    if s.holdsAll c then ((s.modCmd ref fun c => { c with locked := true }).numberGrant ref).decideMutation ref
    else s.modCmd ref fun c => { c with phase := .lockWait }

/-- A mutation asks for its locks (05 R191, 10 R415, R417). -/
def State.askLocks (s : State) (ref : Nat) : State :=
  match s.cmd? ref with
  | none => s
  | some c =>
    if s.mayAsk c then
      let s1 := s.modCmd ref fun c => { c with lockTodo := s.lockOrder c }
      (s1.requestLocks (c.parts.length + 1) ref).afterLocks ref
    else s.modCmd ref fun c => { c with phase := .orderWait }

/-- A mutation starts: its value reads and its lock requests go out in parallel (01 Table 1.6). -/
def State.startMutation (s : State) (ref : Nat) : State :=
  match s.cmd? ref with
  | none => s
  | some c => ((s.placeParts c).emitAll (c.parts.flatMap (valueReads c.sid))).askLocks ref

/-! ### Grant and commit -/

/-- Host bytes charged and not yet programmed twice (07). -/
def State.occupancy (s : State) : Nat := sumNat (s.seq.charges.map (·.bytes))

/-- Every earlier command of an ORDERED ring has reached its commit point: a failed one counts as one that succeeded without
effect, so those before it count still (06 R258, R259). -/
def State.mayCommit (s : State) (c : Cmd) : Bool := !s.isOrdered c || (s.earlier c).all (·.atCommitPoint)

/-- Mutations that held their locks when the module entered WARMING, or bytes charged and not yet programmed: they
complete and are programmed before programming stops (05 R200). -/
def State.drains (s : State) : Bool :=
  !s.seq.charges.all (·.bytes == 0) ||
    s.cmds.list.any fun c => c.locked && opMutation (dOpcode c.desc) && c.phase != .finished

/-- WARMING stops programming, CSN grants and commits (02 R63) once what held its lock at the entry is done (05 R200). -/
def State.warm (s : State) : Bool := s.mode.warming && !s.drains

/-- Sends a mutation's decision record and value (15 R566, Table 15.5). -/
def State.forward (s : State) (ref : Nat) : State :=
  let s1 := (s.sendPair 0x10 (toLe 8 ref)).sendPair 0x11 (toLe 8 ref)
  { s1 with pair := { s1.pair with owed := s1.pair.owed ++ [ref] } }

/-- The high-water mark of the block of the next CSN (06 R240). -/
def Seq.top (q : Seq) : Nat := if q.hwm < q.next then q.next + 4095 else q.hwm

/-- The next CSN is one of a block whose mark the partner does not hold: in PRIMARY it is granted no earlier (06 R240). -/
def State.needsMark (s : State) : Bool := s.mirroring && decide (s.pair.markHeld < s.seq.top)

/-- Sends the high-water mark to the partner, once (06 R240, 15 R570). -/
def State.forwardMark (s : State) : State :=
  if s.forwards && decide (s.pair.markSent < s.seq.top) then
    let s1 := s.sendPair 0x15 (toLe 8 s.seq.top)
    { s1 with pair := { s1.pair with markSent := s.seq.top } }
  else s

/-- The sequencer may grant a waiting mutation its CSN: its charge fits the window, or is 0; no mutation with a charge
asked before it; no power loss, no WARMING, no vault alarm and no high-water mark that the partner lacks forbids it (02
R63, 06 R240, 07 R291, R292, R308, 14 R546). -/
def State.mayGrant (s : State) (c : Cmd) : Bool :=
  decide (s.feeds.loss = .none) && !s.warm && !s.needsMark && s.mayCommit c &&
    (c.windowCharge == 0 ||
      (decide (s.occupancy + c.windowCharge ≤ s.win.window) && !s.vault.pending &&
        !s.cmds.list.any fun d => d.phase == .csnWait && decide (d.asked < c.asked) && d.windowCharge != 0))

/-- The sequencer's next CSN; a new block of 4,096 is reserved when the current one is used up (06 R237, R240). -/
def grantSeq (q : Seq) (ref charge : Nat) (extents : List Extent) : Seq :=
  { q with next := q.next + 1, hwm := if q.hwm < q.next then q.next + 4095 else q.hwm,
           charges := q.charges ++ [{ ref := ref, csn := q.next, bytes := charge, extents := extents }] }

/-- The grant and the charge, one step (07 R291). -/
def State.grantCsn (s : State) (c : Cmd) : State :=
  let csn := s.seq.next
  let s0 := s.forwardMark
  let s1 : State := { s0 with seq := grantSeq s.seq c.ref c.windowCharge (if c.progd then [] else c.extents.filter (!·.progd)) }
  let s2 := s1.modCmd c.ref fun c => { c with phase := .granted, csn := csn, partner := false }
  if s.forwards then s2.forward c.ref else s2

/-! ### Key usage (14 R539, R540) -/

/-- The current generation of a slot. -/
def State.genOf (s : State) (slot : Nat) : Nat := ((s.vault.slots.find? (·.slot == slot)).map (·.gen)).getD 1

/-- Draws a quantum of 2^24 blocks for a moon: when it would take USED beyond the limit, the slot's next generation
becomes current and every remainder of the old one is discarded (14 R540). -/
def State.drawQuantum (s : State) (moon slot : Nat) : State :=
  match s.vault.slots.find? (·.slot == slot) with
  | none => s
  | some k =>
    if k.used + 16777216 ≤ 2 ^ k.limit then
      let left := ((s.vault.grants.find? fun g => g.moon == moon && g.slot == slot).map (·.left)).getD 0
      let g : UsageGrant := { moon := moon, slot := slot, gen := k.gen, left := left + 16777216 }
      { s with vault := { s.vault with
          slots := mapWhere (·.slot == slot) (fun k => { k with used := k.used + 16777216 }) s.vault.slots,
          grants := s.vault.grants.filter (fun g => !(g.moon == moon && g.slot == slot)) ++ [g] } }
    else
      let g : UsageGrant := { moon := moon, slot := slot, gen := k.gen + 1, left := 16777216 }
      { s with vault := { s.vault with
          slots := mapWhere (·.slot == slot) (fun k => { k with gen := k.gen + 1, used := 16777216 }) s.vault.slots,
          grants := s.vault.grants.filter (fun g => g.slot != slot) ++ [g] } }

/-- A usage grant or a new generation is forwarded to the partner in PRIMARY (15 R570, Table 15.5 ACCOUNT). -/
def State.forwardAccount (s : State) (slot : Nat) : State :=
  if s.forwards then s.sendPair 0x15 (toLe 2 slot) else s

/-- The home moon encrypts `blocks` blocks under a slot's current generation (14 R539, R540). -/
def State.useBlocks (s : State) (moon slot blocks : Nat) : State :=
  let left := ((s.vault.grants.find? fun g => g.moon == moon && g.slot == slot).map (·.left)).getD 0
  let s1 := if left < blocks then (s.drawQuantum moon slot).forwardAccount slot else s
  let gs := mapWhere (fun g => g.moon == moon && g.slot == slot) (fun g => { g with left := g.left - blocks }) s1.vault.grants
  { s1 with vault := { s1.vault with grants := gs } }

/-! ### Commit -/

/-- The version a part writes at its command's CSN (05 R188, R189). A version without an extent (a deletion, an empty
value) has its map record on the lowest moon in service, with the next one as its shadow: DESIGN CHOICE,
notes/assumptions/61.md. -/
def State.newVersion (s : State) (c : Cmd) (p : Part) : Version :=
  let n := (s.namespace? p.nsid).getD { nsid := p.nsid }
  let value := p.newValue
  let es := c.extents.filter (·.part == c.parts.idxOf p)
  let len := (value.getD []).length
  { nsid := p.nsid, key := p.key, csn := c.csn, value := value,
    digest := value.bind (keptDigest n.fixity (fNoDigest p.flags)),
    object := p.op == opObjSeal, suite := n.suite, sealed := n.suite == 2 && value.isSome, slot := n.slot,
    gens := if value.isSome then (List.range (pageCount p.key len)).map fun k => genAt es (s.genOf n.slot) (16384 * k) else [],
    commitTime := s.time.now,
    objId := if p.obj = 0 then s.kv.nextObjId else p.obj,
    place := if c.progd || (!es.isEmpty && es.all (·.progd) && (c.missingCuts (c.parts.idxOf p) p).isEmpty) then .slc else .staged,
    stagedAt := (es.head?.map (·.at_)).getD s.time.now,
    home := (es.head?.map (·.home)).getD (s.moonsIn.getD 0 0), shadow := (es.head?.map (·.shadow)).getD (s.moonsIn.getD 1 1) }

/-- Adds growth to a namespace's use (13 R509). -/
def addUse (g : Int × Int) (n : Namespace) : Namespace :=
  { n with useBytes := ((n.useBytes : Int) + g.1).toNat, useObjs := ((n.useObjs : Int) + g.2).toNat }

/-- Puts one new version into the store with its accounting; its map record enters the log of its moon (08 R352). -/
def State.putVersion (s : State) (v : Version) (g : Int × Int) : State :=
  let s1 := s.logMap v.home (mapPageOf v.objId) (.put v.nsid v.key v.csn v.objId)
  { s1 with kv := { s.kv with versions := s.kv.versions ++ [v], nextObjId := max s.kv.nextObjId (v.objId + 1) },
            ns := mapWhere (·.nsid == v.nsid) (addUse g) s.ns }

/-- One part takes effect; the home moon encrypts what goes into its map record (14 R520, R539). -/
def State.commitPart (c : Cmd) (s : State) (p : Part) : State :=
  let v := s.newVersion c p
  (s.putVersion v (s.growth p)).useBlocks v.home v.slot (recordBlocks v)

/-- The keys of a range that have a value (05 R231). -/
def State.keysIn (s : State) (nsid : Nat) (lo hi : Bytes) : List Bytes :=
  (((s.kv.versions.filter fun v => v.nsid == nsid && keyIn lo hi v.key).map (·.key)).eraseDups).filter fun k =>
    (s.currentValue nsid k).isSome

/-- A deletion of a range as one part per key (05 R231). -/
def rangeParts (p : Part) (keys : List Bytes) : List Part :=
  keys.map fun k => { op := opDelete, nsid := p.nsid, key := k }

/-- The parts that take effect for a command. -/
def State.effectParts (s : State) (c : Cmd) : List Part :=
  c.parts.flatMap fun p => if p.op == opDeleteRange then rangeParts p (s.keysIn p.nsid p.key p.endKey) else [p]

/-- What RESULT of a mutation will report: the keys a range deletion deletes (05 R232), the length of a sealed object
(R226). -/
def Cmd.resultOf (c : Cmd) (parts : List Part) : Nat :=
  if dOpcode c.desc == opObjSeal then sumNat (c.parts.map (·.len)) else parts.length

/-- The session of a sealed object ends; its bytes are the version's (05 R226). -/
def State.closeObject (s : State) (h : Nat) : State :=
  { s with kv := { s.kv with objects := s.kv.objects.filter (·.handle != h) } }

/-- A mutation commits (06 R244): its new versions stand in the store, its reservation becomes use (13 R509), the
highest committed CSN and the ring's CSN_MARK rise, a sealed object's session ends (05 R226), and fences open. The
digest of its value is kept for RETURN_DIGEST, whatever replaces the version (04 R169). Provisional pages are bound to the
CSN (08 R328). The operations that a shard reports are the keys of committed mutations, no reads: 01 Table 1.5 does not say
which it counts (DESIGN CHOICE, notes/assumptions/66.md). -/
def State.commit (s : State) (c : Cmd) : State :=
  let parts := s.effectParts c
  let digest := (c.parts.head?.map (s.newVersion c)).bind (·.digest)
  let object := c.obj.bind s.object?
  let bound := (((s.releaseReserved c).logToken c.extents c.token fun t => .bind t c.csn)).logToken
    ((object.map (·.extents)).getD []) (object.bind (·.token)) fun t => .bind t c.csn
  let s1 := parts.foldl (State.commitPart c) bound
  let s2 : State := { s1 with seq := { s1.seq with
    committed := max s1.seq.committed c.csn,
    shards := parts.foldl (fun l p => let k := shardOf p.nsid p.key; setAssoc k ((assoc k l).getD 0 + 1) l) s1.seq.shards } }
  let s3 := (s2.modRing c.sid c.ring fun r => { r with csnMark := max r.csnMark c.csn }).modCmd c.ref fun c =>
    { c with phase := .committed, reserved := [], keys := c.resultOf parts, digest := digest, objToken := object.bind (·.token) }
  let s4 := match c.obj with
    | some h => s3.closeObject h
    | none => s3
  s4.releaseFences c.sid c.ring

/-! ### Durability and completion -/

/-- Where RETURN_DIGEST asks for the digest: remote key and address (04 R169). -/
def digestBuffer (d : Bytes) : Option (Nat × Nat) :=
  if !fReturnDigest (dFlags d) then none
  else if dOpcode d == opPut then some (dArg32 d, dArg64 d)
  else if dOpcode d == opObjSeal && decide (32 ≤ dValueLen d) then some (dValueRkey d, dValueAddr d)
  else none

/-- RESULT of a mutation with ST_OK (04 Table 4.12). -/
def Cmd.mutationResult (c : Cmd) : Nat :=
  if dOpcode c.desc == opObjSeal || dOpcode c.desc == opDeleteRange then c.keys else 0

/-- A committed mutation completes with its own outcome: the digest first (04 R169), unless its session's queue pair is
gone (03 R152, R733), then the completion (07 R296). When the digest write meets a remote access error DIGEST_WRITTEN is
clear and the session is orphaned (03 R148). -/
def State.completeMutation (s : State) (c : Cmd) (w : HostWrite) : State :=
  let plain := s.mutationComp c c.mutationResult false
  match digestBuffer c.desc, c.digest with
  | some (rkey, addr), some dg =>
    if !s.polls c.sid then s.finish c.ref plain
    else match w with
      | .accessError => s.hostAccess c.ref plain
      | .acked => ((s.refresh c.sid).emit (.write c.sid rkey addr dg)).finish c.ref (s.mutationComp c c.mutationResult true)
  | _, _ => s.finish c.ref plain

/-- The conditions of 07 R296 and R284: committed, journalled on both Fronts, and staged on both moons or programmed
twice. -/
def Cmd.isDurable (c : Cmd) : Bool := c.phase == .committed && c.journal && (c.progd || c.stagedAll)

/-- The versions of a CSN become durable at WINDOW level; replaced ones that no pin covers go (05 R192, 08 R338). -/
def State.makeDurable (s : State) (csn : Nat) : State :=
  ({ s with kv := { s.kv with versions := mapWhere (·.csn == csn) (fun v => { v with durable := true }) s.kv.versions } }).reclaim

/-- A mutation whose conditions hold is durable: its locks are released (05 R192), and it completes, a range deletion
after its count (05 R232), a STRICT one at MEDIA (07 R287, 15 R568). `w` is the host's answer to the write of the digest, if there
is one. -/
def State.tryDurable (s : State) (ref : Nat) (w : HostWrite) : State :=
  match s.cmd? ref with
  | none => s
  | some c =>
    if !c.isDurable then s
    else
      let s1 := (s.makeDurable c.csn).releaseLocks ref
      if fStrict (dFlags c.desc) && !s.atMedia c then s1
      else if dOpcode c.desc == opDeleteRange then s1.modCmd ref fun c => { c with phase := .counting }
      else s1.completeMutation c w

/-! ### Object commands (05 R220 to R228) -/

/-- An APPEND of an object is being received (05 R223). -/
def State.receiving (s : State) (h : Nat) : Bool :=
  s.cmds.list.any fun d => d.obj == some h && dOpcode d.desc == opObjAppend && d.phase == .valueWait

/-- APPENDs of an object fetched before a SEAL and not completed, whether or not their checks have passed (05 R226). -/
def State.appendsBefore (s : State) (c : Cmd) : Bool :=
  (s.cmds.list.takeWhile (·.ref != c.ref)).any fun d =>
    d.sid == c.sid && dOpcode d.desc == opObjAppend && dArg64 d.desc == dArg64 c.desc && d.phase != .finished

/-- A SEAL of an object has taken its turn, which fixed the object's length (05 R226). -/
def State.sealing (s : State) (h : Nat) : Bool :=
  s.cmds.list.any fun d => d.obj == some h && dOpcode d.desc == opObjSeal && d.phase != .turnWait && d.phase != .finished

/-- The extents of the object stand with its seal too (05 R226). -/
def Cmd.takeExtents (o : ObjSession) (c : Cmd) : Cmd :=
  { c with extents := o.extents.map fun e => { e with ofObj := true } }

/-- The object's bytes as the value of its seal; NO_DIGEST is that of the KV_OBJ_BEGIN (05 R220, R226). -/
def sealPart (o : ObjSession) (p : Part) : Part :=
  { p with len := o.bytes.length, value := some (.data o.bytes), obj := o.objId, flags := p.flags - p.flags / 8 % 2 * 8 + 8 * b2n o.noDigest }

/-- The growth an object would have if it were sealed now with one more chunk (05 R224). -/
def State.appendGrowth (s : State) (o : ObjSession) (len : Nat) : Int × Int :=
  let old := s.currentValue o.nsid o.key
  ((o.key.length + o.bytes.length + len : Nat) - (keyCharge old : Int), 1 - (if old.isSome then 1 else 0))

/-- An APPEND whose turn has come starts: quota and space, then its bytes are read (05 R223, R224). -/
def State.startAppend (s : State) (c : Cmd) (o : ObjSession) : State :=
  let g := s.appendGrowth o (dValueLen c.desc)
  if s.overQuota [(o.nsid, g)] then s.finish c.ref (Comp.plain .quota)
  else if s.noSpace [(o.nsid, g)] then s.finish c.ref (Comp.plain .noSpace)
  else (s.emitAll (c.parts.flatMap (valueReads c.sid))).modCmd c.ref fun c => { c with phase := .valueWait }

/-- The turn of one waiting APPEND or SEAL (05 R223, R226); on an ORDERED ring an APPEND is received only after the command
before it has reached its commit point (06 R258). The count at the SEAL's turn is the object's length, and an APPEND
fetched after it waits until the SEAL has ended: DESIGN CHOICE, notes/assumptions/60.md. -/
def State.takeTurn (s : State) (ref : Nat) : State :=
  match s.cmd? ref with
  | none => s
  | some c =>
    if c.phase != .turnWait then s
    else match c.obj.bind s.object? with
      | none => s.finish ref (Comp.denied 9)
      | some o =>
        if dOpcode c.desc == opObjSeal then
          if s.appendsBefore c then s
          else
            (s.modCmd ref fun c => { c.takeExtents o with phase := .lockWait, parts := c.parts.map (sealPart o) }).startMutation ref
        else if s.receiving o.handle || s.sealing o.handle || !s.mayCommit c then s
        else if dArg32 c.desc < o.bytes.length then s.finish ref (Comp.denied 7)
        else if dArg32 c.desc == o.bytes.length then s.startAppend c o
        else s

/-- Every waiting object command whose turn has come goes on, in the order of their fetch. -/
def State.settle (s : State) : State :=
  ((s.cmds.list.filter (·.phase == .turnWait)).map (·.ref)).foldl State.takeTurn s

end Sys2Proof.Machine
end

