-- ==== Sys2Proof/Machine/Automata.lean ====
section
/-! DEFINITION. Nibble automata (11): the image (Table 11.2, Table 11.3, R431 to R434), one run of a program on a
subject (R427 to R430), and match expressions (R442 to R446, R455). -/

namespace Sys2Proof.Machine

/-! ### The image -/

def imgStates (p : Bytes) : Nat := u16At p 6
def imgStart (p : Bytes) : Nat := bitsOf (u16At p 8) 0 12
def imgDead (p : Bytes) : Nat := bitsOf (u16At p 10) 0 12
def imgHasDead (p : Bytes) : Bool := bitOf (u16At p 10) 15
def imgStopAtAccept (p : Bytes) : Bool := bitOf (u16At p 12) 0
def imgAcceptEmpty (p : Bytes) : Bool := bitOf (u16At p 12) 1
def imgBuildId (p : Bytes) : Nat := u64At p 24

/-- The transition entry of a state for a symbol (11 R432). -/
def imgEntry (p : Bytes) (st v : Nat) : Nat := u16At p (64 + 32 * st + 2 * v)

def entNext (e : Nat) : Nat := bitsOf e 0 12
def entAccept (e : Nat) : Bool := bitOf e 12
def entAnchor (e : Nat) : Bool := bitOf e 13

/-- The accept code of a state (11 R433). -/
def imgCode (p : Bytes) (st : Nat) : Nat := u16At p (64 + 32 * imgStates p + 2 * st)

/-- An image that ADM_PROGRAM_LOAD accepts (11 R434). -/
def imageOk (p : Bytes) : Bool :=
  let n := imgStates p
  u32At p 0 == 0x414E5850 && u16At p 4 == 1 && decide (1 ≤ n) && decide (n ≤ 4096) && u32At p 16 == 32 * n &&
    u32At p 20 == 2 * n && p.length == 64 + 34 * n && decide (imgStart p < n) &&
    (List.range (16 * n)).all (fun k => decide (entNext (u16At p (64 + 2 * k)) < n)) &&
    (!imgHasDead p || (decide (imgDead p < n) && (List.range 16).all fun v =>
      entNext (imgEntry p (imgDead p) v) == imgDead p && !entAccept (imgEntry p (imgDead p) v)))

/-! ### A run -/

/-- The verdict of one run (11 Table 11.1). -/
structure Verdict where
  accepts   : Nat  := 0
  firstCode : Nat  := 0
  firstEnd  : Nat  := 0
  firstHalf : Bool := false
  lastCode  : Nat  := 0
  deriving DecidableEq, Repr

/-- The MATCH field. -/
def Verdict.isMatch (v : Verdict) : Bool := decide (1 ≤ v.accepts)

/-- A run under way: the state, the verdict so far, and whether consumption has ended. -/
structure Run where
  st   : Nat
  v    : Verdict := {}
  ended : Bool := false
  deriving DecidableEq, Repr

/-- One symbol of byte `i`; `last` marks the low nibble of the subject's last byte (11 R427). -/
def runSymbol (p : Bytes) (i sym : Nat) (high last : Bool) (r : Run) : Run :=
  if r.ended then r
  else
    let e := imgEntry p r.st sym
    let st := entNext e
    let hit := entAccept e && (!entAnchor e || last)
    let v := if !hit then r.v
      else if r.v.accepts == 0 then
        { accepts := 1, firstCode := imgCode p st, firstEnd := i, firstHalf := high, lastCode := imgCode p st }
      else { r.v with accepts := min (r.v.accepts + 1) 65535, lastCode := imgCode p st }
    { st := st, v := v, ended := (hit && imgStopAtAccept p) || (imgHasDead p && st == imgDead p) }

/-- The bytes of a subject from offset `i` on, the high nibble of each before the low (11 R427). -/
def runBytes (p : Bytes) : Nat → Bytes → Run → Run
  | _, [], r => r
  | i, b :: bs, r =>
    let r1 := runSymbol p i (b.toNat / 16) true false r
    runBytes p (i + 1) bs (runSymbol p i (b.toNat % 16) false bs.isEmpty r1)

/-- One program on one subject (11 R427). -/
def runProgram (p subject : Bytes) : Verdict :=
  if subject.isEmpty then
    (if imgAcceptEmpty p then
      { accepts := 1, firstCode := imgCode p (imgStart p), lastCode := imgCode p (imgStart p) }
    else {})
  else (runBytes p 0 subject { st := imgStart p }).v

/-! ### Match expressions -/

def matTerms (m : Bytes) : Nat := bitsOf (byteAt m 0) 0 3
def matOp (m : Bytes) (i : Nat) : Nat := bitsOf (u16At m 2) (2 * (i - 1)) 2
def matSlot (m : Bytes) (i : Nat) : Nat := bitsOf (byteAt m (4 + i)) 0 4
def matTarget (m : Bytes) (i : Nat) : Nat := bitsOf (byteAt m (4 + i)) 4 2

/-- A match expression within the rules of a search or a scan (11 R443). -/
def matchOk (search : Bool) (m : Bytes) : Bool :=
  decide (matTerms m ≤ 4) && (!search || decide (1 ≤ matTerms m)) &&
    (List.range (matTerms m)).all fun i =>
      (if search then decide (matTarget m i ≤ 2) else matTarget m i == 0) && (i == 0 || decide (matOp m i ≤ 2))

/-- The slots a match expression names. -/
def matchSlots (m : Bytes) : List Nat := ((List.range (matTerms m)).map (matSlot m)).eraseDups

/-- A verdict of a record: its term, whether its subject is the value, and the run (12 Table 12.7). -/
structure TermVerdict where
  term    : Nat
  onValue : Bool
  v       : Verdict
  deriving DecidableEq, Repr

/-- The verdicts of one term: key first (11 R444, R446). `prog` gives the image of a slot. -/
def termVerdicts (prog : Nat → Bytes) (m : Bytes) (i : Nat) (key value : Bytes) : List TermVerdict :=
  let p := prog (matSlot m i)
  let k : TermVerdict := { term := i, onValue := false, v := runProgram p key }
  let w : TermVerdict := { term := i, onValue := true, v := runProgram p value }
  if matTarget m i == 0 then [k] else if matTarget m i == 1 then [w] else [k, w]

/-- Every verdict of a record, in term order (11 R446). -/
def allVerdicts (prog : Nat → Bytes) (m : Bytes) (key value : Bytes) : List TermVerdict :=
  (List.range (matTerms m)).flatMap fun i => termVerdicts prog m i key value

/-- The truth of a term (11 R444). -/
def termTrue (vs : List TermVerdict) (i : Nat) : Bool := vs.any fun t => t.term == i && t.v.isMatch

/-- Joins one more term, from left to right (11 R445): 0 AND, 1 OR, 2 AND_NOT. -/
def joinTerm (m : Bytes) (vs : List TermVerdict) (r : Bool) (i : Nat) : Bool :=
  if matOp m i == 0 then r && termTrue vs i else if matOp m i == 1 then r || termTrue vs i else r && !termTrue vs i

/-- The record satisfies the expression; with 0 terms every record does (11 R443, R445). -/
def matchTrue (m : Bytes) (vs : List TermVerdict) : Bool :=
  if matTerms m == 0 then true
  else ((List.range (matTerms m)).drop 1).foldl (joinTerm m vs) (termTrue vs 0)

/-- A verdict as 12 bytes (12 Table 12.7). -/
def verdictBytes (t : TermVerdict) : Bytes :=
  toLe 2 t.v.accepts ++ toLe 2 t.v.firstCode ++ toLe 4 t.v.firstEnd ++ toLe 2 t.v.lastCode ++
    toLe 1 (b2n t.v.isMatch + 2 * b2n t.v.firstHalf + 4 * b2n t.onValue + 8 * t.term) ++ zeros 1

/-! ### Slots -/

/-- The image a generation of a slot holds; the empty image when neither generation has that number. -/
def ProgSlot.imageOf (p : ProgSlot) (gen : Nat) : Bytes :=
  match [p.current, p.retained].find? fun g => (g.map (·.gen)) == some gen with
  | some (some g) => g.image
  | _ => []

/-- A comet of a namespace may use a slot's current generation (11 R455). -/
def slotUsable (ps : List ProgSlot) (nsid slot : Nat) : Bool :=
  match (ps.find? (·.slot == slot)).bind (·.current) with
  | some g => !g.image.isEmpty && (g.nsid == nsid || g.shared)
  | none => false

/-- The current generation's number of a slot. -/
def currentGen (ps : List ProgSlot) (slot : Nat) : Nat :=
  (((ps.find? (·.slot == slot)).bind (·.current)).map (·.gen)).getD 0

end Sys2Proof.Machine
end

