-- ==== Sys2Proof/Machine/Reads.lean ====
section
/-! DEFINITION. The course of a read: its wait behind granted mutations (05 R193, 10 R416), the version it locates (05
R202, R207, 06 R248, R249, R264, R267, R269), the map lookup (08 R348 to R351), the keys it needs (14 R533), its pages
(08 R339 to R341, 05 R203 to R206) and the seal check (14 R525 to R529). -/

namespace Sys2Proof.Machine

/-- A key slot is LOADED. -/
def State.slotLoaded (s : State) (slot : Nat) : Bool := match s.vault.slots.find? (·.slot == slot) with
  | some k => decide (k.st = .loaded)
  | none => false

/-- The version that a read of a key sees: the newest durable one, with SNAPSHOT the newest not above the CSN
(05 R207, 06 R249, R264). -/
def State.seenVersion (s : State) (d : Bytes) (nsid : Nat) (key : Bytes) : Option Version :=
  newest ((s.versionsOf nsid key).filter fun v =>
    v.durable && (!fSnapshot (dFlags d) || decide (v.csn ≤ dArg64 d)))

/-- A read with SNAPSHOT whose pin does not stand (06 R267, R269). -/
def State.pinMissing (s : State) (d : Bytes) : Bool := fSnapshot (dFlags d) && !s.pinned (dArg64 d)

/-- The moon whose map answers for a home moon: its buddy when it is lost (08 R342). -/
def State.lookupMoon (s : State) (home : Nat) : Nat := match s.media.moons[home]? with
  | some m => if m.inService then home else buddyOf home
  | none => home

/-- The bytes that compatibility reads of a Front hold for their seal checks (14 R529). -/
def State.heldPlaintext (s : State) (f : Front) : Nat :=
  sumNat (s.cmds.list.map fun c =>
    if c.compat && (c.phase == .pageRead || c.phase == .sealWait) && ((s.session? c.sid).map (·.front)) == some f
    then min (dValueLen c.desc) ((c.version.bind (·.value)).getD []).length else 0)

/-- A compatibility read would exceed the 4 GiB its Front may hold, and waits (14 R529). -/
def State.plaintextFull (s : State) (c : Cmd) (v : Version) : Bool :=
  c.compat && match s.session? c.sid with
    | some x => decide (4294967296 < s.heldPlaintext x.front + min (dValueLen c.desc) (v.value.getD []).length)
    | none => false

/-- A located version as it lies on the media now. -/
def State.stored (s : State) (v : Version) : Version :=
  ((s.versionsOf v.nsid v.key).find? (·.csn == v.csn)).getD v

/-- The page from which a chunk of a version is read: its QLC page in the stripe that the map record names, else its home
copy in SLC, else the shadow copy (08 R339). -/
def State.pageOf (s : State) (v : Version) (chunk : Nat) : Option Page :=
  let mine := s.media.pages.filter fun p => p.holds v.objId && p.chunk == chunk
  match v.folded[chunk]? with
  | some n => mine.find? fun p => !p.header.kind.isSlc && p.header.stripe == n
  | none =>
    let slc := mine.filter (·.header.kind.isSlc)
    ((slc.filter fun p => !p.header.shadow && !s.partOut p.block) ++ slc.filter (·.header.shadow)).head?

/-- The chunks of a version that a range of its value touches. -/
def Version.chunksOf (v : Version) (off n : Nat) : List Nat :=
  let len := (v.value.getD []).length
  if inPack v.key len then [0] else (List.range (pageCount v.key len)).filter fun k =>
    decide (off < 16384 * (k + 1)) && decide (16384 * k < off + n)

/-- The flash reads of a range of a value: of each page the codewords that cover the part (08 R320, R339, R340); staged data is
read from DRAM (01 R41). -/
def State.readRange (s : State) (v : Version) (off n : Nat) : State :=
  let u := s.stored v
  if u.place == .staged then s
  else
    let len := (v.value.getD []).length
    (v.chunksOf off n).foldl (fun s k => match s.pageOf v k with
      | some p => let r := pageRange v.key len off n k
        s.readPage p (codewords r.1 r.2)
      | none => s) s

/-- The range of a value that a KV_GET reads: the bytes that it writes, under suite XG the whole value (05 R206). -/
def readSpan (d : Bytes) (v : Version) : Nat × Nat :=
  let b := v.value.getD []
  if v.suite = 2 then (0, b.length) else (dArg32 d, (getRange d b).length)

/-- The pages of a KV_GET are read. -/
def State.beginPages (s : State) (c : Cmd) (v : Version) : State :=
  (s.modCmd c.ref fun c => { c with phase := .pageRead }).readRange v (readSpan c.desc v).1 (readSpan c.desc v).2

/-- The moon that decrypts a chunk of a version: the one that holds its page, or for a page that must be rebuilt the parity
moon of its stripe (08 R340); of staged data the moon that answers for its home (06 R41). -/
def State.decrypter (s : State) (v : Version) (chunk : Nat) : Nat :=
  if (s.stored v).place == .staged then s.lookupMoon v.home
  else match s.pageOf v chunk with
    | some p => if s.partOut p.block && !p.header.kind.isSlc then s.parityMoon p.header.stripe else p.block.moon
    | none => s.lookupMoon v.home

/-- The moons that decrypt the bytes of a KV_GET. -/
def State.keyMoons (s : State) (c : Cmd) (v : Version) : List Nat :=
  ((v.chunksOf (readSpan c.desc v).1 (readSpan c.desc v).2).map (s.decrypter v)).eraseDups

/-- Each of them has the keys of the version's slot. -/
def State.keysAtHand (s : State) (c : Cmd) (v : Version) : Bool :=
  (s.keyMoons c v).all fun m => decide ((m, v.slot) ∈ s.vault.cached)

/-- The pages of a located version are read once the keys are at hand (14 R533). -/
def State.needKey (s : State) (c : Cmd) (v : Version) : State :=
  if s.plaintextFull c v then s.modCmd c.ref fun c => { c with phase := .readWait, blockers := [] }
  else if s.keysAtHand c v then s.beginPages c v
  else s.modCmd c.ref fun c => { c with phase := .keyWait }

/-- A KV_HEAD whose version's map record is at hand (05 R208, 04 R170): it writes its record on its own row, which
carries the host's answer `w`; without one it waits for that row. -/
def State.headServed (s : State) (c : Cmd) (v : Version) (w : Option HostWrite) : State :=
  if dValueLen c.desc < 64 then s.finish c.ref (headComp v false)
  else match w with
    | none => s.modCmd c.ref fun c => { c with phase := .ready, locked := true }
    | some w => s.toHostOr c w fun s =>
      (s.emit (.write c.sid (dValueRkey c.desc) (dValueAddr c.desc) (headRecord v))).finish c.ref (headComp v true)

/-- A read goes on once the map record of its version is at hand. -/
def State.served (s : State) (c : Cmd) (v : Version) (w : Option HostWrite) : State :=
  if dOpcode c.desc == opHead then s.headServed c v w else s.needKey c v

/-! ### The Map Cache (08 R348 to R351) -/

/-- Tag, set and sub-block of an object's map record: lines of 16 sub-blocks, 2,048 sets (08 R348). -/
def mapTag (obj : Nat) : Nat := (Config.mapRef obj).toNat / 16
def mapSet (tag : Nat) : Nat := tag % 2048
def mapSub (obj : Nat) : Nat := (Config.mapRef obj).toNat % 16

/-- What the Map Cache answers for an object: the locations of its record, on a hit (08 R348). -/
def Moon.mapHit (m : Moon) (obj : Nat) : Option (List Nat) :=
  if m.mapInval then none
  else (m.mapLines.find? fun l => l.tag == mapTag obj).bind fun l => assoc (mapSub obj) l.subs

/-- A line becomes the most recently used one. -/
def touchLine (tag : Nat) (ls : List MapLine) : List MapLine := ls.filter (·.tag == tag) ++ ls.filter (·.tag != tag)

/-- A set of 16 ways loses its least recently used line when it is full (08 R348). -/
def makeRoom (tag : Nat) (ls : List MapLine) : List MapLine :=
  let same := fun (l : MapLine) => mapSet l.tag == mapSet tag
  if (ls.filter same).length < 16 then ls else (ls.reverse.eraseP same).reverse

/-- A sub-block of a line takes a record. -/
def MapLine.setSub (l : MapLine) (sub : Nat) (locs : List Nat) : MapLine := { l with subs := setAssoc sub locs l.subs }

/-- A fill: of a line whose tag is valid only the one sub-block; else a new line with that sub-block alone (08 R348). -/
def fillLine (obj : Nat) (locs : List Nat) (ls : List MapLine) : List MapLine :=
  let tag := mapTag obj
  if ls.any (·.tag == tag) then touchLine tag (mapWhere (·.tag == tag) (fun l => l.setSub (mapSub obj) locs) ls)
  else { tag := tag, subs := [(mapSub obj, locs)] } :: makeRoom tag ls

/-- A map update of a valid sub-block changes it in place (08 R350). -/
def updateLine (obj : Nat) (locs : List Nat) (ls : List MapLine) : List MapLine :=
  mapWhere (fun l => l.tag == mapTag obj && (assoc (mapSub obj) l.subs).isSome) (fun l => l.setSub (mapSub obj) locs) ls

/-- The map island applies an update to its Map Cache: in place, or, while a fill of that sub-block is outstanding, after
the fill (08 R350). -/
def Moon.mapUpdate (obj : Nat) (locs : List Nat) (m : Moon) : Moon :=
  if (m.mapFill.map (·.1)) == some obj then { m with mapLate := m.mapLate ++ [(obj, locs)] }
  else { m with mapLines := updateLine obj locs m.mapLines }

/-- The outstanding fill ends: its sub-block is valid, and the updates that waited for it are applied (08 R349, R350). -/
def Moon.endFill (m : Moon) : Moon :=
  match m.mapFill with
  | none => m
  | some (obj, locs) =>
    let ls := m.mapLate.foldl (fun ls u => updateLine u.1 u.2 ls) (fillLine obj locs m.mapLines)
    { m with mapLines := ls, mapFill := none, mapLate := [] }

/-- A version's map record has new locations: its moon's Map Cache follows (08 R350). -/
def State.mapChanged (s : State) (v : Version) : State :=
  s.modMoon (s.lookupMoon v.home) (Moon.mapUpdate v.objId v.folded)

/-- The flash read of a map page: its codeword that holds the record of an object (08 R320, R349). -/
def State.readMapPage (s : State) (moon obj : Nat) : State :=
  match s.mapPage? moon (mapPageOf obj) with
  | some p => s.readPage p (codewords (64 * ((Config.mapRef obj).toNat % 256)) 64)
  | none => s

/-- The flash reads of map pages of a moon that are outstanding: its queue holds up to 4,096 (08 R349). -/
def State.mapReads (s : State) (moon : Nat) : Nat :=
  (s.cmds.list.filter fun c => c.mapRead && (c.version.map fun v => s.lookupMoon v.home == moon).getD false).length

/-- A lookup whose map page is not in DRAM: it joins the queue of flash reads when that has room, and waits otherwise (08 R349). -/
def State.queueMapRead (s : State) (c : Cmd) (v : Version) (moon : Nat) : State :=
  if c.mapRead || 4096 ≤ s.mapReads moon then s
  else (s.readMapPage v.home v.objId).modCmd c.ref fun c => { c with mapRead := true }

/-- Map lookup of a located version: staged data needs none; a hit goes on with the locations of the record; a miss waits
for a fill, which starts when none is outstanding, the cache is not being invalidated and the map page is in DRAM. A map
page that is not is read from flash first, and its lookup holds no fill slot (08 R348, R349, R351). -/
def State.lookup (s : State) (c : Cmd) (v : Version) (w : Option HostWrite) : State :=
  let m := s.lookupMoon v.home
  match s.media.moons[m]? with
  | none => s.served c v w
  | some moon =>
    if v.place = .staged then s.served c v w
    else match moon.mapHit v.objId with
      | some locs =>
        let u := { v with folded := locs }
        let touched := fun (x : Moon) => { x with mapLines := touchLine (mapTag v.objId) x.mapLines }
        ((s.modMoon m touched).modCmd c.ref fun c => { c with version := some u }).served c u w
      | none =>
        let s1 := s.modCmd c.ref fun c => { c with phase := .mapWait }
        if moon.mapInval then s1
        else if mapPageOf v.objId ∉ moon.hotMap then s1.queueMapRead c v m
        else if moon.mapFill.isSome then s1
        else s1.modMoon m fun x => { x with mapFill := some (v.objId, (s.stored v).folded) }

/-- A part (offset, length) of a value lies in the bytes that a KV_GET returns (05 R205). -/
def getTouches (d v : Bytes) (p : Nat × Nat) : Bool :=
  decide (p.1 < dArg32 d + (getRange d v).length) && decide (dArg32 d < p.1 + p.2)

/-- A KV_GET cannot return its bytes: a part that it covers, under suite XG any part, is known to be lost (05 R205,
R206, 07 R315). -/
def lostTo (d : Bytes) (v : Version) : Bool :=
  v.lost || v.metaLost || v.lostParts.any fun p => v.suite == 2 || getTouches d (v.value.getD []) p

/-- A read that has located a version with a value (05 R202 to R206, R208): nothing to write, a part or the metadata
known to be lost, or the map lookup. -/
def State.located (s : State) (c : Cmd) (v : Version) (w : Option HostWrite) : State :=
  if dOpcode c.desc == opHead then
    if v.metaLost then s.finish c.ref (Comp.plain .mediaUnrecovered) else s.lookup c v w
  else if (getRange c.desc (v.value.getD [])).length == 0 then s.finish c.ref (getComp c.desc v false)
  else if lostTo c.desc v then s.finish c.ref (Comp.plain .mediaUnrecovered)
  else s.lookup c v w

/-- A read's request is numbered once (06 R252). -/
def State.numberRead (s : State) (c : Cmd) : State := if c.order = 0 then s.numberGrant c.ref else s

/-- A read reaches its version (05 R193, R202; 14 R546): this is its commit point, so fences open. Its request is granted here,
whatever the outcome (06 R252). -/
def State.locate (s0 : State) (c : Cmd) (p : Part) (w : Option HostWrite) : State :=
  let s := s0.numberRead c
  let n := s.namespace? p.nsid
  if s.pinMissing c.desc then s.finish c.ref (Comp.plain .snapshotExpired)
  else if !(n.map fun n => s.slotLoaded n.slot).getD false then s.finish c.ref (Comp.plain .busyRetry)
  else match (s.seenVersion c.desc p.nsid p.key).filter (·.value.isSome) with
    | none => s.finish c.ref (Comp.plain .notFound)
    | some v =>
      let compat := (n.map fun n => n.compat && n.suite == 2).getD false
      let c1 := { c with version := some v, compat := compat }
      let s1 := s.modCmd c.ref fun c => { c with version := some v, compat := compat }
      (s1.located c1 v w).releaseFences c.sid c.ring

/-- A read asks for its key: it waits behind the granted mutations of it, else it locates its version (05 R191, R193,
10 R416). On an ORDERED ring it follows the command before it (06 R258). A KV_HEAD that has its version and its map
record writes its record. -/
def State.startRead (s : State) (c : Cmd) (w : Option HostWrite) : State :=
  match c.version, c.parts with
  | some v, _ => s.served c v w
  | none, [p] =>
    if !s.mayCommit c then s.modCmd c.ref fun c => { c with phase := .orderWait }
    else if s.pinMissing c.desc then s.finish c.ref (Comp.plain .snapshotExpired)
    else
      let bs := s.blockersOf p.nsid p.key
      if bs.isEmpty then s.locate c p w
      else (s.stall (shardOf p.nsid p.key)).modCmd c.ref fun c => { c with phase := .readWait, blockers := bs }
  | none, _ => s.finish c.ref (Comp.denied 7)

/-- The bytes of a KV_GET are written to its destination (04 R165). -/
def State.deliver (s : State) (c : Cmd) (v : Version) : State :=
  s.writePieces c.sid (scatter c.segs (getRange c.desc (v.value.getD [])))

/-- A part (offset, length) of a version could be neither read nor rebuilt (05 R205, 16 Table 16.7 DATA_UNRECOVERED). -/
def State.markLost (s : State) (v : Version) (part : Nat × Nat) : State :=
  let same := fun (u : Version) => u.csn == v.csn && u.nsid == v.nsid && u.key == v.key
  let vs := mapWhere same (fun u => { u with lostParts := u.lostParts ++ [part] }) s.kv.versions
  let s1 : State := { s with kv := { s.kv with versions := vs } }
  (s1.setCause cUnrecovered).logEvent 0x030B 0x41 v.nsid [(0, toLe 8 v.csn), (8, toLe 2 v.nsid)]

/-- A map page could be neither read nor rebuilt: the version's metadata is lost (05 R208). -/
def State.loseMeta (s : State) (c : Cmd) (v : Version) : State :=
  let same := fun (u : Version) => u.csn == v.csn && u.nsid == v.nsid && u.key == v.key
  let s1 : State := { s with kv := { s.kv with versions := mapWhere same (fun u => { u with metaLost := true }) s.kv.versions } }
  ((s1.setCause cUnrecovered).logEvent 0x030B 0x41 v.nsid [(0, toLe 8 v.csn), (8, toLe 2 v.nsid)]).finish c.ref
    (Comp.plain .mediaUnrecovered)

/-- A QLC page of a range of a version lies on a part that is out of service: it is rebuilt (02 R89, 06 R277, 08 R340). -/
def State.rangeOut (s : State) (v : Version) (off n : Nat) : Bool :=
  (v.chunksOf off n).any fun k => ((s.pageOf (s.stored v) k).map fun p => !p.header.kind.isSlc && s.partOut p.block).getD false

/-- A QLC page that a read covers lies on a part that is out of service: the read is degraded. -/
def State.onLostPart (s : State) (c : Cmd) (v : Version) : Bool := s.rangeOut v (readSpan c.desc v).1 (readSpan c.desc v).2

/-- The pages of a read have been read, none was lost (08 R339, R340, 05 R203, R204). A version under suite XG goes on
to its seal check, its plaintext already delivered unless the namespace has AUTHFAIL_COMPAT (14 R527, R528). -/
def State.pagesGot (s : State) (c : Cmd) (v : Version) (deg : Bool) (w : HostWrite) : State :=
  if v.suite = 2 && c.compat then s.modCmd c.ref fun c => { c with phase := .sealWait, degraded := deg }
  else s.toHostOr c w fun s =>
    if v.suite = 2 then (s.deliver c v).modCmd c.ref fun c => { c with phase := .sealWait, degraded := deg }
    else (s.deliver c v).finish c.ref (getComp c.desc v deg)

/-- The part of a value that a page holds. -/
def Version.chunkPart (v : Version) (k : Nat) : Nat × Nat :=
  let len := (v.value.getD []).length
  if inPack v.key len then (0, len) else (16384 * k, min 16384 (len - 16384 * k))

/-- A chunk of a version cannot be rebuilt: its QLC page and another page of that stripe lie on lost parts, or both its SLC
copies do (08 R341). -/
def State.chunkGone (s : State) (v : Version) (k : Nat) : Bool := match s.pageOf (s.stored v) k with
  | none => false
  | some p =>
    if p.header.kind.isSlc then
      (s.media.pages.filter fun q => q.header.kind.isSlc && q.holds v.objId && q.chunk == k).all fun q => s.partOut q.block
    else s.lostTwice p

/-- What the reading of pages comes to: a chunk that cannot be rebuilt is lost, whatever the flash answers (08 R341). -/
def State.outcomeOf (s : State) (c : Cmd) (v : Version) (o : PageOutcome) : PageOutcome :=
  match (v.chunksOf (readSpan c.desc v).1 (readSpan c.desc v).2).find? (s.chunkGone v) with
  | some k => .lost (v.chunkPart k).1 (v.chunkPart k).2
  | none => o

/-- The chunks of a range of a version that lie in QLC stripes. -/
def State.qlcChunks (s : State) (v : Version) (off n : Nat) : List Nat :=
  (v.chunksOf off n).filter fun k => ((s.stored v).folded[k]?).isSome

/-- A copy in SLC failed: the shadow copies are read (08 R339). -/
def State.readShadows (s : State) (v : Version) (off n : Nat) : State :=
  let len := (v.value.getD []).length
  (v.chunksOf off n).foldl (fun s k => match s.media.pages.find? fun p =>
      p.header.kind.isSlc && p.header.shadow && p.holds v.objId && p.chunk == k with
    | some p => let r := pageRange v.key len off n k
      s.readFlash p (codewords r.1 r.2) false
    | none => s) s

/-- The pages of a read have been read (08 R339 to R341, 05 R203 to R206). Staged data and data in SLC fall back to the shadow
copy, which rebuilds nothing (R339). A lost part that the read does not cover is no outcome of it. -/
def State.pagesRead (s : State) (c : Cmd) (v : Version) (o : PageOutcome) (w : HostWrite) : State :=
  match s.outcomeOf c v o with
  | .direct | .retried _ => s.pagesGot c v (s.onLostPart c v) w
  | .degraded =>
    if (s.qlcChunks v (readSpan c.desc v).1 (readSpan c.desc v).2).isEmpty then
      (s.readShadows v (readSpan c.desc v).1 (readSpan c.desc v).2).pagesGot c v false w
    else s.pagesGot c v true w
  | .lost off len =>
    if v.suite == 2 || getTouches c.desc (v.value.getD []) (off, len) then
      (s.markLost v (off, len)).finish c.ref (Comp.plain .mediaUnrecovered)
    else s

/-- A seal failure is counted and logged, and every later check of the version fails too (14 R526). -/
def State.sealFailed (s : State) (v : Version) : State :=
  let same := fun (u : Version) => u.csn == v.csn && u.nsid == v.nsid && u.key == v.key
  let s1 : State := { s with
    ns := mapWhere (·.nsid == v.nsid) (fun n => { n with sealFails := n.sealFails + 1 }) s.ns
    kv := { s.kv with versions := mapWhere same (fun u => { u with badSeal := true }) s.kv.versions } }
  s1.logEvent 0x0409 0x41 v.nsid [(0, toLe 8 v.csn)]

/-- The verdict of a seal check (14 R525 to R528, 04 R179). -/
def State.sealVerdict (s : State) (c : Cmd) (v : Version) (pass : Bool) (w : HostWrite) : State :=
  if pass && !(s.stored v).badSeal then
    if c.compat then s.toHostOr c w fun s => (s.deliver c v).finish c.ref (getComp c.desc v c.degraded)
    else s.finish c.ref (getComp c.desc v c.degraded)
  else (s.sealFailed v).finish c.ref (sealFailComp c.desc v c.compat c.degraded)

/-- Reads that wait for a map record of a moon are looked up again, in the order of their fetch. -/
def State.lookAgain (s : State) (moon : Nat) : State :=
  let waits := s.cmds.list.filter fun c =>
    c.phase == .mapWait && (c.version.map fun v => s.lookupMoon v.home == moon).getD false
  waits.foldl (fun s c => match c.version with
    | some v => s.lookup c v none
    | none => s) s

/-- The outstanding fill of a moon ends: the sub-block is valid, the reads that waited for it go on, and the next waiting
miss starts its fill (08 R349). -/
def State.mapFilled (s : State) (moon : Nat) : State :=
  match (s.media.moons[moon]?).bind (·.mapFill) with
  | none => s
  | some _ => (s.modMoon moon Moon.endFill).lookAgain moon

/-- A map page has been read from flash into its moon's DRAM (08 R347, R349). -/
def State.mapPageRead (s : State) (v : Version) : State :=
  let m := s.lookupMoon v.home
  let page := mapPageOf v.objId
  let mine := fun (c : Cmd) => (c.version.map fun u => s.lookupMoon u.home == m && mapPageOf u.objId == page).getD false
  let cmds := { s.cmds with list := mapWhere mine (fun c => { c with mapRead := false }) s.cmds.list }
  (State.modMoon { s with cmds := cmds } m fun x =>
    { x with hotMap := if page ∈ x.hotMap then x.hotMap else page :: x.hotMap }).lookAgain m

/-- Invalidation of a moon's Map Cache ends: what it held up is served as misses (08 R351). -/
def State.mapInvalidated (s : State) (moon : Nat) : State :=
  (s.modMoon moon fun m => { m with mapInval := false, mapLines := [] }).lookAgain moon

end Sys2Proof.Machine
end

