-- ==== Sys2Proof/Machine/Comet.lean ====
section
/-! DEFINITION. COMET_START (12 R460 to R464, R491): the parameter block (Table 12.2, Table 12.8), the checks, the
snapshot and its pin (06 R263, R265, R267, R268), and one meaning per subtype. -/

namespace Sys2Proof.Machine

/-! ### The parameter block (12 Table 12.2, Table 12.8) -/

def blkResultLog2 (b : Bytes) : Nat := bitsOf (byteAt b 32) 0 5
def blkReturnValue (b : Bytes) : Bool := bitOf (byteAt b 33) 0
def blkReportAll (b : Bytes) : Bool := bitOf (byteAt b 33) 1
def blkValueCap (b : Bytes) : Nat := u32At b 36
def blkMatch (b : Bytes) : Bytes := slice b 48 16
def blkIfAbsent (b : Bytes) : Bool := bitOf (byteAt b 94) 5

/-- The step-9 rules of a parameter block (12 R460, 11 R443). -/
def blockOk (sub : Nat) (b : Bytes) : Bool :=
  aligned (u64At b 0) 64 && aligned (u64At b 16) 4096 && aligned (u64At b 24) 8 &&
    decide (18 ≤ blkResultLog2 b) && decide (blkResultLog2 b ≤ 30) && decide (u16At b 34 ≤ 1000) &&
    (if sub == 1 || sub == 2 then
      (!blkReturnValue b || decide (blkValueCap b ≤ 65536)) && matchOk (sub == 2) (blkMatch b)
    else if sub == 6 then
      decide (1 ≤ bitsOf (byteAt b 94) 0 5) && decide (bitsOf (byteAt b 94) 0 5 ≤ 16) &&
        decide (bitsOf (u16At b 104) 0 13 ≤ 4096) && decide (bitsOf (u16At b 106) 0 13 ≤ 4096)
    else true)

/-- The RDMA READs of an export's range keys (12 R461, Table 12.8). -/
def rangeKeyReads (sid sub : Nat) (b : Bytes) : List Output :=
  let lo := bitsOf (u16At b 104) 0 13
  let hi := bitsOf (u16At b 106) 0 13
  if sub != 6 then []
  else (if lo == 0 then [] else [Output.read sid (u32At b 108) (u64At b 96) lo]) ++
    (if hi == 0 then [] else [Output.read sid (u32At b 108) (u64At b 112) hi])

/-- The parameter block and the range keys it names; none when a read failed (12 R461). -/
def cometAreas (sub : Nat) (a : HostAreas) : Option (Bytes × Bytes × Bytes) :=
  match areaBytes a.block 128 with
  | none => none
  | some b =>
    let lo := if sub == 6 then bitsOf (u16At b 104) 0 13 else 0
    let hi := if sub == 6 then bitsOf (u16At b 106) 0 13 else 0
    match areaBytes a.low (min lo 4096), areaBytes a.high (min hi 4096) with
    | some l, some h => some (b, l, h)
    | l, h =>
      if (lo == 0 || l.isSome) && (hi == 0 || h.isSome) then some (b, l.getD [], h.getD []) else none

/-! ### Limits, snapshot, pin -/

/-- Running comets of a kind. -/
def State.runningOf (s : State) (p : Comet → Bool) : Nat :=
  (s.comets.list.filter fun k => k.isRunning && k.kind != .rebuild && p k).length

/-- A limit of 12 Table 12.10 is reached. -/
def State.cometLimit (s : State) (c : Cmd) (kind : CometKind) : Bool :=
  decide (64 ≤ s.runningOf fun k => k.sid == c.sid && k.ring == c.ring) || decide (1024 ≤ s.runningOf fun _ => true) ||
    (kind == .shortTest && decide (1 ≤ s.runningOf (·.kind == .shortTest))) ||
    (kind == .extTest && decide (1 ≤ s.runningOf (·.kind == .extTest))) ||
    (kind == .export_ && decide (32 ≤ s.runningOf (·.kind == .export_)))

/-- A comet kind that reads a snapshot (12 Table 12.1). -/
def CometKind.hasSnapshot : CometKind → Bool
  | .scan | .search | .audit | .export_ => true
  | _ => false

/-- A comet's snapshot CSN: ARG64 with SNAPSHOT, else the highest CSN committed at the fetch (06 R263). -/
def snapshotOf (c : Cmd) (kind : CometKind) : Nat :=
  if !kind.hasSnapshot then 0 else if fSnapshot (dFlags c.desc) then dArg64 c.desc else c.acc

/-- A comet shares a pin: what created it no longer owns it alone (06 R265). -/
def State.sharePin (s : State) (csn : Nat) : State :=
  { s with kv := { s.kv with pins := mapWhere (·.csn == csn) (fun p => { p with resync := false }) s.kv.pins } }

/-- The checks of 12 R460 after step 13: limits, SNAPSHOT admission, the pin limit, the program slots. A comet that
needs plaintext of a namespace whose slot is not LOADED is refused for now (14 R546), before its pin is looked for:
DESIGN CHOICE, notes/assumptions/65.md. -/
def State.cometRefusal (s : State) (c : Cmd) (kind : CometKind) : Option Comp :=
  let nsid := dNsid c.desc
  let snap := fSnapshot (dFlags c.desc)
  let slot := ((s.namespace? nsid).map (·.slot)).getD 0
  if s.cometLimit c kind then some (Comp.plain .busyRetry)
  else if kind.hasSnapshot && !s.slotLoaded slot then some (Comp.plain .busyRetry)
  else if kind.hasSnapshot && snap && !s.pinned (dArg64 c.desc) then some (Comp.plain .snapshotExpired)
  else if kind.hasSnapshot && !snap && !s.pinned c.acc && decide (2048 ≤ s.kv.pins.length) then some (Comp.plain .busyRetry)
  else if (kind == .scan || kind == .search) && !(matchSlots (blkMatch c.block)).all (slotUsable s.programs nsid) then
    some (Comp.denied 7)
  else none

/-! ### Visible versions -/

/-- A key lies in a comet's range: from LOW, included, to HIGH, excluded; an empty bound is open (12 Table 12.8). -/
def inBounds (low high key : Bytes) : Bool := keyLe low key && (high.isEmpty || keyLt key high)

/-- The versions visible to a comet (06 R264, 11 R437), in key order of their first appearance. -/
def State.visibleTo (s : State) (nsid snapshot : Nat) (low high : Bytes) : List Version :=
  let keys := (((s.kv.versions.filter fun v => v.nsid == nsid && inBounds low high v.key).map (·.key)).eraseDups)
  (keys.filterMap fun k => s.visibleAt nsid k snapshot).filter (·.value.isSome)

/-! ### The start -/

/-- Every mutation with a CSN at or below a comet's snapshot is durable, so that it may read (06 R263). -/
def State.settled (s : State) (snapshot : Nat) : Bool :=
  (s.kv.versions.all fun v => v.durable || decide (snapshot < v.csn)) &&
    s.cmds.list.all fun c => c.phase != .granted || decide (snapshot < c.csn)

/-- A comet's session Front is at T7 (20 R709, 12 R464). -/
def State.frontAtT7 (s : State) (k : Comet) : Bool :=
  ((s.session? k.sid).map fun x => s.levelAt (.front x.front) == 7).getD false

/-- A comet that may read now: running, not of an orphaned session (12 R488), its Front not at T7 (20 R709), its snapshot durable
(06 R263) and its keys at hand (14 R546). -/
def State.mayRead (s : State) (k : Comet) : Bool :=
  k.isRunning && !s.isOrphan k.sid && !s.frontAtT7 k && s.settled k.snapshot &&
    (!k.kind.hasSnapshot || s.slotLoaded (((s.namespace? k.nsid).map (·.slot)).getD 0))

/-- The comet that a COMET_START makes. -/
def State.newComet (s : State) (c : Cmd) (kind : CometKind) (num : Nat) : Comet :=
  let snap := snapshotOf c kind
  let nsid := if kind.hasSnapshot then dNsid c.desc else 0
  let refs := if kind == .scan || kind == .search then
    (matchSlots (blkMatch c.block)).map fun i => (i, currentGen s.programs i) else []
  { num := num, kind := kind, sid := c.sid, ring := c.ring, nsid := nsid, snapshot := snap, pinned := kind.hasSnapshot,
    block := c.block, low := c.low, high := c.high, refs := refs,
    unitsTotal := if kind.hasSnapshot && s.settled snap then (s.visibleTo nsid snap c.low c.high).length else 0 }

/-- How many bytes of a version's value, from its first, a comet reads (12 R474, R475, R477, R482): an audit and an export all, a
scan or search all for a term on the value and for the seal of what it returns, else what it returns; a pack page whole. -/
def Comet.span (k : Comet) (v : Version) : Nat :=
  let len := (v.value.getD []).length
  let m := blkMatch k.block
  let onValue := (List.range (matTerms m)).any fun i => matTarget m i != 0
  if inPack v.key len || k.kind == .audit || k.kind == .export_ || onValue then len
  else if !blkReturnValue k.block then 0
  else if v.suite == 2 then len
  else min len (blkValueCap k.block)

/-- A version that a comet cannot examine: its metadata, or a part of what the comet reads, is known to be lost (12 R474, R475,
R477; 07 R315, 08 R341). -/
def State.unreadableTo (s : State) (k : Comet) (v : Version) : Bool :=
  let n := k.span v
  let chunks := v.chunksOf 0 n
  v.metaLost || (v.lost && !chunks.isEmpty) || v.lostParts.any (fun p => decide (p.1 < n)) || chunks.any (s.chunkGone v)

/-- The key of a version cannot be read: it lies in the map record, or in a pack page (12 R474). -/
def State.keyGone (s : State) (v : Version) : Bool :=
  v.metaLost || (inPack v.key (v.value.getD []).length && (v.lost || s.chunkGone v 0))

/-- A page that a comet reads of a version lies on a channel island at T7 (20 R709). -/
def State.tooHot (s : State) (k : Comet) (v : Version) : Bool :=
  (v.chunksOf 0 (k.span v)).any fun n => ((s.pageOf (s.stored v) n).map fun p => s.atT7 p.block).getD false

/-- The appends of the object session that writes a version of more than 64 MiB to a peer; none for a KV_PUT (12 R482). -/
def peerAppends (len : Nat) : List Nat :=
  if len ≤ 67108864 then [] else (List.range ((len + 67108863) / 67108864)).map fun i => min 67108864 (len - 67108864 * i)

/-- What an export sends to its peer for one version (12 R482). -/
def Comet.peerPut (k : Comet) (v : Version) : Output :=
  .peerSubmit k.num v.key v.csn (blkIfAbsent k.block) (peerAppends (v.value.getD []).length)

/-- The login of an export to its peer (12 R482, Table 12.8): service 0 selects 0x4B56. -/
def Comet.peerLogin (k : Comet) : Output :=
  let svc := u64At k.block 80
  .peerOpen k.num (u32At k.block 88) (bitsOf (byteAt k.block 94) 0 5) (if svc = 0 then 0x4B56 else svc) (slice k.block 64 16)

/-- The versions of an export's range that it can read; of the others it writes UNREADABLE records (12 R474, R482). -/
def State.exportable (s : State) (k : Comet) : List Version :=
  (s.visibleTo k.nsid k.snapshot k.low k.high).filter fun v => !s.unreadableTo k v

/-- What an export sends to its peer: its login, then every version of its range (12 R482). -/
def State.exportSubmits (s : State) (k : Comet) : List Output := k.peerLogin :: (s.exportable k).map k.peerPut

/-- An export may read every version that it sends. -/
def State.maySubmit (s : State) (k : Comet) : Bool := s.mayRead k && !(s.exportable k).any (s.tooHot k)

/-- An output of an export to its peer. -/
def Output.toPeer : Output → Bool
  | .peerOpen .. | .peerSubmit .. => true
  | _ => false

/-- A version of an export is read whole and sent; a page that had to be rebuilt is noted (12 R482, Table 12.3, Table 12.5). -/
def State.sendVersion (s : State) (k : Comet) (v : Version) : State :=
  let n := (v.value.getD []).length
  let deg := s.rangeOut v 0 n
  ((s.readRange v 0 n).emit (k.peerPut v)).modComet k.num fun k =>
    { k with degraded := k.degraded || deg, rebuilt := if deg then v.key :: k.rebuilt else k.rebuilt }

/-- An export sends its versions once, as soon as it may read them (06 R263, 12 R482): at its start, or at its next
progress update (DESIGN CHOICE, notes/assumptions/65.md). -/
def State.submitExport (s : State) (num : Nat) : State :=
  match s.comet? num with
  | none => s
  | some k =>
    if k.kind == .export_ && !k.submitted && s.maySubmit k then
      let s1 := (s.modComet num fun k => { k with submitted := true }).emit k.peerLogin
      (s.exportable k).foldl (fun s v => s.sendVersion k v) s1
    else s

/-- The commit point of a COMET_START, one step (12 R460, 11 R454): snapshot, pin and references are taken, the comet
runs, and the command completes (12 R463). -/
def State.cometCommit (s : State) (c : Cmd) (kind : CometKind) : State :=
  let num := unusedFrom (0 :: s.comets.list.map (·.num)) (2 ^ 64) (s.comets.list.length + 2) (Config.cometNumber s.fresh).toNat
  let k := s.newComet c kind num
  let s1 := if !kind.hasSnapshot then s else (if fSnapshot (dFlags c.desc) then s else s.takePin k.snapshot false).sharePin k.snapshot
  let s2 : State := { s1.draw with comets := { list := s1.comets.list ++ [k] } }
  (s2.submitExport num).finish c.ref { status := .ok, csn := k.snapshot, result := num }

/-- COMET_START of one subtype. -/
def cometBody (kind : CometKind) (c : Cmd) (s : State) : State :=
  if !s.mayCommit c then s.modCmd c.ref fun c => { c with phase := .orderWait }
  else match s.cometRefusal c kind with
    | some k => s.finish c.ref k
    | none => s.cometCommit c kind

/-- A COMET_START of one subtype. -/
def isComet (sub : Nat) (d : Bytes) : Bool := dOpcode d == opComet && dSubop d == sub

/-- COMET_SCAN (12 R474). -/
def execCometScan (ref : Nat) (s : State) : Host.Outcome State Fault Refusal :=
  .next (s.withReady ref (isComet 1) (cometBody .scan))

/-- COMET_SEARCH (12 R474). -/
def execCometSearch (ref : Nat) (s : State) : Host.Outcome State Fault Refusal :=
  .next (s.withReady ref (isComet 2) (cometBody .search))

/-- COMET_FIXITY_AUDIT (12 R477). -/
def execCometFixityAudit (ref : Nat) (s : State) : Host.Outcome State Fault Refusal :=
  .next (s.withReady ref (isComet 3) (cometBody .audit))

/-- COMET_SHORT_SELF_TEST (12 R480). -/
def execCometShortSelfTest (ref : Nat) (s : State) : Host.Outcome State Fault Refusal :=
  .next (s.withReady ref (isComet 4) (cometBody .shortTest))

/-- COMET_EXTENDED_SELF_TEST (12 R481). -/
def execCometExtendedSelfTest (ref : Nat) (s : State) : Host.Outcome State Fault Refusal :=
  .next (s.withReady ref (isComet 5) (cometBody .extTest))

/-- COMET_NAMESPACE_EXPORT (12 R482). -/
def execCometNamespaceExport (ref : Nat) (s : State) : Host.Outcome State Fault Refusal :=
  .next (s.withReady ref (isComet 6) (cometBody .export_))

end Sys2Proof.Machine
end

