-- ==== Sys2Proof/Machine/Kv.lean ====
section
/-! DEFINITION. The data commands (05): what each does when its checks have passed, up to its first wait. The rows of
Machine/FlowEv.lean take it on from there. -/

namespace Sys2Proof.Machine

/-- The outcome of every meaning of this model: the module goes on. -/
abbrev Result := Host.Outcome State Fault Refusal

/-- A command of one data opcode. -/
def isOp (op : Nat) (d : Bytes) : Bool := dOpcode d == op

/-- KV_GET: the length limit of AUTHFAIL_COMPAT first (14 R529), then the read (05 R202). -/
def getBody (c : Cmd) (s : State) : State :=
  let compat := ((s.namespace? (dNsid c.desc)).map (·.compat)).getD false
  if compat && decide (67108864 < dValueLen c.desc) then s.finish c.ref (Comp.plain .valueTooLarge)
  else
    let segs := (c.parts.head?.map (·.segs)).getD []
    (s.modCmd c.ref fun c => { c with segs := segs }).startRead { c with segs := segs } none

/-- KV_OBJ_BEGIN: a handle within the limits of 05 R221; no lock, no CSN (05 R220). -/
def beginBody (c : Cmd) (s : State) : State :=
  if !s.mayCommit c then s.modCmd c.ref fun c => { c with phase := .orderWait }
  else if decide (1024 ≤ (s.kv.objects.filter (·.sid == c.sid)).length) || decide (262144 ≤ s.kv.objects.length) then
    s.finish c.ref (Comp.plain .busyRetry)
  else
    let h := unusedFrom (s.kv.objects.map (·.handle)) (2 ^ 64) (s.kv.objects.length + 1) (Config.objectHandle s.fresh).toNat
    let key := (c.parts.head?.map (·.key)).getD []
    let o : ObjSession := { handle := h, sid := c.sid, nsid := dNsid c.desc, key := key, noDigest := fNoDigest (dFlags c.desc) }
    ({ s.draw with kv := { s.kv with objects := s.kv.objects ++ [o] } }).finish c.ref { status := .ok, result := h }

/-- KV_OBJ_APPEND and KV_OBJ_SEAL take their object's namespace and key and wait for their turn (05 R223, R226). -/
def objectBody (c : Cmd) (s : State) : State :=
  match s.object? (dArg64 c.desc) with
  | none => s.finish c.ref (Comp.denied 9)
  | some o =>
    let own := fun (p : Part) => { p with nsid := o.nsid, key := o.key }
    (s.modCmd c.ref fun c => { c with phase := .turnWait, obj := some o.handle, parts := c.parts.map own }).settle

/-- KV_GET (05 R202). -/
def execKvGet (ref : Nat) (s : State) : Result := .next (s.withReady ref (isOp opGet) getBody)

/-- KV_PUT (05 R209). -/
def execKvPut (ref : Nat) (s : State) : Result := .next (s.withReady ref (isOp opPut) fun c s => s.startMutation c.ref)

/-- KV_DELETE (05 R214). -/
def execKvDelete (ref : Nat) (s : State) : Result :=
  .next (s.withReady ref (isOp opDelete) fun c s => s.startMutation c.ref)

/-- KV_CAS (05 R212). -/
def execKvCas (ref : Nat) (s : State) : Result := .next (s.withReady ref (isOp opCas) fun c s => s.startMutation c.ref)

/-- KV_HEAD (05 R208); `w` is the host's answer to the write of the head record. -/
def execKvHead (ref : Nat) (w : HostWrite) (s : State) : Result :=
  .next (s.withReady ref (isOp opHead) fun c s => s.startRead c (some w))

/-- KV_BATCH (05 R215 to R219). -/
def execKvBatch (ref : Nat) (s : State) : Result :=
  .next (s.withReady ref (isOp opBatch) fun c s => s.startMutation c.ref)

/-- KV_OBJ_BEGIN (05 R220, R221). -/
def execKvObjBegin (ref : Nat) (s : State) : Result := .next (s.withReady ref (isOp opObjBegin) beginBody)

/-- KV_OBJ_APPEND (05 R222 to R225). -/
def execKvObjAppend (ref : Nat) (s : State) : Result := .next (s.withReady ref (isOp opObjAppend) objectBody)

/-- KV_OBJ_SEAL (05 R226, R227). -/
def execKvObjSeal (ref : Nat) (s : State) : Result := .next (s.withReady ref (isOp opObjSeal) objectBody)

/-- KV_DELETE_RANGE (05 R229 to R234). -/
def execKvDeleteRange (ref : Nat) (s : State) : Result :=
  .next (s.withReady ref (isOp opDeleteRange) fun c s => s.startMutation c.ref)

/-- A descriptor with an unlisted opcode completes with ST_DENIED 0x0001 (04 R171). -/
def execUnknownOpcode (ref : Nat) (s : State) : Result :=
  .next (match s.cmd? ref with
    | some c => if c.phase == .unknown then s.finish ref (Comp.denied 1) else s
    | none => s)

end Sys2Proof.Machine
end

