-- ==== Sys2Proof/Machine/FlowEv.lean ====
section
/-! DEFINITION. The progress of commands in flight: host areas, key locks, value bytes, staging, CSN grants, commits,
journal entries, SLC programming, map fills, keys, pages and seal checks (04 R184, 05, 06, 07, 08, 14). -/

namespace Sys2Proof.Machine

/-! ### Host areas (04 R184, steps 8 to 13) -/

/-- The parts of a command from the areas read, or how its checks end, with the further RDMA READs of a batch. -/
def State.partsFrom (s : State) (c : Cmd) (a : HostAreas) : BatchRun :=
  if dOpcode c.desc == opBatch then
    match areaBytes a.block (64 * dCount c.desc), s.session? c.sid with
    | some b, some x => s.batchChecks x b (dCount c.desc) 0 a.subs []
    | _, _ => { reads := [], parts := .inr { status := .hostAccess, aux := 0xFFFFFFFF } }
  else match partOf c.desc a.key a.sgl a.endKey with
    | none => { reads := [], parts := .inr (Comp.plain .hostAccess) }
    | some p => match partCheck c.desc p with
      | some k => { reads := [], parts := .inr k }
      | none => { reads := [], parts := .inl [p] }

/-- Ends a command whose area checks failed: a remote access error orphans its session (03 R148). -/
def State.failAreas (s : State) (c : Cmd) (k : Comp) : State :=
  if k.status = .hostAccess then s.hostAccess c.ref k else s.finish c.ref k

/-- What the module does once the areas of a command are read. -/
def State.areasRead (s : State) (c : Cmd) (a : HostAreas) : State :=
  let sub := dSubop c.desc
  if dOpcode c.desc == opComet then
    let s1 := match areaBytes a.block 128 with
      | some b => s.emitAll (rangeKeyReads c.sid sub b)
      | none => s
    match cometAreas sub a with
    | none => s1.hostAccess c.ref (Comp.plain .hostAccess)
    | some (b, l, h) =>
      if !blockOk sub b then s1.finish c.ref (Comp.denied 7)
      else match s1.lateCheck c with
        | some k => s1.finish c.ref k
        | none => s1.modCmd c.ref fun c => { c with phase := .ready, late := true, block := b, low := l, high := h }
  else
    let run := s.partsFrom c a
    let s1 := s.emitAll run.reads
    match run.parts with
    | .inr k => s1.failAreas c k
    | .inl ps =>
      match s1.lateCheck { c with parts := ps } with
      | some k => s1.finish c.ref k
      | none => s1.modCmd c.ref fun c => { c with parts := ps, phase := .ready, late := true }

/-- HOST_AREA_READ_DONE (04 R184): indirect keys, scatter lists or parameter blocks arrive and later checks run. -/
def execHostAreaReadDone (ref : Nat) (areas : HostAreas) (s : State) : Result :=
  .next (match s.cmd? ref with
    | some c => if c.phase == .areas then (s.areasRead c areas).settle else s
    | none => s)

/-! ### Locks -/

/-- A command waits for the one before it on its ORDERED ring, and goes on when it may (06 R258). -/
def State.leaveOrder (s : State) (c : Cmd) : State :=
  let op := dOpcode c.desc
  if opMutation op && op != opObjBegin && op != opObjAppend then if s.mayAsk c then s.askLocks c.ref else s
  else if s.mayCommit c then s.modCmd c.ref fun c => { c with phase := .ready } else s

/-- A waiting lock request goes on: out of the overflow queue, granted, and the next lock of a batch asked for (10 R415,
R417, R419). -/
def State.leaveLockWait (s : State) (c : Cmd) : State :=
  let s1 := (s.leaveQueue c.ref).tryRow c.ref
  let asked := s1.locks.rows.filter (·.ref == c.ref)
  if s1.locks.overflow.any (·.ref == c.ref) || !asked.all (·.granted) then s1
  else (s1.requestLocks (c.parts.length + 1) c.ref).afterLocks c.ref

/-- A read that waited behind granted mutations locates its version once they have released their rows (10 R416), and no other
mutation of its key has been granted meanwhile, so that no completion of its ring can report a later version before it (06
R253). One that waited for room for its plaintext (14 R529) goes on. -/
def State.leaveReadWait (s : State) (c : Cmd) : State :=
  if s.stillBlocked c then s
  else match c.version, c.parts with
    | some v, _ => s.needKey c v
    | none, [p] =>
      let bs := s.blockersOf p.nsid p.key
      if bs.isEmpty then s.locate c p none else s.modCmd c.ref fun c => { c with blockers := bs }
    | none, _ => s

/-- KEY_LOCK_GRANT (10 R415): the lock wait of a command ends if what it waits for is free. -/
def execKeyLockGrant (ref : Nat) (s : State) : Result :=
  .next (match s.cmd? ref with
    | none => s
    | some c => match c.phase with
      | .orderWait => s.leaveOrder c
      | .lockWait => s.leaveLockWait c
      | .readWait => s.leaveReadWait c
      | .turnWait => s.takeTurn ref
      | _ => s)

/-! ### Values and staging -/

/-- The chunk of an APPEND is received: the object's count advances (05 R224). -/
def State.appendReceived (s : State) (c : Cmd) (data : Bytes) : State :=
  match c.obj.bind s.object? with
  | none => s.finish c.ref (Comp.denied 9)
  | some o =>
    let bytes := o.bytes ++ data
    let os := mapWhere (·.handle == o.handle) (fun o => { o with bytes := bytes }) s.kv.objects
    let s1 : State := { s with kv := { s.kv with objects := os } }
    (s1.placeObject { o with bytes := bytes }).finish c.ref { status := .ok, result := bytes.length }

/-- The value of one part has arrived in the ingest buffer (01 R39): it is placed (08 R325, R326), and a decided
mutation asks for its CSN (01 R37). -/
def State.valueReceived (s : State) (c : Cmd) (sub : Nat) (p : Part) (bs : Bytes) : State :=
  let set := fun (ps : List Part) => ps.modify sub fun p => { p with value := some (.data bs) }
  if p.op == opObjAppend then
    ((s.modCmd c.ref fun c => { c with parts := set c.parts }).appendReceived c (fit p.len bs)).settle
  else
    let s1 := (s.modCmd c.ref fun c => { c with parts := set c.parts }).placeValue c.ref sub p
    if c.phase == .valueWait && c.decided then s1.askCsn c.ref else s1

/-- The read of a value met a remote access error (03 R148, R733): the session is orphaned, and an uncommitted mutation ends at
once. One that is decided ends with ST_HOST_ACCESS. One that still waits for its locks is decided now, on what stands, so that
an earlier step's failure is reported before ST_HOST_ACCESS (05 R195, R196; DESIGN CHOICE, notes/assumptions/9.md). -/
def State.valueFailed (s : State) (c : Cmd) (sub : Nat) : State :=
  if c.isCommitted then s.orphan c.sid
  else if c.decided then s.hostAccess c.ref (c.unreadableComp sub)
  else s.hostAccess c.ref ((s.decideFailure c).getD (c.unreadableComp sub))

/-- A command awaits bytes of its value: before its CSN, or, when no complete staged copy survived a Front failure, after
its commit (06 R274). -/
def Cmd.awaitsValue (c : Cmd) : Bool :=
  c.phase == .orderWait || c.phase == .lockWait || c.phase == .valueWait || c.phase == .committed

/-- VALUE_FETCH_DONE (01 R39): the last byte of a value has arrived, or its read met a remote access error. -/
def execValueFetchDone (ref sub : Nat) (r : HostRead) (s : State) : Result :=
  .next (match s.cmd? ref with
    | none => s
    | some c => match c.parts[sub]? with
      | none => s
      | some p =>
        if p.wants && c.awaitsValue then
          match r with
          | .data bs => s.valueReceived c sub p bs
          | .accessError => (s.valueFailed c sub).settle
        else s)

/-- The moons of an extent hold the keys of its slot once they have fetched them (14 R533). -/
def State.cacheKeys (s : State) (e : Extent) : State :=
  { s with vault := { s.vault with cached := ([(e.home, e.slot), (e.shadow, e.slot)] ++ s.vault.cached).eraseDups } }

/-- An extent is encrypted and staged under a generation: noted wherever it stands and, once its mutation has committed, with
its version (14 R540, R542). -/
def State.noteStaged (s : State) (e : Extent) (gen : Nat) : State :=
  let s1 := s.modExtent e fun x => { x with staged := true, gen := gen, at_ := s.time.now }
  let retag := fun (v : Version) =>
    { v with stagedAt := if e.off = 0 then s.time.now else v.stagedAt, gens := (List.range v.gens.length).map fun k => genAt [{ e with staged := true, gen := gen }] (v.gens.getD k 1) (16384 * k) }
  { s1 with kv := { s1.kv with versions := mapWhere (·.objId == e.obj) retag s1.kv.versions } }

/-- What the pages of an extent of a command have in common; before it commits they have no CSN (08 Table 8.2). -/
def Cmd.pageOwner (c : Cmd) (e : Extent) : PageOwner :=
  let p := (c.parts[e.part]?).getD { op := 0, nsid := 0, key := [] }
  { nsid := p.nsid, csn := c.csn, slot := e.slot, obj := e.obj, key := p.key, value := p.bytes }

/-- What the pages of an extent of an object session have in common. -/
def ObjSession.pageOwner (o : ObjSession) (e : Extent) : PageOwner :=
  { nsid := o.nsid, csn := 0, slot := e.slot, obj := e.obj, key := o.key, value := o.bytes }

/-- The bytes of a part of a command are still to be read. -/
def Cmd.wantsPart (c : Cmd) (i : Nat) : Bool := ((c.parts[i]?).map (·.wants)).getD false

/-- The charge of a mutation that has completed. -/
def State.charge? (s : State) (ref : Nat) : Option Charge := s.seq.charges.find? (·.ref == ref)

/-- An extent that a row names, with what its pages have in common: of a command in flight, of the charge of one that has
completed, of an object session. -/
def State.extentAt (s : State) (ref : Nat) : ExtentRef → Option (PageOwner × Extent)
  | .ofObject h i => (s.object? h).bind fun o => (o.extents[i]?).map fun e =>
    (o.pageOwner e, e)
  | .ofCommand i => match s.cmd? ref with
    | some c => ((c.extents[i]?).filter fun e => !c.wantsPart e.part).map fun e => (c.pageOwner e, e)
    | none => ((s.charge? ref).bind (·.extents[i]?)).bind fun e =>
      (s.kv.versions.find? (·.objId == e.obj)).map fun v => (v.owner, e)

/-- EXTENT_STAGED (14 R517): both moons of an extent's pair hold it encrypted, inverse-checked and staged. `x.w` is the
host's answer to the write of the digest of a mutation that completes with it (04 R169). -/
def execExtentStaged (ref : Nat) (x : Writing ExtentRef) (s : State) : Result :=
  .next (match s.extentAt ref x.what with
    | none => s
    | some (p, e) =>
      if e.staged then s
      else
        let s1 := (s.useBlocks e.home e.slot (extentBlocks p.key p.len e)).cacheKeys e
        (s1.noteStaged e (s1.genOf e.slot)).tryDurable ref x.w)

/-! ### Grant, commit, journal, programming -/

/-- CSN_GRANT (07 R291): the sequencer grants the mutation its CSN and charges the window, in one step. A new block's
high-water mark goes to the partner first (06 R240). -/
def execCsnGrant (ref : Nat) (s : State) : Result :=
  .next (match s.cmd? ref with
    | some c => if c.phase != .csnWait then s else if s.mayGrant c then s.grantCsn c else if s.needsMark then s.forwardMark else s
    | none => s)

/-- MUTATION_COMMIT (06 R244): the decision record is on both Fronts, in PRIMARY on the partner too. -/
def execMutationCommit (ref : Nat) (s : State) : Result :=
  .next (match s.cmd? ref with
    | some c => if c.phase == .granted && !s.warm && (!s.mirroring || c.partner) then (s.commit c).settle else s
    | none => s)

/-! ### The shard journals (08 R353) -/

/-- The journal entry of a committed mutation. -/
def Cmd.journalRec (c : Cmd) : JournalRec :=
  { csn := c.csn, keys := c.parts.map fun p => (p.nsid, p.key), tokens := c.token.toList ++ c.objToken.toList }

/-- The Front that keeps a journal entry: the owner of the shard of its first key. 08 R353 does not say which it is when the
shards of its keys have two owners (DESIGN CHOICE, notes/assumptions/66.md). -/
def State.journalFront (s : State) (j : JournalRec) : Front := match j.keys with
  | k :: _ => s.ownerOf (shardOf k.1 k.2)
  | [] => .a

/-- What the module reports of a shard (01 Table 1.5, 00 R4): operations, key-lock stalls, journal depth, owning Front. No report
of the manual gives them a layout (notes/assumptions/66.md). -/
def State.shardReport (s : State) (shard : Nat) : Nat × Nat × Nat × Front :=
  let mine := fun (j : JournalRec) => j.keys.any fun k => shardOf k.1 k.2 == shard
  ((assoc shard s.seq.shards).getD 0, (assoc shard s.seq.stalls).getD 0, (s.seq.journal.filter mine).length, s.ownerOf shard)

/-- What one Front writes to FRONT_CKPT pages: its entries, the high-water mark and, at a clean shutdown, its directory. -/
def State.ckptOf (s : State) (f : Front) (dir : Bool) : Ckpt :=
  { front := f, seq := s.seq.ckptSeq, hwm := s.seq.hwm, entries := s.seq.journal.filter fun j => decide (s.journalFront j = f),
    dir := dir, time := s.time.now }

/-- A FRONT_CKPT page (08 Table 8.2, Table 8.3). -/
def Ckpt.image (k : Ckpt) : Image :=
  { header := { kind := .frontCkpt, laddr := k.laddr }, area := toLe pageData (Config.metaArea k.laddr).toNat }

/-- Each Front in service writes what its journal still lacks to FRONT_CKPT pages on all moons (08 R353). -/
def State.writeJournal (s : State) (dir : Bool) : State :=
  let fronts := ([Front.a, Front.b].zip s.media.fronts).filterMap fun p => if p.2.inService then some p.1 else none
  let ks := fronts.map fun f => s.ckptOf f dir
  let s1 := ks.foldl (fun s k => s.moonsIn.foldl (fun s m => s.programSlc m k.image) s) s
  { s1 with media := { s1.media with ckpts := s1.media.ckpts ++ ks }
            seq := { s1.seq with ckptSeq := s1.seq.ckptSeq + 1, journal := [] } }

/-- A committed mutation is journalled. -/
def State.noteJournal (s : State) (c : Cmd) : State :=
  { s with seq := { s.seq with journal := s.seq.journal ++ [c.journalRec] } }

/-- A log-tail checkpoint on every moon, with every high-water mark and the journal of each Front (02 R64, 07 Table 7.6
step 4). -/
def State.checkpointLogs (s : State) : State :=
  let s1 := s.programLogs.writeJournal false
  { s1 with media := { s1.media with moons := mapWhere (·.inService) (fun m => { m with tailCkpt := m.logSeq }) s1.media.moons } }

/-- JOURNAL_RECORDED (07 R296): the journal entry is on both Fronts; `w` as in EXTENT_STAGED. The Fronts write their journals
continuously, so it goes to FRONT_CKPT pages now (08 R353; DESIGN CHOICE, notes/assumptions/66.md), but for a WARMING
module, which programs nothing (02 R63). -/
def execJournalRecorded (x : Writing Nat) (s : State) : Result :=
  .next (match s.cmd? x.what with
    | some c =>
      if c.phase == .committed then
        let s1 := if c.journal then s else s.noteJournal c
        let s2 := if s.warm then s1 else s1.writeJournal false
        (s2.modCmd x.what fun c => { c with journal := true }).tryDurable x.what x.w
      else s
    | none => s)

/-- The Front of a session. -/
def State.frontOf (s : State) (sid : Nat) : Front := ((s.session? sid).map (·.front)).getD .a

/-- A new provisional token: bit 63 names the session Front, the other bits count (08 R328). -/
def State.newToken (s : State) (sid : Nat) : Nat := s.seq.tokens + if s.frontOf sid = .b then 2 ^ 63 else 0

/-- A token is used up. -/
def State.countToken (s : State) : State := { s with seq := { s.seq with tokens := s.seq.tokens + 1 } }

/-- The token of a mutation that has not committed, issued with its first provisional page (08 R328). -/
def State.cmdToken (s : State) (c : Cmd) : State × Option Nat := match c.token with
  | some t => (s, some t)
  | none => (s.countToken.modCmd c.ref fun c => { c with token := some (s.newToken c.sid) }, some (s.newToken c.sid))

/-- The token of an object session (08 R328). -/
def State.objectToken (s : State) (o : ObjSession) : State × Option Nat := match o.token with
  | some t => (s, some t)
  | none =>
    let t := s.newToken o.sid
    let os := mapWhere (·.handle == o.handle) (fun x => { x with token := some t }) s.kv.objects
    ({ s.countToken with kv := { s.kv with objects := os } }, some t)

/-- The job of an extent of a command: charged from its grant on, its pages provisional until it has committed (07 R291, R292,
08 R328). The extents of an object keep the object's token. -/
def State.cmdJob (s : State) (c : Cmd) (e : Extent) : State × SlcJob :=
  let charge := if c.hasCsn then some c.csn else none
  let r := if c.isCommitted then (s, none) else match (c.obj.bind s.object?).filter fun _ => e.ofObj with
    | some o => s.objectToken o
    | none => s.cmdToken c
  (r.1, { owner := c.pageOwner e, token := r.2, charge := charge, ext := e })

/-- The job of an extent that a row names. -/
def State.jobAt (s : State) (ref : Nat) (x : ExtentRef) (p : PageOwner) (e : Extent) : State × SlcJob := match x with
  | .ofObject h _ =>
    let r := match s.object? h with
      | some o => s.objectToken o
      | none => (s, none)
    (r.1, { owner := p, token := r.2, charge := none, ext := e })
  | .ofCommand _ => match s.cmd? ref with
    | some c => s.cmdJob c e
    | none => (s, { owner := p, token := none, charge := some p.csn, ext := e })

/-- Every byte of a command is programmed twice: a mutation that writes value bytes is at MEDIA with its last extent (07 R284,
R295), any other with its map log record, once it has committed (R286). -/
def State.markProgrammed (s : State) (ref : Nat) : State := s.modCmd ref fun c =>
  if c.unplaced.isEmpty && !c.extents.isEmpty && c.extents.all (·.progd) && !c.valueless then { c with progd := true } else c

/-- In MIRROR the partner hears that a forwarded mutation is at MEDIA, when nothing of its charge is left (15 R568). -/
def State.reportMedia (s0 s : State) (csn : Nat) : State :=
  if s.mode.mode = .mirror && s0.seq.charges.any (·.csn == csn) && !s.seq.charges.any (·.csn == csn) then s.sendPair 0x12 (toLe 8 csn)
  else s

/-- What hangs on a job that is done. -/
def State.jobDone (s0 s : State) (ref : Nat) (j : SlcJob) : State :=
  let s1 := s.markProgrammed ref
  match j.charge with
  | some csn => State.reportMedia s0 s1 csn
  | none => s1

/-- A job is done; its moons have programmed their map log too (08 R352). -/
def State.doJob (s : State) (ref : Nat) (j : SlcJob) : State :=
  (State.jobDone s (s.programJob j) ref j).programLog j.ext.home

/-- The records of several mutations are programmed in one pack page (08 R323). -/
def State.doPack (s : State) (js : List (Nat × SlcJob)) : State := match js with
  | [] => s
  | (r, j) :: rest =>
    let g := s.packImage (j :: rest.map (·.2)) (dataHeader j.owner 0 none false 0)
    let s1 := ((r, j) :: rest).foldl (fun s x => State.jobDone s (s.leaveWindow x.2.ext) x.1 x.2) (s.programPair j.ext g)
    s1.programLog j.ext.home

/-- Every extent of a command that is staged and not programmed is programmed. -/
def State.programCmd (s : State) (c : Cmd) : State :=
  (c.extents.filter fun e => e.staged && !e.progd).foldl (fun s e =>
    let r := s.cmdJob ((s.cmd? c.ref).getD c) e
    r.1.doJob c.ref r.2) s

/-- The charge of a mutation that has completed leaves the occupancy, and its versions lie in SLC (07 R295, 08 R327). -/
def State.releaseCharge (s : State) (q : Charge) : State :=
  let s1 := (q.extents.filter (!·.progd)).foldl (fun s e => match s.kv.versions.find? (·.objId == e.obj) with
    | some v => s.programJob { owner := v.owner, token := none, charge := some q.csn, ext := e }
    | none => s.leaveWindow e) s
  let s2 : State := { s1 with seq := { s1.seq with charges := s1.seq.charges.filter (·.ref != q.ref) } }
  State.reportMedia s s2 q.csn

/-- The map log record of a committed mutation that writes no value bytes is programmed on two moons: it is at MEDIA (07
R286). -/
def State.recordProgrammed (s : State) (ref : Nat) (w : HostWrite) : State := match s.cmd? ref with
  | some c =>
    if c.isCommitted && c.valueless && c.unplaced.isEmpty && c.extents.all (·.progd) then
      (s.programLogs.modCmd ref fun c => { c with progd := true }).tryDurable ref w
    else s
  | none => match s.charge? ref with
    | some q => if q.extents.all (·.progd) then s.releaseCharge q else s
    | none => s

/-- DELETE_RANGE_COUNT_DONE (05 R232): the count of the keys deleted is final and the completion is written. -/
def execDeleteRangeCountDone (ref : Nat) (s : State) : Result :=
  .next (match s.cmd? ref with
    | some c => if c.phase == .counting then s.completeMutation c .acked else s
    | none => s)

/-! ### Reads -/

/-- SEAL_CHECK_RESULT (14 R525): the verdict of a seal check. -/
def execSealCheckResult (ref : Nat) (pass : Bool) (w : HostWrite) (s : State) : Result :=
  .next (match s.cmd? ref with
    | some c => match c.phase, c.version with
      | .sealWait, some v => s.sealVerdict c v pass w
      | _, _ => s
    | none => s)

/-- MAP_FILL_DONE (08 R349). -/
def execMapFillDone (moon : Nat) (s : State) : Result := .next (s.mapFilled moon)

/-- MAP_CACHE_INVALIDATION_DONE (08 R351). -/
def execMapCacheInvalidationDone (moon : Nat) (s : State) : Result := .next (s.mapInvalidated moon)

/-- KEY_FETCH_DONE (14 R533; 02 Table 2.7): a moon has the keys of a LOADED slot, and the reads that waited for them go on. No
key reaches a moon while the vault is down. -/
def execKeyFetchDone (moon slot : Nat) (s : State) : Result :=
  .next (if decide (moon < 8) && s.vault.up && s.slotLoaded slot then
      let s1 : State := { s with vault := { s.vault with cached := ((moon, slot) :: s.vault.cached).eraseDups } }
      let waits := s1.cmds.list.filter fun c => c.phase == .keyWait &&
        (c.version.map fun v => v.slot == slot && s1.keysAtHand c v).getD false
      waits.foldl (fun s c => s.beginPages c (c.version.getD { nsid := 0, key := [], csn := 0, value := none })) s1
    else s)

/-! ### Object sessions -/

/-- APPEND_WAIT_TIMEOUT (05 R223): an APPEND beyond the count has waited 1 s. -/
def execAppendWaitTimeout (ref : Nat) (s : State) : Result :=
  .next (match s.cmd? ref with
    | some c => match c.obj.bind s.object? with
      | some o =>
        if c.phase == .turnWait && isOp opObjAppend c.desc && decide (o.bytes.length < dArg32 c.desc)
        then (s.finish ref (Comp.denied 7)).settle else s
      | none => s
    | none => s)

/-- OBJECT_SESSION_EXPIRE (05 R228): 24 h have passed with no APPEND or SEAL for an object. -/
def execObjectSessionExpire (obj : Nat) (s : State) : Result :=
  .next (if s.cmds.list.any fun c => c.obj == some obj && c.phase != .finished then s
    else s.endObjects (·.handle == obj))

end Sys2Proof.Machine
end

