-- ==== Sys2Proof/Machine/Login.lean ====
section
/-! DEFINITION. Login (03 R98 to R107) and the resume of an orphaned session (03 R150, R151). -/

namespace Sys2Proof.Machine

/-- The login transcript (03 R99); its module identifier is the one that the session's REP named (18 Table 18.3). -/
def loginTranscript (x : Session) (b : BeginRec) : Bytes :=
  b.hostNonce ++ b.modNonce ++ toLe 1 b.role ++ zeros 1 ++ toLe 2 x.moduleId ++ toLe 4 b.cred ++ toLe 4 x.qpn ++
    toLe 4 x.hostQpn

/-- A command's output meets a remote access error: ST_HOST_ACCESS, and the session is orphaned (03 R148). Else the
output is written and the command goes on. -/
def State.output (s : State) (c : Cmd) (w : HostWrite) (rkey addr : Nat) (data : Bytes) (next : State → State) : State :=
  match w with
  | .accessError => s.hostAccess c.ref (Comp.plain .hostAccess)
  | .acked => next ((s.refresh c.sid).toHost c.sid (.write c.sid rkey addr data))

/-! ### ADM_LOGIN_BEGIN (03 R102, R104, R106) -/

/-- The credential is locked out (03 R104). -/
def State.lockedOut (s : State) (cred : Nat) : Bool := s.creds.lockouts.any fun l => l.cred == cred && l.locked

/-- Why a BEGIN is refused: by the mode (03 R102), by its parameters (R106), by a lock-out (R104). That a bad parameter comes
before a lock-out is a DESIGN CHOICE, notes/assumptions/62.md. -/
def State.beginRefusal (s : State) (d : Bytes) : Option Comp :=
  let role := byteAt d 8
  if (role == 2 || role == 3) && s.mode.mode == .commission then some (Comp.denied 6)
  else if (role == 2 || role == 3) && s.mode.mode == .service then some (Comp.plain .busyRetry)
  else if role == 0 || decide (3 < role) || u32At d 24 == 0 || decide (u32At d 28 < 8192) || !aligned (u64At d 16) 8 then
    some (Comp.denied 7)
  else if s.lockedOut (u32At d 24) then some (Comp.plain .busyRetry)
  else none

/-- The login record (03 Table 3.13). -/
def loginRecord (modNonce sig chain : Bytes) : Bytes := modNonce ++ toLe 2 chain.length ++ zeros 30 ++ sig ++ chain

/-- ADM_LOGIN_BEGIN: a module nonce is drawn, and nonce, signature and chain are written (03 Table 3.3). -/
def beginLogin (w : HostWrite) (c : Cmd) (s : State) : State :=
  match s.beginRefusal c.desc, s.session? c.sid with
  | some k, _ => s.finish c.ref k
  | none, none => s
  | none, some x =>
    let b : BeginRec := { role := byteAt c.desc 8, cred := u32At c.desc 24, hostNonce := fit 32 (slice c.desc 32 32),
                          modNonce := toLe 32 (Config.nonce s.fresh).toNat }
    let chain := Config.certChain.take 7680
    let sig := toBe 96 (Config.signature (s.fresh + 1) (loginTranscript x b)).toNat
    let rec1 := loginRecord b.modNonce sig chain
    s.draw.draw.output c w (u32At c.desc 12) (u64At c.desc 16) rec1 fun s =>
      (s.modSession c.sid fun x => { x with begun := some b }).finish c.ref (Comp.okResult rec1.length)

/-! ### ADM_LOGIN_PROVE (03 R100, R103, R104, R107) -/

def State.credential? (s : State) (cred : Nat) : Option Credential := s.creds.list.find? (·.cred == cred)

/-- The proof matches: the credential exists with the role asked for, the HMAC is right, and a resume names an orphan
of the same credential and role (03 R107, R151). -/
def State.proofOk (s : State) (x : Session) (b : BeginRec) (hmac : Bytes) : Bool :=
  let cred := match s.credential? b.cred with
    | some k => k.role == b.role && hmac256 k.secret (loginTranscript x b) == hmac
    | none => false
  let resume := match x.resuming with
    | none => true
    | some h => match s.orphanOf h with
      | some o => o.cred == b.cred && o.role == b.role
      | none => false
  cred && resume

/-- The lock-out row of a credential after one more failed PROVE now (03 R104). -/
def failedProve (now : Nat) (l : LockOut) : LockOut :=
  let times := (l.times.filter fun t => decide (now < t + 60000000000)) ++ [now]
  { l with times := times, locked := l.locked || decide (8 ≤ times.length) }

/-- Counts a failed PROVE for its credential; the eighth within 60 s locks it out and is logged (03 R104, R105). -/
def State.countFailure (s : State) (cred : Nat) : State :=
  let rows := if s.creds.lockouts.any (·.cred == cred) then s.creds.lockouts else s.creds.lockouts ++ [{ cred := cred }]
  let rows' := mapWhere (·.cred == cred) (failedProve s.time.now) rows
  let s1 : State := { s with creds := { s.creds with lockouts := rows' } }
  if s1.lockedOut cred && !s.lockedOut cred then s1.logEvent 0x0507 0x42 (cred % 65536) [(0, toLe 4 cred)] else s1

/-- A failed PROVE: counted for its credential and its session; the third on a session disconnects it (03 R103). -/
def State.failProve (s : State) (c : Cmd) (x : Session) (b : BeginRec) : State :=
  let s1 := (s.countFailure b.cred).modSession c.sid fun x => { x with failed := x.failed + 1 }
  let s2 := s1.finish c.ref (Comp.denied 10)
  if 3 ≤ x.failed + 1 then s2.endSession c.sid true else s2

/-- A session in its role (03 R107, 10 R409): LIVE, with the ageing limit of its class. The handle it is to resume stays until
the PROVE's completion is written. -/
def State.admitRole (s : State) (b : BeginRec) (x : Session) : Session :=
  { x with cls := .live, role := b.role, cred := b.cred, age := 0, limit := s.settings.idleLimit * 60000,
           transcript := loginTranscript x b }

/-- Writes one held item to the resumed host (03 R150). -/
def writeHeld (sid : Nat) (s : State) (h : Held) : State :=
  match h with
  | .comp r tag k => s.putComp sid ((s.ring? sid r.idx).getD r) tag k
  | .report r t => s.putReport sid { r with cqCount := ((s.ring? sid r.idx).getD r).cqCount } t
  | .out o => s.emit o

/-- A resumed session: it keeps its identity and rings and takes the new queue pair, role credentials and admin ring
indices of the session that resumed it (03 R150, 18 R666, R667). Events that fell due while it was orphaned are not
sent; that of the PROVE's own completion is. -/
def adopt (x o : Session) : Session :=
  let admin := x.rings.find? (·.idx == 0)
  let old := o.rings.map fun r => { r with eventDue := false }
  let rings := match admin with
    | some a => mapWhere (fun (r : Ring) => r.idx == 0) (fun r => { a with heldComp := r.heldComp }) old
    | none => old
  { o with qpn := x.qpn, hostQpn := x.hostQpn, moduleId := x.moduleId, front := x.front, lport := x.lport, service := x.service,
           addr := x.addr, cls := .live, age := 0, limit := x.limit,
           transcript := x.transcript, begun := none, resuming := none, held := [], rings := rings }

/-- Events of rings that received held completions (03 R150). -/
def heldEvents (sid : Nat) (s : State) : State :=
  match s.session? sid with
  | none => s
  | some x =>
    let due := x.rings.filter (·.heldComp)
    (s.emitAll (due.flatMap (eventOutput sid))).modSession sid fun x =>
      { x with rings := x.rings.map fun r => { r with heldComp := false, eventDue := r.eventDue && !r.heldComp } }

/-- The module adopts the new queue pair for an orphaned session and writes what it held, in order (03 R150, 12 R488).
The session that logged in gives way to the resumed one. -/
def State.resume (s : State) (sid : Nat) (o : Session) : State :=
  match s.session? sid with
  | none => s
  | some x =>
    let others := s.sess.sessions.filter (·.sid != sid)
    let moved := mapWhere (fun (c : Cmd) => c.sid == sid) (fun c => { c with sid := o.sid }) s.cmds.list
    let kept := mapWhere (fun (y : Session) => y.sid == o.sid) (adopt x) others
    let waits := s.sess.waits.map fun e => if e.1 == sid then (o.sid, e.2) else e
    let s1 : State := { s with sess := { s.sess with sessions := kept, waits := waits },
                               cmds := { s.cmds with list := moved } }
    heldEvents o.sid (o.held.foldl (writeHeld o.sid) s1)

/-- A session whose PROVE of a resume has succeeded and whose completion is written: the orphan is resumed (03 R150). With the
orphan gone meanwhile the session goes on as it is. -/
def State.adopts (s : State) (x : Session) : State :=
  if x.cls = .live && x.resuming.isSome && !(s.ringCmds x.sid 0).any (fun c => isOp 0x41 c.desc && c.phase == .finished) then
    match x.resuming.bind s.orphanOf with
    | some o => s.resume x.sid o
    | none => s.modSession x.sid fun x => { x with resuming := none }
  else s

/-- Every resume that has waited for its PROVE's completion to be written goes on (03 R150, 15 R569). -/
def State.adoptProved (s : State) : State := s.sess.sessions.foldl (fun s x => s.adopts x) s

/-- A PROVE that matches: the session holds its role, and the orphan that it names is resumed once the completion is written (03
R107, R150): in an in-step pair that waits for the partner (15 R569). -/
def State.passProve (s : State) (c : Cmd) (x : Session) (b : BeginRec) : State :=
  let s1 := (s.modSession c.sid (s.admitRole b)).finish c.ref (Comp.okResult b.role)
  match s1.session? x.sid with
  | some y => s1.adopts y
  | none => s1

/-- ADM_LOGIN_PROVE. One with no BEGIN before it, or whose nonce is used, completes with DETAIL 0x0003 and is not counted
as a failed PROVE of R103 and R104, which the manual says of DETAIL 0x000A alone (DESIGN CHOICE,
notes/assumptions/65.md). -/
def proveLogin (c : Cmd) (s : State) : State :=
  match s.session? c.sid with
  | none => s
  | some x => match x.begun with
    | none => s.finish c.ref (Comp.denied 3)
    | some b =>
      if b.used then s.finish c.ref (Comp.denied 3)
      else
        let s1 := s.modSession c.sid fun x => { x with begun := some { b with used := true } }
        if s.proofOk x b (slice c.desc 8 32) then s1.passProve c x b else s1.failProve c x b

/-- ADM_LOGIN_BEGIN (03 R106). -/
def execAdmLoginBegin (ref : Nat) (w : HostWrite) (s : State) : Result :=
  .next (s.withReady ref (isOp 0x40) (beginLogin w))

/-- ADM_LOGIN_PROVE (03 R107). -/
def execAdmLoginProve (ref : Nat) (s : State) : Result := .next (s.withReady ref (isOp 0x41) proveLogin)

/-- LOGIN_LOCKOUT_EXPIRE (03 R104): the 60 s of a lock-out are over. -/
def execLoginLockoutExpire (cred : Nat) (s : State) : Result :=
  .next { s with creds := { s.creds with lockouts := s.creds.lockouts.filter fun l => !(l.cred == cred && l.locked) } }

end Sys2Proof.Machine
end

