-- ==== Sys2Proof/Machine/Ring.lean ====
section
/-! DEFINITION. The ring family (03 R108 to R114, R139 to R146; 04 R174, R175). -/

namespace Sys2Proof.Machine

/-! ### Parameters (04 Table 4.9) -/

def rpRing (d : Bytes) : Nat := bitsOf (u16At d 8) 0 12

/-- Bases, sizes and Doorbell address within 03 Table 3.4. -/
def ringBasesOk (d : Bytes) : Bool :=
  logInRange (byteAt d 10) 4 16 && logInRange (byteAt d 11) (byteAt d 10) 16 && aligned (u64At d 16) 4096 &&
    aligned (u64At d 24) 4096 && aligned (u64At d 32) 8

/-- Time-out and event parameters within 03 Table 3.4. -/
def ringTimesOk (d : Bytes) : Bool :=
  let idle := u32At d 40
  let ivl := u16At d 44
  (idle == 0 || (decide (20 ≤ idle) && decide (idle ≤ 100000))) && (ivl == 0 || decide (ivl ≤ 1000)) &&
    bitsOf (byteAt d 46) 0 2 != 3

/-- A ring with the bases and sizes of a descriptor. -/
def setBases (d : Bytes) (r : Ring) : Ring :=
  { r with sqBase := u64At d 16, cqBase := u64At d 24, dbAddr := u64At d 32, rkey := u32At d 12, sqLog2 := byteAt d 10,
           cqLog2 := byteAt d 11 }

/-- The ring that ADM_RING_CREATE makes: indices and counts at 0 (03 R110). -/
def newRing (d : Bytes) : Ring :=
  setBases d { idx := rpRing d, ordered := bitOf (byteAt d 46) 2, event := bitsOf (byteAt d 46) 0 2,
               idleTime := if u32At d 40 == 0 then 200 else u32At d 40,
               eventIvl := if u16At d 44 == 0 then 10 else u16At d 44 }

/-- Adds a ring to a session. -/
def State.addRing (s : State) (sid : Nat) (r : Ring) : State := s.modSession sid fun x => { x with rings := x.rings ++ [r] }

/-- Releases a ring index (03 R114). -/
def State.dropRing (s : State) (sid idx : Nat) : State :=
  s.modSession sid fun x => { x with rings := x.rings.filter (·.idx != idx) }

/-- Rings of every session. -/
def State.ringCount (s : State) : Nat := sumNat (s.sess.sessions.map (·.rings.length))

/-! ### ADM_RING_CREATE, START, RESIZE, QUERY -/

/-- ADM_RING_CREATE (03 R108, R110, Table 3.11). -/
def ringCreate (c : Cmd) (s : State) : State :=
  let d := c.desc
  if rpRing d == 0 || (s.ring? c.sid (rpRing d)).isSome || !ringBasesOk d || !ringTimesOk d then s.finish c.ref (Comp.denied 7)
  else if 131072 ≤ s.ringCount then s.finish c.ref (Comp.plain .busyRetry)
  else (s.addRing c.sid (newRing d)).finish c.ref (Comp.okResult 0)

/-- A STOPPED ring starts again with its indices at 0 (03 R113). -/
def startRing (r : Ring) : Ring :=
  { r with st := .active, producer := 0, fetch := 0, cqCount := 0, eventDue := false, asked := 0, ahead := [], reread := false,
           finished := [], decided := [] }

/-- A data ring of a session in a given state. -/
def State.ringIn (s : State) (sid idx : Nat) (st : RingState) : Bool := match s.ring? sid idx with
  | some r => idx != 0 && decide (r.st = st)
  | none => false

/-- ADM_RING_START (03 R113). -/
def ringStart (c : Cmd) (s : State) : State :=
  if s.ringIn c.sid (rpRing c.desc) .stopped then
    (s.modRing c.sid (rpRing c.desc) startRing).finish c.ref (Comp.okResult 0)
  else s.finish c.ref (Comp.denied 7)

/-- ADM_RING_RESIZE (03 R112, 04 R174). -/
def ringResize (c : Cmd) (s : State) : State :=
  if s.ringIn c.sid (rpRing c.desc) .stopped && ringBasesOk c.desc then
    (s.modRing c.sid (rpRing c.desc) (setBases c.desc)).finish c.ref (Comp.okResult 0)
  else s.finish c.ref (Comp.denied 7)

/-- The ring query record (04 Table 4.10). -/
def ringRecord (s : State) (sid : Nat) (r : Ring) : Bytes :=
  toLe 1 (ringStateCode r.st) ++ toLe 1 (r.event + 4 * b2n r.ordered) ++ toLe 2 r.idx ++ toLe 4 r.producer.toNat ++
    toLe 4 r.fetch.toNat ++ toLe 4 r.cqCount.toNat ++ toLe 4 r.resetSeq.toNat ++ toLe 4 (s.ringCmds sid r.idx).length ++
    toLe 2 (s.comets.list.filter fun k => k.isRunning && k.kind != .rebuild && k.sid == sid && k.ring == r.idx).length ++
    zeros 6

/-- ADM_RING_QUERY (04 R175). A ring index that is not in use has no outcome in the manual; it is refused as the other
ring commands refuse it (DESIGN CHOICE, notes/assumptions/65.md). -/
def ringQuery (w : HostWrite) (c : Cmd) (s : State) : State :=
  match s.ring? c.sid (rpRing c.desc) with
  | none => s.finish c.ref (Comp.denied 7)
  | some r => s.output c w (u32At c.desc 12) (u64At c.desc 16) (ringRecord s c.sid r) fun s => s.finish c.ref (Comp.okResult 0)

/-! ### Reset and destroy -/

/-- What a reset report of a command will hold. -/
def resetFor (c : Cmd) (cause : Nat) : ResetRec :=
  { cause := cause, admin := some c.ref, bufAddr := u64At c.desc 16, bufRkey := u32At c.desc 12 }

/-- Writes or holds a reset report (03 R142, R147). -/
def State.report (s : State) (sid : Nat) (r : Ring) (t : ResetRec) : State :=
  if s.isOrphan sid then s.modSession sid fun x => { x with held := x.held ++ [.report r t] } else s.putReport sid r t

/-- RESULT of a reset whose report goes to an address (04 R175). -/
def reportResult (addr : Nat) : Nat := if addr == 0 then 0 else 64

/-- The write of a report meets a remote access error (04 R175): it reaches a working queue pair, and an address. -/
def State.reportFails (s : State) (sid : Nat) (t : ResetRec) (w : HostWrite) : Bool :=
  decide (w = .accessError) && t.bufAddr != 0 && s.polls sid

/-- A reset or destroy of a STOPPED ring (03 R145, R114): a report with all counts 0, which counts this reset too (Table
3.9), or the ring released. A report write that fails leaves the reset, with RESULT 0, and orphans the session (04
R175). -/
def State.resetStopped (s : State) (c : Cmd) (r : Ring) (w : HostWrite) : State :=
  if dOpcode c.desc == 0x43 then (s.dropRing c.sid r.idx).finish c.ref (Comp.okResult 0)
  else
    let r1 := { r with resetSeq := r.resetSeq + 1 }
    let t := { resetFor c 1 with fetchEnd := r.fetch.toNat, acceptTime := s.time.now }
    let s1 := s.modRing c.sid r.idx fun r => { r with resetSeq := r.resetSeq + 1 }
    if s.reportFails c.sid t w then s1.hostAccess c.ref (Comp.okResult 0)
    else (s1.report c.sid r1 t).finish c.ref (Comp.okResult (reportResult t.bufAddr))

/-- ADM_RING_RESET and ADM_RING_DESTROY (03 R114, R139, R140, R145): accepted at once, or waiting for the reset in
progress, or done at once on a STOPPED ring. An index not in use has no outcome in the manual; it is refused as a bad parameter
(DESIGN CHOICE, notes/assumptions/65.md). -/
def ringReset (cause : Nat) (w : HostWrite) (c : Cmd) (s : State) : State :=
  match s.ring? c.sid (rpRing c.desc) with
  | none => s.finish c.ref (Comp.denied 7)
  | some r =>
    if r.idx == 0 then s.finish c.ref (Comp.denied 7)
    else match r.st with
      | .stopped => s.resetStopped c r w
      | .resetting =>
        (s.modCmd c.ref fun c => { c with phase := .adminWait }).modRing c.sid r.idx fun r =>
          { r with waiting := r.waiting ++ [c.ref] }
      | _ => (((s.modCmd c.ref fun c => { c with phase := .adminWait }).acceptReset c.sid r.idx (resetFor c cause) []).settle)

/-- A waiting reset or destroy completes as for a STOPPED ring (03 R145). Behind a destroy that has released the ring it names an
index not in use (DESIGN CHOICE, notes/assumptions/65.md). -/
def State.resetWaited (s : State) (q : Nat × HostWrite) : State :=
  match s.cmd? q.1 with
  | none => s
  | some c => match s.ring? c.sid (rpRing c.desc) with
    | some r => s.resetStopped c r q.2
    | none => s.finish q.1 (Comp.denied 7)

/-- The requests that waited, each with the host's answer to the write of its report. -/
def withAnswers (refs : List Nat) (ws : List HostWrite) : List (Nat × HostWrite) :=
  refs.zip (ws ++ List.replicate refs.length .acked)

/-- The end of a ring's reset (03 R142): the report, then STOPPED, then the admin command or the block's state, then the
requests that waited. `w` and `later` are the host's answers to the writes of the reports. -/
def State.resetEnded (s : State) (sid : Nat) (r : Ring) (t : ResetRec) (w : HostWrite) (later : List HostWrite) : State :=
  let failed := s.reportFails sid t w
  let s1 := if failed then s.orphan sid else s.report sid r t
  let s2 := s1.modRing sid r.idx fun r => { r with st := .stopped, reset := none, csnMark := 0, waiting := [] }
  let s3 := match t.admin with
    | some ref =>
      let s3 := if t.cause == 2 then s2.dropRing sid r.idx else s2
      s3.finish ref (Comp.okResult (if failed then 0 else reportResult t.bufAddr))
    | none => s2.modSession sid fun x => { x with setup := { x.setup with state := 3 } }
  (withAnswers r.waiting later).foldl State.resetWaited s3

/-- RING_RESET_END (03 R142): the last completion of a ring in reset has been written. -/
def execRingResetEnd (sid ring : Nat) (w : ResetWrites) (s : State) : Result :=
  .next (match s.ring? sid ring with
    | some r => match r.reset with
      | some t => if (s.ringCmds sid ring).isEmpty then s.resetEnded sid r t w.w w.later else s
      | none => s
    | none => s)

/-- ADM_RING_CREATE (03 R108). -/
def execAdmRingCreate (ref : Nat) (s : State) : Result := .next (s.withReady ref (isOp 0x42) ringCreate)

/-- ADM_RING_DESTROY (03 R114). -/
def execAdmRingDestroy (ref : Nat) (s : State) : Result := .next (s.withReady ref (isOp 0x43) (ringReset 2 .acked))

/-- ADM_RING_RESET (03 R140); `w` is the host's answer to the report of a ring that is STOPPED already. -/
def execAdmRingReset (x : Writing Nat) (s : State) : Result :=
  .next (s.withReady x.what (isOp 0x44) (ringReset 1 x.w))

/-- ADM_RING_START (03 R113). -/
def execAdmRingStart (ref : Nat) (s : State) : Result := .next (s.withReady ref (isOp 0x45) ringStart)

/-- ADM_RING_RESIZE (03 R112). -/
def execAdmRingResize (ref : Nat) (s : State) : Result := .next (s.withReady ref (isOp 0x46) ringResize)

/-- ADM_RING_QUERY (04 R175). -/
def execAdmRingQuery (ref : Nat) (w : HostWrite) (s : State) : Result := .next (s.withReady ref (isOp 0x47) (ringQuery w))

end Sys2Proof.Machine
end

