-- ==== Sys2Proof/Machine/Admin.lean ====
section
/-! DEFINITION. What the administrative commands share: their OP byte, the rights of 13 Table 13.4, wrapped secrets
(13 R502, 14 R535), the output and operand buffers of a command, and mode changes (02 R54 to R57). -/

namespace Sys2Proof.Machine

/-- A command of one ADM_ opcode with its OP in byte 8. -/
def isAdm (op sub : Nat) (d : Bytes) : Bool := dOpcode d == op && byteAt d 8 == sub

/-! ### Rights (13 Table 13.4) -/

def State.isCustodian (s : State) (c : Cmd) : Bool := s.roleOf c.sid == 1

/-- The credential of a command's session. -/
def State.credOf (s : State) (c : Cmd) : Nat := ((s.session? c.sid).map (·.cred)).getD 0

/-- The namespaces granted to the credential of a command's session (13 R500). -/
def State.grantsOf (s : State) (c : Cmd) : List Nat := ((s.credential? (s.credOf c)).map (·.grants)).getD []

/-- A Custodian, or a credential that administers the namespace (13 Table 13.4). -/
def State.mayAdminister (s : State) (c : Cmd) (nsid : Nat) : Bool :=
  s.isCustodian c || (s.roleOf c.sid == 2 && decide (nsid ∈ s.grantsOf c))

/-! ### Host operands -/

/-- A command reads `len` bytes of host memory and goes on with them; a remote access error ends it with
ST_HOST_ACCESS and orphans its session (03 R148). -/
def State.operand (s : State) (c : Cmd) (r : HostRead) (rkey addr len : Nat) (next : Bytes → State → State) : State :=
  let s1 := s.emit (.read c.sid rkey addr len)
  match r with
  | .accessError => s1.hostAccess c.ref (Comp.plain .hostAccess)
  | .data bs => next (fit len bs) s1

/-- The wrapping key of a session: HMAC-SHA-256, keyed by its own credential secret, over a label and its login
transcript (13 R502, 14 R535). -/
def State.wrapKey (s : State) (c : Cmd) (label : String) : Bytes :=
  let secret := ((s.credential? (s.credOf c)).map (·.secret)).getD []
  let transcript := ((s.session? c.sid).map (·.transcript)).getD []
  hmac256 secret (ascii label ++ transcript)

/-- A wrapped 32-byte secret is read and unwrapped; a failed integrity check completes ST_DENIED 0x0007 (13 R502). -/
def State.unwrapped (s : State) (c : Cmd) (r : HostRead) (rkey addr : Nat) (label : String)
    (next : Bytes → State → State) : State :=
  s.operand c r rkey addr 40 fun bs s => match keyUnwrap (s.wrapKey c label) bs with
    | some secret => next secret s
    | none => s.finish c.ref (Comp.denied 7)

/-! ### Commands that wait without a lock -/

/-- A data command that has not obtained its key lock, or for a read its lookup (02 R57, 05 R200). An APPEND holds no
lock (05 R224). A batch that holds some of its locks and waits for others counts as without one, of which the rules do not
speak (DESIGN CHOICE, notes/assumptions/65.md). -/
def Cmd.isUnlocked (c : Cmd) : Bool :=
  !opAdmin (dOpcode c.desc) && !c.locked && c.version.isNone && match c.phase with
    | .areas | .fenced | .ready | .orderWait | .lockWait | .readWait | .turnWait => true
    | .valueWait => dOpcode c.desc == opObjAppend
    | _ => false

/-- An ended mode's waiting commands complete with the status of the new mode (02 R57). -/
def State.refuseUnlocked (s : State) : State :=
  s.finishAll ((s.cmds.list.filter (·.isUnlocked)).filterMap fun c =>
    (s.modeOf (s.roleOf c.sid) (dOpcode c.desc)).map fun k => (c.ref, batchComp c.desc k))

/-! ### Mode changes (02 R54 to R57) -/

/-- A change of mode at its point: logged with the old mode, the new mode and the cause (16 Table 16.7, Table 16.11);
commands without their lock get the new mode's status (02 R57). -/
def State.setMode (s : State) (m : Mode) (cause : Nat) : State :=
  let old := s.mode.mode
  if old = m then s
  else
    let s1 : State := { s with mode := { s.mode with mode := m } }
    (s1.logEvent 0x0503 0xFF 0 [(0, toLe 1 (modeCode old) ++ toLe 1 (modeCode m) ++ toLe 1 cause)]).refuseUnlocked

/-- Some cause for CUSTODY holds (02 R56). -/
def ModePart.custodyCause (p : ModePart) : Bool := p.causeSpare || p.causeVault || p.archival

end Sys2Proof.Machine
end

