-- ==== Sys2Proof/Machine/ModeOps.lean ====
section
/-! DEFINITION. Mode transitions as operations (02 Table 2.2, R54 to R57): entering and leaving CUSTODY and SERVICE, a
pair's role changes (15 R555, R557, R564, R575, R579, R586), and the dying gasp (15 R573). -/

namespace Sys2Proof.Machine

/-! ### Comets, sessions and power at a mode change -/

/-- A mode change to SERVICE, MIRROR or eclipse, or a warm start, ends the comets before it takes effect (12 R490). -/
def State.endForMode (s : State) : State := s.endComets (fun k => k.kind != .rebuild) .aborted 0x05 0 false

/-- The dying gasp: a burst on PAIR_ALIVE_OUT, while it is driven, and a GASP frame on every link that is up (15 R573, 20
Table 20.12). -/
def State.gasp (s : State) : State :=
  s.linksUp.foldl (fun s n => s.sendOn n 0x03 []) (if s.drivesAlive then s.emit .gaspBurst else s)

/-- A member that leaves its pair keeps its links and its module identifier (15 R555, R586). -/
def PairPart.leave (p : PairPart) : PairPart := { ({} : PairPart) with aliveIn := p.aliveIn, word := p.word }

/-- The module leaves its pair: no session is carried any more (02 R55, 15 R586). -/
def State.leavePair (s : State) : State :=
  { s with pair := s.pair.leave
           sess := { s.sess with sessions := s.sess.sessions.map fun x => { x with carried := false } } }

/-- A mutation that holds its key lock and has not committed (02 R57). -/
def Cmd.heldBack (c : Cmd) : Bool :=
  c.locked && opMutation (dOpcode c.desc) && !c.isCommitted && c.phase != .finished

/-- Mutations that hold their locks and have not committed complete with ST_BUSY_RETRY and have no effect (02 R57, 15
R564); their completions wait for no partner. -/
def State.dropUncommitted (s : State) : State :=
  let refs := (s.cmds.list.filter (·.heldBack)).map (·.ref)
  (s.finishAll ((s.cmds.list.filter (·.heldBack)).map fun c => (c.ref, batchComp c.desc (Comp.plain .busyRetry)))).releaseHeld
    fun c => decide (c.ref ∈ refs)

/-! ### CUSTODY (02 R55, R56) -/

/-- Granted mutations commit: in an in-step PRIMARY those whose decision record the partner holds, whose outcome and CSN the new
primary reports (06 R244, 15 R575). -/
def State.commitForwarded (s : State) : State :=
  (s.cmds.list.filter fun c => c.phase == .granted && (c.partner || !s.mirroring)).foldl (fun s c => s.commit c) s

/-- At the point at which another member takes over, a granted mutation commits if that member holds its record; any other has no
effect here, and the new primary executes it afresh (06 R281, Table 6.1). -/
def State.yieldGranted (s : State) : State :=
  let s1 := s.commitForwarded
  (s1.cmds.list.filter (·.phase == .granted)).foldl (fun s c => (s.undo c).dropCmd c.ref) s1

/-- A primary in step hands over to its partner, which takes over as after a signalled failure (02 R55): the gasp, and for
this module what a takeover ends: its sessions (15 R557), object sessions (05 R228) and pins (06 R270). -/
def State.handOver (s : State) : State :=
  let s1 := (s.gasp.yieldGranted.endSessions (·.carried) false).endSessions (fun _ => true) true
  s1.endPins.endObjects fun _ => true

/-- A cause for CUSTODY has arisen: outside COMMISSION and SERVICE the module enters CUSTODY; a pair member leaves its
pair, and a primary in step hands over by its gasp (02 R55, R56). `cause` as in 16 Table 16.11. -/
def State.toCustody (s : State) (cause : Nat) : State :=
  let s1 := s.setCause cCustody
  match s.mode.mode with
  | .commission | .service | .custody => s1
  | .solo => ({ s1 with mode := { s1.mode with beforeCustody := .solo } }).setMode .custody cause
  | .primary | .mirror | .eclipse =>
    let s2 := if s.mirroring then s1.handOver else s1
    ({ s2.leavePair with mode := { s2.mode with beforeCustody := .solo } }).setMode .custody cause

/-- A cause for CUSTODY has ended: when no other holds, the module leaves CUSTODY for the mode it held before, SOLO
when it left its pair (02 R55, Table 2.2). -/
def State.custodyEnded (s : State) (cause : Nat) : State :=
  if s.mode.mode = .custody && !s.mode.custodyCause then s.setMode s.mode.beforeCustody cause else s

/-- The target of a transition out of COMMISSION or SERVICE, or CUSTODY instead while a cause holds (02 R56); a pair
member that would enter CUSTODY leaves its pair (R55). From SERVICE that was entered from CUSTODY, with every cause
ended meanwhile, it is SOLO, the mode that CUSTODY itself would return to (DESIGN CHOICE, notes/assumptions/62.md). -/
def State.enterOrCustody (s : State) (m : Mode) (cause : Nat) : State :=
  if s.mode.custodyCause || m = .custody then
    let paired := decide (m = .primary ∨ m = .mirror ∨ m = .eclipse)
    let s1 := if paired then s.leavePair else s
    let s2 : State := { s1 with mode := { s1.mode with beforeCustody := .solo } }
    if s.mode.custodyCause then (s2.setCause cCustody).setMode .custody cause else s2.setMode .solo cause
  else s.setMode m cause

/-! ### SERVICE -/

/-- Entry into SERVICE (02 Table 2.2, R59): the comets end first; the mode held before is kept. -/
def State.enterService (s : State) (cause : Nat) : State :=
  if s.mode.mode = .service then s
  else
    let s1 := s.endForMode
    ({ s1 with mode := { s1.mode with beforeService := s1.mode.mode } }).setMode .service cause

/-- The mode to which SERVICE returns (02 Table 2.2, R58). -/
def ModePart.afterService (p : ModePart) : Mode := match p.beforeService with
  | .primary => .mirror
  | .service => .solo
  | m => m

/-- A member returns from SERVICE to its pair: it has applied nothing meanwhile, and is out of step until the
resynchronisation that its HEARTBEAT asks for has ended (02 Table 2.2, 15 R583). -/
def State.rejoin (s : State) : State :=
  if s.mode.mode = .mirror || s.mode.mode = .eclipse then
    { s with pair := { s.pair with inStep := false, resyncOn := true, resyncKeys := [], resyncDone := 0 } }
  else s

/-- The end of SERVICE (02 Table 2.2). -/
def State.leaveService (s : State) (cause : Nat) : State :=
  if s.mode.mode = .service then (s.enterOrCustody s.mode.afterService cause).rejoin else s

/-! ### Pair roles (15) -/

/-- Sessions end when the module becomes MIRROR: those of member addresses, and here the carried ones too, which live on at
the new primary (15 R557, R564). -/
def State.endForMirror (s : State) : State := (s.endSessions (fun x => !x.carried) true).endSessions (·.carried) false

/-- The primary's lease has ended or is lost: it becomes MIRROR (15 R564). Comets end first (12 R490); a mutation that
holds its lock and has not committed completes with ST_BUSY_RETRY, a command without its lock with the status of MIRROR
(02 R57). -/
def State.loseLease (s : State) : State :=
  let s1 := s.endForMode.dropUncommitted
  let p := { s1.pair with lease := none, holding := false, change := none, inStep := bitOf s1.pair.word 25 }
  ({ s1 with pair := p }.setMode .mirror 0x07).endForMirror

/-- The module gives its role to its partner, or joins a pair as its MIRROR: comets end first (12 R490); what carried
sessions have in flight is left to the new primary, which fetches it again (15 R575, R581). -/
def State.giveWay (s : State) (cause : Nat) : State :=
  let s1 := s.endForMode.yieldGranted.endSessions (·.carried) false
  ({ s1 with pair := { s1.pair with lease := none, holding := false, change := none } }.setMode .mirror cause).endSessions (fun _ => true) true

/-- The module enters eclipse and asserts ATTN# (15 R579). -/
def State.enterEclipse (s : State) : State :=
  if s.mode.mode = .mirror then
    let s1 := s.endForMode
    let s2 := s1.raise cEclipse 0x0604 0xFF 0 [(0, toLe 8 s1.pair.word)]
    ({ s2 with pair := { s2.pair with wait := .idle } }).setMode .eclipse 0x08
  else s

/-- A sequencer that takes over or resumes begins a new block one above the highest high-water mark it holds (06 R241):
its next grant reserves it. -/
def Seq.newBlock (q : Seq) : Seq := { q with next := q.hwm + 1 }

/-! ### Takeover (15 R575; 12 R489) -/

/-- A ring of a carried session at the new primary: it fetches from the lowest count without a completion record (15
R575). -/
def PairPart.ringOf (p : PairPart) (x : CarriedSession) (q : CarriedRing) : Ring :=
  { idx := q.idx, sqBase := q.sqBase, cqBase := q.cqBase, dbAddr := q.dbAddr, rkey := q.rkey, sqLog2 := q.sqLog2,
    cqLog2 := q.cqLog2, ordered := q.ordered, idleTime := q.idleTime, event := q.event, eventIvl := q.eventIvl,
    producer := BitVec.ofNat 32 q.next, fetch := BitVec.ofNat 32 q.next, cqCount := BitVec.ofNat 32 q.cqCount,
    resetSeq := BitVec.ofNat 32 q.resetSeq, finished := q.finished, polled := 1,
    decided := p.decisions.filter fun d => d.handle == x.handle && d.ring == q.idx }

/-- A carried session at the new primary, from its mirrored context (15 R557, R575). -/
def State.sessionOf (s : State) (x : CarriedSession) : Session :=
  { sid := s.sess.nextSid, row := (placeRow s.sessPlaces (List.range 256) [x.handle % 8]).getD 0, handle := x.handle, qpn := x.qpn, hostQpn := x.hostQpn, moduleId := s.ident.moduleId,
    front := if x.lport < 64 then .a else .b, lport := x.lport, service := true, addr := x.addr, cls := .live,
    role := x.role, cred := x.cred, limit := s.settings.idleLimit * 60000, carried := true, setup := { state := 1 },
    transcript := x.login, rings := x.rings.map (s.pair.ringOf x) }

/-- The data of a read's completion record: the head record or the value bytes of the recorded version (15 R575). -/
def State.recordedData (s : State) (r : CompletionRecord) : Bytes :=
  match r.read.bind fun k => (s.versionsOf k.1 k.2.1).find? (·.csn == k.2.2) with
  | some v => if r.head then headRecord v else (v.value.getD []).drop r.off
  | none => []

/-- A completion whose acknowledgement was not reported is written again with identical bytes, a read's data first (15
R575). -/
def State.rewrite (x : Session) (s : State) (r : CompletionRecord) : State :=
  match x.ring? r.ring with
  | none => s
  | some q =>
    (s.writePieces x.sid (scatter r.segs (s.recordedData r))).emit
      (.write x.sid q.rkey (q.cqBase + 32 * (r.slot % 2 ^ q.cqLog2)) r.bytes)

/-- The final write of a comet of the old primary (12 R489). -/
def CarriedComet.final (x : Session) (k : CarriedComet) : Output :=
  let kind := ([CometKind.scan, .search, .audit, .shortTest, .extTest, .export_][k.subtype - 1]?).getD .scan
  .write x.sid k.rkey k.addr (statusBlock
    { num := k.num, kind := kind, snapshot := k.snapshot, bytes := k.bytes, st := .aborted, endCause := 7 } 0xFFFFFFFF false)

/-- A carried session is adopted: unacknowledged completions are rewritten, its rings are read for the descriptors to
fetch again, and its comets end (15 R575, 12 R489). -/
def State.adoptCarried (s : State) (x : CarriedSession) : State :=
  let y := s.sessionOf x
  let s1 : State := { s with sess := { s.sess with sessions := s.sess.sessions ++ [y], nextSid := s.sess.nextSid + 1 } }
  let s2 := (s.pair.records.filter (·.handle == x.handle)).foldl (State.rewrite y) s1
  s2.emitAll (y.rings.map (readDoorbell y.sid) ++
    (s.pair.comets.filter (·.handle == x.handle)).map (CarriedComet.final y))

/-- What the old primary mirrored has been taken over. -/
def PairPart.adopted (p : PairPart) : PairPart :=
  { p with records := [], decisions := [], carried := [], comets := [], owed := [], markSent := 0, markHeld := 0,
           resyncOn := false, resyncKeys := [], change := none }

/-- A member that has become PRIMARY (15 R575): its sequencer starts at a new block, member-address sessions end (R557),
comets end with END_CAUSE 0x07, pins and object sessions end (06 R270, 05 R228), the service addresses are announced
(R556), no program has a retained generation (11 R459), and the carried sessions are adopted. -/
def State.takeover (s : State) (cause : Nat) : State :=
  let s1 : State := { s with seq := s.seq.newBlock }
  let s2 := s1.endComets (fun k => k.kind != .rebuild) .aborted 0x07 0 false
  let s3 := (s2.endPins.endObjects fun _ => true).endSessions (fun _ => true) true
  let ports := (List.range 128).filter fun l => bitOf (s.ports.hosts.getD (l / 4) {}).linkUp (l % 4)
  let s4 := (s3.emitAll (ports.map .announce)).setMode .primary cause
  let s5 := s4.pair.carried.foldl State.adoptCarried s4
  let s6 : State := { s5 with pair := s5.pair.adopted
                              cmds := { s5.cmds with nextOrd := max s5.cmds.nextOrd (maxNat (s.pair.decisions.map (·.csn)) + 1) }
                              programs := s5.programs.map fun p => { p with retained := none } }
  s6.reclaim

/-- Dissolution: SOLO, with the data it holds (15 R586). -/
def State.dissolve (s : State) : State := s.leavePair.setMode .solo 0x0A

end Sys2Proof.Machine
end

