-- ==== Sys2Proof/Machine/Settings.lean ====
section
/-! DEFINITION. Changes of the settings that a pair keeps on both members (13 R514, 11 R459, 15 R570, R588): namespaces,
credentials, rules, programs, the Range Map and the witness. In PRIMARY a change is forwarded, and takes effect when the partner
also holds it; the partner takes it when it arrives. -/

namespace Sys2Proof.Machine

/-! ### Namespaces (13 Table 13.2, R494, R498) -/

def npQuotaBytes (d : Bytes) : Nat := u64At d 8
def npQuotaObjs (d : Bytes) : Nat := u64At d 16
def npSuite (d : Bytes) : Nat := byteAt d 24
def npFixity (d : Bytes) : Nat := bitsOf (byteAt d 25) 0 2
def npCompat (d : Bytes) : Bool := bitOf (byteAt d 25) 2
def npNoDefaults (d : Bytes) : Bool := bitOf (byteAt d 25) 3
def npSlot (d : Bytes) : Nat := bitsOf (u16At d 26) 0 13
/-! ### Creation -/
def npMask (d : Bytes) (i : Nat) : Bool := bitOf (u32At d 28) i

/-- The attributes that SET_MASK selects are replaced. -/
def setAttributes (d : Bytes) (n : Namespace) : Namespace :=
  { n with quotaBytes := if npMask d 0 then npQuotaBytes d else n.quotaBytes,
           quotaObjs := if npMask d 1 then npQuotaObjs d else n.quotaObjs,
           fixity := if npMask d 2 then npFixity d else n.fixity,
           compat := if npMask d 3 then npCompat d else n.compat }

/-- A command deletes namespace `nsid`: its first step is made and it has not completed (13 Table 13.3 DELETING). -/
def Cmd.deletes (nsid : Nat) (c : Cmd) : Bool :=
  dOpcode c.desc == 0x4A && dNsid c.desc == nsid && c.decided && c.phase == .ready

/-- A namespace is being deleted. -/
def State.deleting (s : State) (nsid : Nat) : Bool := s.cmds.list.any (·.deletes nsid)

/-- A part of a command lies in a namespace. The outer descriptor of a KV_BATCH names none (04 R167). -/
def Cmd.inNamespace (c : Cmd) (nsid : Nat) : Bool :=
  !opAdmin (dOpcode c.desc) &&
    (c.parts.any (·.nsid == nsid) || (c.parts.isEmpty && dOpcode c.desc != opBatch && dNsid c.desc == nsid))

/-- The completion of a command whose namespace has gone (13 R498); a KV_BATCH names its first sub-operation there (04
Table 4.12). -/
def Cmd.goneComp (c : Cmd) (nsid : Nat) : Comp :=
  { Comp.denied 8 with aux := if dOpcode c.desc == opBatch then c.parts.findIdx (·.nsid == nsid) else 0 }

/-- Data commands of a namespace admitted and not completed. -/
def State.inFlightOf (s : State) (nsid : Nat) : Bool :=
  s.cmds.list.any fun c => c.inNamespace nsid && c.phase != .finished && c.locked

/-- Rules and grants of namespaces go with them (13 R498, R499). -/
def State.forgetNamespaces (s : State) (p : Nat → Bool) : State :=
  let strip := fun (k : Credential) => { k with grants := k.grants.filter fun n => !p n }
  { s with
    asu := { s.asu with rules := s.asu.rules.filter fun r => r.nsAny || !p r.nsid }
    creds := { s.creds with list := s.creds.list.map strip }
    kv := { s.kv with versions := s.kv.versions.filter fun v => !p v.nsid } }

/-- Namespaces past the point of a deletion whose command ended with its session or its power: their identifiers are
free once the commands admitted before the point have completed (13 R499). -/
def State.reapNamespaces (s : State) : State :=
  let busy := fun (n : Nat) => s.inFlightOf n || s.cmds.list.any s.pastPoint
  let dead := (s.ns.filter fun n => n.gone && !busy n.nsid).map (·.nsid)
  let s1 := if dead.isEmpty then s else s.forgetNamespaces (dead.contains ·)
  { s1 with ns := s1.ns.filter fun n => !dead.contains n.nsid }

/-- Before the point of effect: the namespace's comets end with END_CAUSE 0x08 and its object sessions end (13 R498, 12
R490). -/
def State.clearNamespace (s : State) (p : Nat → Bool) : State :=
  ((s.endComets (fun k => p k.nsid && k.kind.hasSnapshot) .aborted 0x08 0 false).endObjects
    fun o => p o.nsid).settle

/-- Number of keys of a namespace that have a value (13 R498). -/
def State.keyCount (s : State) (nsid : Nat) : Nat :=
  (s.kv.versions.filter fun v => v.nsid == nsid && v.value.isSome && decide (s.current nsid v.key = some v)).length

/-- The point of effect: every version is invisible, and commands of the namespace that hold no lock complete
ST_DENIED 0x0008; the deletion keeps the number of keys for its completion (13 R498). -/
def State.deletePoint (s : State) (nsid : Nat) : State :=
  let n := s.keyCount nsid
  let s1 := (s.clearNamespace (· == nsid)).forgetNamespaces (· == nsid)
  let s2 : State := { s1 with ns := mapWhere (·.nsid == nsid) (fun k => { k with gone := true, useBytes := 0, useObjs := 0 }) s1.ns }
  let s3 := s2.finishAll ((s2.cmds.list.filter fun d => d.inNamespace nsid && d.isUnlocked).map fun d => (d.ref, d.goneComp nsid))
  { s3 with cmds := { s3.cmds with list := mapWhere (·.deletes nsid) (fun d => { d with acc := n }) s3.cmds.list } }

/-- The namespace takes its attributes from the partner; what it uses is counted here (13 Table 13.1, 15 R582). -/
def addNamespace (n : Namespace) (l : List Namespace) : List Namespace :=
  if l.any (·.nsid == n.nsid) then
    mapWhere (·.nsid == n.nsid) (fun k => { n with useBytes := k.useBytes, useObjs := k.useObjs, resBytes := k.resBytes,
                                                   resObjs := k.resObjs, sealFails := k.sealFails }) l
  else l ++ [n]

/-! ### Credentials and rules (13 R500 to R505) -/

/-- Changes one credential. -/
def State.modCred (s : State) (cred : Nat) (f : Credential → Credential) : State :=
  { s with creds := { s.creds with list := mapWhere (·.cred == cred) f s.creds.list } }

/-- Grants a namespace to a credential (13 R500). -/
def State.grant (s : State) (cred nsid : Nat) : State :=
  let add := fun (k : Credential) => { k with grants := k.grants ++ [nsid] }
  { s with creds := { s.creds with list := mapWhere (·.cred == cred) add s.creds.list } }

/-- A credential with its secret and no grant; one that is known keeps its grants. -/
def addCredential (k : Credential) (l : List Credential) : List Credential :=
  if l.any (·.cred == k.cred) then mapWhere (·.cred == k.cred) (fun q => { k with grants := q.grants }) l else l ++ [k]

/-- Puts a row into the rule table at an index, keeping the rows by ascending index. -/
def insertRule (r : Rule) : List Rule → List Rule
  | [] => [r]
  | q :: qs => if r.idx < q.idx then r :: q :: qs else q :: insertRule r qs

/-- The lowest row index not in use (13 R505). -/
def freeRule (l : List Rule) : Nat := unusedFrom (l.map (·.idx)) 4096 l.length 0

/-- Writes a row into the lowest free row (13 R505). -/
def addRule (l : List Rule) (r : Rule) : List Rule := insertRule { r with idx := freeRule l } l

/-! ### Programs (11 R451, R452) -/

/-- Changes one program slot. -/
def State.modProg (s : State) (n : Nat) (f : ProgSlot → ProgSlot) : State :=
  { s with programs := mapWhere (·.slot == n) f s.programs }

/-- A new generation takes effect: the current one becomes the retained one (11 R451, R452). -/
def install (g : ProgGen) (p : ProgSlot) : ProgSlot := { p with current := some g, retained := p.current, lastGen := g.gen }

/-! ### The Range Map (15 Table 15.11, R592, R593) -/

/-- One list entry: its ACTION and its row; none when a field is out of range. -/
def parseEntry (e : Bytes) : Option (Nat × RangeRow) :=
  let action := byteAt e 0
  let len := bitsOf (byteAt e 1) 0 6
  if action == 0 || decide (3 < action) || decide (32 < len) then none
  else some (action, { nsid := bitsOf (u16At e 2) 0 12, low := slice e 16 len, owner := bitsOf (u16At e 4) 0 10 })

/-- Row `a` names the bound of row `b`. -/
def sameBound (a b : RangeRow) : Bool := a.nsid == b.nsid && a.low == b.low

/-- Row `j`, or the first row not in use, is written. -/
def writeRow (j : Nat) (r : RangeRow) (rows : List RangeRow) : List RangeRow :=
  if j < rows.length then rows.set j r else rows ++ [r]

/-- A move of row `i` to row `j`, which copies ACTIVE (10 R401, R402). -/
def copyRow (i j : Nat) (rows : List RangeRow) : List RangeRow := match rows[i]? with
  | some r => writeRow j r rows
  | none => rows

/-- The moves that make room at position `p`, `k` rows still to be moved, beginning with the last (10 R401). -/
def moveDown (p : Nat) : Nat → List RangeRow → List RangeRow
  | 0, rows => rows
  | k + 1, rows => moveDown p k (copyRow (p + k) (p + k + 1) rows)

/-- Inserts a row at its position: the rows from there on move down, it is written with ACTIVE 0, then activated (10 R401). -/
def insertRange (r : RangeRow) (rows : List RangeRow) : List RangeRow :=
  let p := (rows.takeWhile fun q => !rowLe r.nsid r.low q.nsid q.low).length
  let written := writeRow p { r with active := false } (moveDown p (rows.length - p) rows)
  written.set p r

/-- The moves that close a gap, row `i` + 1 first, `k` rows still to be moved (10 R402). -/
def moveUp : Nat → Nat → List RangeRow → List RangeRow
  | _, 0, rows => rows
  | i, k + 1, rows => moveUp (i + 1) k (copyRow (i + 1) i rows)

/-- Removes the row at position `p`: its ACTIVE is cleared, the rows above it move up, and VALID is cleared in the old last row
(10 R402). -/
def removeRange (p : Nat) (rows : List RangeRow) : List RangeRow :=
  (moveUp p (rows.length - 1 - p) (rows.modify p fun r => { r with active := false })).dropLast

/-- One change of the list; none when it names an existing or absent row wrongly (15 R592). -/
def applyEntry (rows : List RangeRow) (e : Nat × RangeRow) : Option (List RangeRow) :=
  let present := rows.any (sameBound e.2)
  if e.1 == 1 then (if present then none else some (insertRange e.2 rows))
  else if !present then none
  else if e.1 == 2 then some (removeRange (rows.takeWhile fun r => !sameBound e.2 r).length rows)
  else some (mapWhere (sameBound e.2) (fun r => { r with owner := e.2.owner }) rows)

/-- The whole list, in order (15 R592): the rows after it, or the refusal. -/
def applyList : List RangeRow → List Bytes → List RangeRow ⊕ Comp
  | rows, [] => .inl rows
  | rows, e :: es =>
    match (parseEntry e).bind (applyEntry rows) with
    | none => .inr (Comp.denied 7)
    | some rows' => if 16384 < rows'.length then .inr (Comp.plain .noSpace) else applyList rows' es

/-- Namespaces whose rows a list changes. -/
def listNamespaces (es : List Bytes) : List Nat := (es.map fun e => bitsOf (u16At e 2) 0 12).eraseDups

/-- Commands of the changed namespaces admitted before the change are in flight (15 R593). -/
def State.admittedBefore (s : State) (limit : Nat) (nss : List Nat) : Bool :=
  s.cmds.list.any fun c => decide (c.ref < limit) && c.late && c.phase != .finished && nss.any c.inNamespace

/-- A Range Map command completes once the commands admitted under the rows it changed have completed (15 R593); until
then its row is applied again. -/
def State.mapApplied (s : State) (ref limit : Nat) (list : Bytes) : State :=
  if s.admittedBefore limit (listNamespaces (chunks 48 (list.length / 48) list)) then s
  else s.finish ref (Comp.okResult 0)

/-- The rows and the epoch change together (15 R592, 10 R400). -/
def State.installMap (s : State) (epoch : Nat) (list : Bytes) : State :=
  match applyList s.asu.ranges (chunks 48 (list.length / 48) list) with
  | .inl rows => { s with asu := { s.asu with ranges := rows, epoch := epoch } }
  | .inr _ => s

/-! ### Changes -/

/-- Before the settings of a primary are taken whole, what it has not got goes (15 R582). -/
def State.onlySettings (s : State) (nss creds outs slots : List Nat) : State :=
  let s1 := s.forgetNamespaces fun n => !decide (n ∈ nss)
  let empty := fun (p : ProgSlot) => if p.slot ∈ slots then p else { p with current := none, retained := none }
  { s1 with
    ns := s1.ns.filter fun n => decide (n.nsid ∈ nss)
    creds := { s1.creds with list := s1.creds.list.filter fun k => decide (k.cred ∈ creds)
                             outbound := s1.creds.outbound.filter fun k => decide (k.1 ∈ outs) }
    asu := { s1.asu with rules := [], ranges := [] }
    programs := s1.programs.map empty }

/-- A change takes effect. -/
def State.applyChange (s : State) (x : SettingsChange) : State := match x with
  | .only nss creds outs slots => s.onlySettings nss creds outs slots
  | .nsAdd nsid qb qo suite slot fixity compat created =>
    { s with ns := addNamespace { nsid := nsid, quotaBytes := qb, quotaObjs := qo, suite := suite, slot := slot,
                                  fixity := fixity, compat := compat, created := created } s.ns }
  | .nsSet nsid desc => { s with ns := mapWhere (·.nsid == nsid) (setAttributes desc) s.ns }
  | .nsGone nsid => s.deletePoint nsid
  | .credAdd cred role secret creator =>
    { s with creds := { s.creds with
        list := addCredential { cred := cred, role := role, secret := secret, creator := creator } s.creds.list } }
  | .credSecret cred secret => s.modCred cred fun k => { k with secret := secret }
  | .grant cred nsid => s.grant cred nsid
  | .revoke cred nsid => s.modCred cred fun k => { k with grants := k.grants.filter (· != nsid) }
  | .credGone cred => { s with creds := { s.creds with list := s.creds.list.filter (·.cred != cred) } }
  | .outbound cred (some secret) => { s with creds := { s.creds with outbound := setAssoc cred secret s.creds.outbound } }
  | .outbound cred none => { s with creds := { s.creds with outbound := s.creds.outbound.filter (·.1 != cred) } }
  | .rule idx nsid nsAny cred credAny roles ops priority pre allow =>
    let r : Rule := { idx := idx.getD (freeRule s.asu.rules), pre := pre, nsid := nsid, nsAny := nsAny, cred := cred,
                      credAny := credAny, roles := roles, ops := ops, priority := priority, allow := allow }
    { s with asu := { s.asu with rules := insertRule r s.asu.rules } }
  | .ruleGone idx => { s with asu := { s.asu with rules := s.asu.rules.filter (·.idx != idx) } }
  | .program slot gen nsid shared image =>
    s.modProg slot (install { gen := gen, image := image, nsid := nsid, shared := shared, buildId := imgBuildId image,
                              nStates := imgStates image })
  | .rangeMap epoch list => s.installMap epoch list
  | .witness ip service rkey addr =>
    { s with pair := { s.pair with witAddr := addr, witRkey := rkey, witIp := ip, witService := service } }

/-- What follows the completion of a change: the sessions of a deleted credential end (13 R503). -/
def State.afterChange (s : State) (x : SettingsChange) : State := match x with
  | .credGone cred => s.endSessions (fun x => x.role != 0 && x.cred == cred) true
  | _ => s

/-- Changes take effect, their command completes or goes on, and what follows happens. -/
def State.conclude (s : State) (p : PendingChange) : State :=
  let s1 := p.changes.foldl State.applyChange s
  let s2 := match p.after with
    | .done k => s1.finish p.ref k
    | .deletion => s1
    | .map list => (s1.modCmd p.ref fun c => { c with decided := true, acc := s.cmds.nextRef, block := list }).mapApplied
        p.ref s.cmds.nextRef list
  p.changes.foldl State.afterChange s2

/-- In PRIMARY, while it forwards, a settings change is sent to the partner (13 R514, 15 Table 15.5 CONFIG). -/
def State.config (s : State) (c : Cmd) : State := if s.forwards then s.sendPair 0x13 c.desc else s

/-- A command changes settings. In PRIMARY, while it forwards, the change goes to the partner first and takes effect when the
partner also holds it (13 R514, 11 R459, 15 R593). -/
def State.configure (s : State) (c : Cmd) (after : ChangeEnd) (changes : List SettingsChange) : State :=
  let p : PendingChange := { ref := c.ref, changes := changes, after := after }
  if s.forwards then ({ s with pair := { s.pair with change := some p } }).sendPair 0x13 c.desc else s.conclude p

/-- A change of settings that completes its command with ST_OK. -/
def State.configured (s : State) (c : Cmd) (k : Comp) (changes : List SettingsChange) : State := s.configure c (.done k) changes

/-- The change that waits for the partner takes effect. -/
def State.settleChange (s : State) : State := match s.pair.change with
  | some p => ({ s with pair := { s.pair with change := none } }).conclude p
  | none => s

/-- The row of a command that changes settings. Changes are made one at a time: while one waits for the partner the row has no
effect; once nothing is forwarded any more, the row makes its change here alone (13 R514, 15 R572). -/
def State.inTurn (s : State) (row : State → State) : State :=
  if s.pair.change.isSome && s.forwards then s else row { s with pair := { s.pair with change := none } }

end Sys2Proof.Machine
end

