-- ==== Sys2Proof/Machine/PairOps.lean ====
section
/-! DEFINITION. The pair's shared operations (15): the witness word and its compare-and-swap (R562 to R565), mirroring and
its loss (R569, R572), takeover (R575, R576), role swap (R580, R581), resynchronisation (R582, R583), detection of the
partner's state (R573, Table 15.3). -/

namespace Sys2Proof.Machine

/-! ### The witness word (15 Table 15.2) -/

def wRenew (w : Nat) : Nat := bitsOf w 0 24
def wHolder (w : Nat) : Nat := bitsOf w 24 1
def wInStep (w : Nat) : Bool := bitOf w 25
def wEpoch (w : Nat) : Nat := bitsOf w 32 32

/-- A witness word from its fields. -/
def witness (epoch : Nat) (inStep : Bool) (holder renew : Nat) : Nat :=
  epoch % 2 ^ 32 * 2 ^ 32 + b2n inStep * 2 ^ 25 + holder % 2 * 2 ^ 24 + renew % 2 ^ 24

/-- The word after a renewal that sets IN_STEP (15 R563). -/
def renewed (w : Nat) (inStep : Bool) : Nat := witness (wEpoch w) inStep (wHolder w) (wRenew w + 1)

/-- The word after a change of holder: EPOCH and RENEW rise (15 R562, R565, Table 15.6). -/
def reheld (w holder : Nat) : Nat := witness (wEpoch w + 1) (wInStep w) holder (wRenew w + 1)

/-- The RDMA READ and the compare-and-swap of the witness word, at its address (15 R558, R562). -/
def PairPart.readWord (p : PairPart) : Output := .witnessRead p.witIp p.witService p.witRkey p.witAddr
def PairPart.swapWord (p : PairPart) (expect new : Nat) : Output :=
  .witnessCas p.witIp p.witService p.witRkey p.witAddr expect new

/-- A compare-and-swap is issued (15 R563). -/
def State.issueCas (s : State) (why : CasFor) (new : Nat) : State :=
  ({ s with pair := { s.pair with casFor := why, casIssued := s.time.now } }).emit (s.pair.swapWord s.pair.word new)

/-- The word that an outstanding compare-and-swap writes. -/
def PairPart.casNew (p : PairPart) : Nat := match p.casFor with
  | .renew => renewed p.word (wInStep p.word)
  | .unmirror => renewed p.word false
  | .promote => reheld p.word p.member

/-- A witness access failed: ATTN# and a log entry when it did not fail before (15 R578, 16 Table 16.3). -/
def State.witnessFailed (s : State) : State :=
  let s1 : State := { s with attn := { s.attn with holdsWit := true } }
  if s.attn.holdsWit then s1 else s1.raise cWitness 0x0605 0xFF 0 []

/-- A witness access succeeded. A member that is not the primary takes IN_STEP from the word (15 R580, R583). -/
def State.witnessOk (s : State) (w : Nat) : State :=
  let inStep := if s.mode.mode = .primary then s.pair.inStep else wInStep w
  { s with attn := { s.attn with holdsWit := false }, pair := { s.pair with word := w, inStep := inStep } }

/-- The lease of 500 ms runs from the issue of the compare-and-swap that succeeded (15 R563). -/
def State.leased (s : State) (issued : Nat) : State :=
  { s with pair := { s.pair with lease := some (issued + 500000000) } }

/-! ### Mirroring -/

/-- Committed mutations that waited for the partner complete (15 R572). -/
def State.retryDurable (s : State) : State :=
  s.cmds.list.foldl (fun s c => if c.phase == .committed then s.draw.tryDurable c.ref s.hostAnswer else s) s

/-- IN_STEP as last written to the witness (15 Table 15.9): a PRIMARY with IN_STEP 0 serves unmirrored (16 Table 16.3
UNMIRRORED), and one without a partner to wait for releases what it held (15 R572). -/
def State.setInStep (s : State) (on : Bool) : State :=
  let s1 : State := { s with pair := { s.pair with inStep := on, holding := false } }
  if on then s1
  else
    let s2 := if s.mode.mode = .primary then s1.setCause cUnmirrored else s1
    (s2.releaseHeld fun c => c.hold).adoptProved.retryDurable

/-- The partner cannot accept mirrored mutations: completions are held and IN_STEP 0 is renewed (15 R572). -/
def State.loseMirroring (s : State) : State :=
  if s.mirroring && !s.pair.holding then
    ({ s with pair := { s.pair with holding := true } }).issueCas .unmirror (renewed s.pair.word false)
  else s

/-! ### Detection (15 Table 15.3) -/

/-- Changes one pair link. -/
def State.modLink (s : State) (n : Nat) (f : PairLink → PairLink) : State :=
  { s with ports := { s.ports with links := s.ports.links.modify n f } }

/-- A pair link of the module. -/
def State.link? (s : State) (n : Nat) : Option PairLink := s.ports.links[n]?

/-- Warning 4: one or more pair links failed with at least one up (16 Table 16.4). -/
def State.linkWarning (s : State) : State :=
  s.setWarning 4 (s.ports.links.any (·.failed) && s.ports.links.any (·.up))

/-- Every pair link has failed: the partner is lost, silently, when PAIR_ALIVE is lost too; the primary stops mirroring
in both cases (15 Table 15.3, R572). -/
def State.checkPartner (s : State) : State :=
  if !s.pair.paired || !s.linksUp.isEmpty then s
  else
    let s1 := if s.pair.aliveIn || s.pair.partnerLost then s
      else ({ s with pair := { s.pair with partnerLost := true } }).logEvent 0x0602 0xFF 0 [(0, toLe 1 0)]
    s1.loseMirroring

/-! ### Takeover -/

/-- A member may compare the witness against a value: the holder against any, the other only with IN_STEP 1 (15 R565). -/
def PairPart.maySwap (p : PairPart) (w : Nat) : Bool := wHolder w == p.member || wInStep w

/-- The swap to this member has succeeded: the member is PRIMARY (15 R565, R575); a partner that is lost leaves it
unmirrored by its next renewal (15 Table 15.6). -/
def State.promoted (s : State) (w cause : Nat) : State :=
  let new := reheld w s.pair.member
  let s1 : State := { s with pair := { s.pair with epoch := wEpoch new, inStep := wInStep new, wait := .idle,
                                                   lastSwap := none } }
  let s2 := ((s1.witnessOk new).leased s.time.now).takeover cause
  let s3 := s2.logEvent 0x0603 0xFF 0 [(0, toLe 4 (wEpoch new))]
  if wInStep new then s3.loseMirroring else s3.setCause cUnmirrored

/-! ### Resynchronisation -/

/-- Keys that have a value. -/
def State.allKeys (s : State) : Nat :=
  (s.kv.versions.filter fun v => v.value.isSome && decide (s.current v.nsid v.key = some v)).length

/-- The primary starts a resynchronisation: a pin at its committed CSN under the rules of every pin (06 R265), its
settings whole, its high-water mark and its granted mutations forwarded (15 R570), and the key stream (15 R582, R583). With 2,048 pins
standing it waits (06 R268). -/
def State.startResync (s : State) : State :=
  let csn := s.seq.committed
  if s.pair.resyncOn || (!s.pinned csn && decide (2048 ≤ s.kv.pins.length)) then s
  else
    let s1 := s.takePin csn true
    let s2 : State := { s1 with pair := { s1.pair with
      resyncOn := true, resyncPin := some csn, resyncDone := 0, resyncAll := s.allKeys, owed := [], change := none } }
    let s3 := ((s2.sendPair 0x13 []).sendPair 0x15 (toLe 8 s.seq.hwm)).sendPair 0x30 (toLe 8 csn)
    (s.cmds.list.filter (·.phase == .granted)).foldl (fun s c => s.forward c.ref) s3

/-- The resynchronisation's pin has ended: while a link is up it starts again from a new one (15 R583). -/
def State.restartResync (s : State) : State :=
  let s1 : State := { s with pair := { s.pair with resyncOn := false, resyncPin := none } }
  if s.linksUp.isEmpty then s1 else s1.startResync

/-- The primary's resynchronisation uses the pin at a CSN (15 R582). -/
def State.resyncUses (s : State) (csn : Nat) : Bool :=
  s.mode.mode == .primary && s.pair.resyncOn && s.pair.resyncPin == some csn

/-! ### Role swap -/

/-- Answers to SWAP requests (15 R580). -/
inductive SwapAnswer where
  | run | superseded | refused | busy
  deriving DecidableEq, Repr

/-- What a SWAP request with `epoch` gets on this member (15 R580). -/
def PairPart.swapAnswer (p : PairPart) (epoch : Nat) : SwapAnswer :=
  if !p.inStep then .busy
  else if epoch = p.epoch then .run
  else if p.lastSwap = some epoch then .superseded
  else .refused

/-- The completion of a superseded SWAP (04 Table 4.12). -/
def superseded (epoch : Nat) : Comp := { status := .okSuperseded, result := epoch }

/-- A swap runs: the witness names the partner at the next epoch, SWAP_DONE is sent, `done` completes what asked for it,
and the old primary becomes MIRROR (15 R581); for its pins the swap is a takeover (06 R270). The witness had another value: the lease is lost (R563, R564). No answer:
nothing has happened yet. -/
def State.runSwap (s : State) (cas : WitnessAnswer) (done : Nat → State → State) : State :=
  let w := s.pair.word
  let new := reheld w (1 - s.pair.member)
  let s1 := s.emit (s.pair.swapWord w new)
  match cas with
  | .unreachable => s1.witnessFailed
  | .value v =>
    if v != w then (s1.witnessOk v).loseLease
    else
      let s2 := (s1.witnessOk new).sendPair 0x21 (toLe 4 (wEpoch new))
      let s3 : State := { s2 with pair := { s2.pair with lastSwap := some s.pair.epoch, epoch := wEpoch new } }
      (done (wEpoch new) s3).endPins.giveWay 0x05

end Sys2Proof.Machine
end

