-- ==== Sys2Proof/Machine/Wear.lean ====
section
/-! DEFINITION. Wear, spare reserve and the shelf deadline (09 R357 to R365, R372, R375, R379, R387, R388). -/

namespace Sys2Proof.Machine

/-- The sum of the equivalent erase counts of the blocks in service that `p` selects. -/
def State.countSum (s : State) (p : BlockId → Bool) : Nat :=
  sumNat ((s.media.blocks.filter fun b => b.inService && p b.id).map (·.count))

/-- Blocks of a die that are in service: 18,312 from factory format on, without those retired, with the spare blocks that have
entered service; none on a lost die (09 R359 to R361). -/
def State.inServiceOn (s : State) (moon die : Nat) : Nat :=
  if ((s.media.moons[moon]?).map fun m => m.dieGone die).getD true then 0
  else
    let mine := s.media.blocks.filter fun b => b.id.moon == moon && b.id.die == die
    18312 + (mine.filter fun b => b.inService && decide (18312 ≤ b.id.block)).length + ((s.die? moon die).map (·.bulk)).getD 0 -
      (mine.filter fun b => !b.inService && decide (b.id.block < 18312)).length

/-- Wear of a die in units of 10^-8 of its mean: the mean over its blocks in service (09 R358). -/
def State.fineWear (s : State) (moon die : Nat) : Nat :=
  10000 * s.countSum (fun i => i.moon == moon && i.die == die) / (6 * max 1 (s.inServiceOn moon die))

/-- Wear of a die in units of 0.01 % (09 R358). -/
def State.dieWear (s : State) (moon die : Nat) : Nat := s.fineWear moon die / 10000

/-- Wear of a moon in units of 0.01 %: the mean wear of its dies that have blocks in service (09 R358). -/
def State.meanWear (s : State) (moon : Nat) : Nat :=
  let worn := ((s.media.blocks.filter fun b => b.id.moon == moon && b.inService).map (·.id.die)).eraseDups
  let alive := ((List.range 512).filter fun d => !((s.media.moons[moon]?).map fun m => m.dieGone d).getD true).length
  sumNat (worn.map fun d => if s.inServiceOn moon d = 0 then 0 else s.fineWear moon d) / (10000 * max 1 alive)

/-- The highest die wear of a moon (09 R358). -/
def State.maxWear (s : State) (moon : Nat) : Nat :=
  maxNat ((s.media.blocks.filter fun b => b.id.moon == moon).map fun b => s.dieWear moon b.id.die)

/-! ### Spare reserve (09 R360 to R365) -/

/-- Spare blocks of a die at factory format: 2,034, and its good blocks beyond the rated ones (08 R319, 09 R360). -/
def Moon.dieSpares (m : Moon) (die : Nat) : Nat := 2034 + min extraBlocks ((assoc die m.extra).getD 0)

/-- Spare blocks of a moon at factory format (09 R360). -/
def Moon.factorySpares (m : Moon) : Nat := 512 * 2034 + sumNat (((m.extra.filter (·.1 < 512)).map (·.1)).eraseDups.map fun d => m.dieSpares d - 2034)

/-- The spare floor of a moon (09 R362). -/
def spareFloor : Nat := 102400

def Moon.sparesNow (m : Moon) : Nat := m.factorySpares - m.sparesUsed

/-- The spare reserve of a moon in percent (09 R362). -/
def Moon.reserve (m : Moon) : Nat := 100 * (m.sparesNow - spareFloor) / (m.factorySpares - spareFloor)

/-- The spare reserve of the module: the lowest of any moon in service (09 R362). -/
def State.moduleReserve (s : State) : Nat :=
  (s.media.moons.filter (·.inService)).foldl (fun r m => min r m.reserve) 100

/-- What the spare reserve asks for on its way down (09 R363, R365; 16 Table 16.3, Table 16.4). -/
def State.checkReserve (s : State) : State :=
  let r := s.moduleReserve
  let s1 := if decide (r ≤ 25) && !s.attn.warnings.getLsbD 1 then s.logEvent 0x0501 0xFF 0 [(0, toLe 1 r)] else s
  let s2 := s1.setWarning 1 (decide (r ≤ 25))
  let s3 := if decide (r ≤ 10) && !s2.attn.causes.getLsbD cSpareLow then
      (s2.setCause cSpareLow).logEvent 0x0502 0xFF 0 [(0, toLe 1 r)] else s2
  if r = 0 && !s3.mode.causeSpare then ({ s3 with mode := { s3.mode with causeSpare := true } }).toCustody 0x0B else s3

/-! ### Bands (08 R330, R338; 09 R372) -/

/-- Pages of a band that hold valid data, map pages among them (08 R338, R347). -/
def State.bandPages (s : State) (n : Nat) : Nat :=
  (s.media.pages.filter fun p => !p.header.kind.isSlc && bandOf p.header.stripe == n && s.pageValid p).length

/-- The age of a block in ms at 40 degC: the advance of its die's clock since it was programmed (09 R372). -/
def State.blockAge (s : State) (i : BlockId) : Nat := s.dieClock i.moon i.die - (s.block i).progAge

/-- The age of a band in ms at 40 degC (09 R372). -/
def State.bandAge (s : State) (b : Band) : Nat := maxNat (b.blocks.map s.blockAge)

/-- The highest wear among the blocks of a band. -/
def State.bandWear (s : State) (b : Band) : Nat := maxNat (b.blocks.map fun i => (s.block i).wear)

/-- Some band still holds a block on a lost die or channel of a moon: its stripes are read degraded (08 R340, R343). -/
def State.lostBlocks (s : State) (moon : Nat) : Bool := match s.media.moons[moon]? with
  | some m => (s.media.bands.flatMap (·.blocks)).any fun i => i.moon == moon && m.dieGone i.die
  | none => false

/-! ### Retention and the shelf deadline (09 R375, R387, R388) -/

/-- The scale of the fixed-point numbers below: 10^24. -/
def fixOne : Nat := 10 ^ 24

/-- exp(y) for a small fixed-point y: the first seven terms of its series. -/
def expSmall (y : Nat) : Nat := ((List.range 6).foldl (fun (p : Nat × Nat) k =>
  let t := p.2 * y / (fixOne * (k + 1))
  (p.1 + t, t)) (fixOne, fixOne)).1

/-- exp(y) for a fixed-point y: the series at y / 1024, squared ten times. -/
def expFix (y : Nat) : Nat := (List.range 10).foldl (fun e _ => e * e / fixOne) (expSmall (y / 1024))

/-- The Arrhenius factor of 09 R372 at a die temperature in units of 0.25 °C, in thousandths, rounded down. -/
def ageFactor (quarterDegrees : Int) : Nat :=
  let kelvin4 : Nat := (10 * quarterDegrees + 10926).toNat
  let up := 127651 * fixOne * 10 / 31315
  let down := 127651 * fixOne * 4 / kelvin4
  if down ≤ up then 1000 * expFix (up - down) / fixOne else 1000 * fixOne / expFix (down - up)

/-- Unpowered retention at 40 °C above 10 % of wear, in thousandths of a day, rounded down: ln 5 is 1.609437912434100375
(09 R387). -/
def retention40 (wear : Nat) : Nat :=
  (475957779514 * fixOne / 1000000) / expFix (1609437912434100375 * 10 ^ 6 * (min wear 10000 - 1000) / 9000)

/-- Unpowered retention at 40 degC in thousandths of a day (09 R387): 5 years up to 10 % of wear. -/
def retention (wear : Nat) : Nat := if wear ≤ 1000 then 475957 else retention40 wear

/-- ms of the die clock in a thousandth of a day. -/
def milliDay : Nat := 86400

/-- Bands that hold valid data. -/
def State.dataBands (s : State) : List Band := s.media.bands.filter fun b => decide (0 < s.bandPages b.num)

/-- The SLC blocks that hold valid data. -/
def State.slcData (s : State) : List BlockId :=
  ((s.media.pages.filter fun p => p.header.kind.isSlc && s.pageValid p).map (·.block)).eraseDups

/-- The margin of data under a wear and an age, in thousandths of a day (09 R388). -/
def shelfMargin (wear age : Nat) : Int := 8 * ((retention wear : Int) - (age / milliDay : Nat)) / 10

/-- The margins of R388: of each band and each SLC block that holds valid data. -/
def State.shelfMargins (s : State) : List Int :=
  (s.dataBands.map fun b => shelfMargin (s.bandWear b) (s.bandAge b)) ++
  (s.slcData.map fun i => shelfMargin (s.block i).wear (s.blockAge i))

/-- The least of a list of numbers. -/
def leastInt : List Int → Option Int
  | [] => none
  | i :: is => match leastInt is with
    | none => some i
    | some j => some (min i j)

/-- The shelf deadline in days (09 R388); none while no data holds one. -/
def State.shelfDeadline (s : State) : Option Nat := (leastInt s.shelfMargins).map fun d => (d / 1000).toNat

/-- Highest wear among blocks that hold data (19 Table 19.10). -/
def State.dataWear (s : State) : Nat :=
  max (maxNat (s.dataBands.map s.bandWear)) (maxNat (s.slcData.map fun i => (s.block i).wear))

end Sys2Proof.Machine
end

