-- ==== Sys2Proof/Machine/CometEv.lean ====
section
/-! DEFINITION. Running comets (12): progress updates, result records and their buffer (R470 to R473), the records of
each subtype (R474 to R481), export outcomes (R483), natural ends, and the ends of pins (06 R266, R269). -/

namespace Sys2Proof.Machine

/-! ### The result buffer (12 R470 to R473) -/

def Comet.bufSize (k : Comet) : Nat := 2 ^ blkResultLog2 k.block

/-- The PAD record needed before a record of `len` bytes: none when it neither crosses the end of the buffer nor leaves
exactly 8 bytes (12 R472). -/
def Comet.padBefore (k : Comet) (len : Nat) : Nat :=
  let left := k.bufSize - k.bytes % k.bufSize
  if left < len || left == len + 8 then left else 0

/-- `n` more bytes fit: RESULT_BYTES plus `n`, less CONSUMED, is at most the buffer size (12 R471). -/
def Comet.fits (k : Comet) (n : Nat) : Bool := decide (k.bytes + n ≤ k.bufSize + k.consumed)

/-- A record: header, body, zero padding to a multiple of 8 (12 Table 12.5). -/
def recordBytes (type flags keyLen csn : Nat) (body : Bytes) : Bytes :=
  let len := roundUp (16 + body.length) 8
  fit len (toLe 1 type ++ toLe 1 flags ++ toLe 2 keyLen ++ toLe 4 len ++ toLe 8 csn ++ body)

/-- A PAD record of `len` bytes (12 Table 12.6). -/
def padBytes (len : Nat) : Bytes := fit len (toLe 1 0 ++ toLe 1 0 ++ toLe 2 0 ++ toLe 4 len ++ toLe 8 0)

/-- Appends bytes to a comet's result buffer. -/
def State.append (s : State) (k : Comet) (data : Bytes) : State :=
  (s.toHost k.sid (.write k.sid (u32At k.block 12) (u64At k.block 16 + k.bytes % k.bufSize) data)).modComet k.num fun k =>
    { k with bytes := k.bytes + data.length }

/-- A comet waits for its host to free buffer room (12 R471); the change is shown within 10 µs (R467). -/
def State.waitCredit (s : State) (k : Comet) : State :=
  if k.creditWait then s else (s.modComet k.num fun k => { k with creditWait := true }).writeStatus k.num

/-- A comet write or credit read met a remote access error: the session is orphaned, and the comet ends with END_CAUSE
0x06, its last write held (12 R488). -/
def State.cometAccess (s : State) (k : Comet) : State :=
  (s.orphan k.sid).endComet k.num .aborted 0x06 0 false

/-- Adds a record to a comet, with the PAD record it needs, if there is room; `next` is what else the record does. -/
def State.addRecord (s : State) (k : Comet) (rec : Bytes) (w : HostWrite) (next : Comet → Comet) : State :=
  let pad := k.padBefore rec.length
  if pad != 0 && !k.fits pad then s.waitCredit k
  else
    let s1 := if pad == 0 then s else s.append k (padBytes pad)
    match s1.comet? k.num with
    | none => s1
    | some k1 =>
      if !k1.fits rec.length then s1.waitCredit k1
      else match w with
        | .accessError => s1.cometAccess k1
        | .acked => (s1.append k1 rec).modComet k.num next

/-! ### Records (12 R474 to R481) -/

/-- The image of a slot as a comet referenced it (11 R454, R456). -/
def State.progOf (s : State) (k : Comet) (slot : Nat) : Bytes :=
  match assoc slot k.refs, s.programs.find? (·.slot == slot) with
  | some g, some p => p.imageOf g
  | _, _ => []

/-- An UNREADABLE record: with the version's key unless that is lost too (12 R474). -/
def unreadableRecord (v : Version) (deg keyLost : Bool) : Bytes :=
  let key := if keyLost then [] else v.key
  recordBytes 2 (b2n deg) key.length v.csn key

/-- A MATCH record (12 Table 12.6, R475). -/
def matchRecord (k : Comet) (v : Version) (compat deg sealFail : Bool) (vs : List TermVerdict) : Bytes :=
  let b := v.value.getD []
  let ret := blkReturnValue k.block
  let out := if !ret || (sealFail && compat) then [] else b.take (blkValueCap k.block)
  let flags := b2n deg + 2 * b2n (ret && decide (out.length < b.length)) + 4 * b2n (ret && sealFail)
  recordBytes 1 flags v.key.length v.csn
    (toLe 8 b.length ++ toLe 4 out.length ++ toLe 1 vs.length ++ zeros 3 ++ vs.flatMap verdictBytes ++ v.key ++ out)

/-- The outcome of a fixity audit of one version: the first of DIGEST_MISMATCH, SEAL_FAIL and NO_DIGEST that applies
(12 R477). -/
def auditOutcome (v : Version) (computed : Bytes) (sealFail : Bool) : Nat :=
  if v.digest.isSome && v.digest != some computed then 1 else if sealFail then 3 else if v.digest.isNone then 2 else 0

/-- A FIXITY record (12 Table 12.6). -/
def fixityRecord (v : Version) (outcome : Nat) (computed : Bytes) (deg : Bool) : Bytes :=
  recordBytes 3 (b2n deg) v.key.length v.csn
    (toLe 1 outcome ++ zeros 7 ++ fit 32 (v.digest.getD []) ++ fit 32 computed ++ v.key)

/-- A SELFTEST record (12 Table 12.6). -/
def selfTestRecord (unit test outcome count detail : Nat) : Bytes :=
  recordBytes 4 0 0 0 (toLe 1 unit ++ toLe 1 test ++ toLe 1 outcome ++ zeros 1 ++ toLe 4 count ++ toLe 8 detail)

/-- One more version examined, `hit` of them reported. -/
def Comet.examined (key : Bytes) (deg hit : Bool) (k : Comet) : Comet :=
  { k with unitsDone := k.unitsDone + 1, seen := k.seen ++ [key], degraded := k.degraded || deg,
           hits := k.hits + b2n hit, creditWait := false }

/-- No version waits for the peer any more. -/
def Comet.dropRetry (key : Bytes) (csn : Nat) (k : Comet) : Comet :=
  let rest := k.retries.filter fun r => !(r.1 == key && r.2.1 == csn)
  { k with retries := rest, peerWait := !rest.isEmpty }

/-- The end of PEER_WAIT is shown at once (12 R467); `k` is the comet as it was before. -/
def State.peerShown (s : State) (k : Comet) : State :=
  if k.peerWait && !(((s.comet? k.num).map (·.peerWait)).getD true) then s.writeStatus k.num else s

/-- A version that a comet cannot examine gets an UNREADABLE record; it counts as a hit of an audit (12 R474, R477, Table 12.4). A
part newly found lost is noted (05 R205). -/
def State.notExamined (s : State) (k : Comet) (v : Version) (deg : Bool) (lost : Option (Nat × Nat)) (keyLost : Bool)
    (w : HostWrite) : State :=
  let s1 := match lost with
    | some p => if s.unreadableTo k v then s else s.markLost v p
    | none => s
  (s1.addRecord k (unreadableRecord v deg (keyLost || s.keyGone v)) w fun k =>
    (k.examined v.key deg (k.kind == .audit)).dropRetry v.key v.csn).peerShown k

/-- What a comet does with one visible version that it could read (12 R474, R475, R477). -/
def State.examine (s : State) (k : Comet) (v : Version) (deg sealFail : Bool) (computed : Option Bytes) (w : HostWrite) : State :=
  let compat := ((s.namespace? k.nsid).map (·.compat)).getD false
  let bad := (sealFail || v.badSeal) && v.suite == 2
  if k.kind == .audit then
    let dg := computed.getD (sha256 (v.value.getD []))
    let o := auditOutcome v dg bad
    if o == 0 && !blkReportAll k.block then s.modComet k.num (·.examined v.key deg false)
    else (if bad then s.sealFailed v else s).addRecord k (fixityRecord v o dg deg) w (·.examined v.key deg (o != 0))
  else
    let m := blkMatch k.block
    let vs := allVerdicts (s.progOf k) m v.key (v.value.getD [])
    let shown := bad && blkReturnValue k.block
    if matchTrue m vs then
      (if shown then s.sealFailed v else s).addRecord k (matchRecord k v compat deg shown vs) w (·.examined v.key deg true)
    else s.modComet k.num (·.examined v.key deg false)

/-- Pattern engines whose known-answer run fails leave service (16 Table 16.1, Table 16.4, Table 16.7; 12 Table 12.11). -/
def State.patternFault (s : State) (unit test count : Nat) : State :=
  let out := ((s.media.moons[unit]?).map (·.patternOut)).getD count
  if test != 3 || count ≤ out then s
  else ((s.modMoon unit fun m => { m with patternOut := count }).setWarning 5 true).logEvent 0x0408 unit 0
    [(0, toLe 1 1), (2, toLe 2 count)]

/-- A sweep of a moon has read every programmed page 16 times: 24,576 reads for a QLC block (12 R481, 09 R369). -/
def State.sweepReads (s : State) (moon : Nat) : State :=
  let mine := ((s.media.bands.flatMap (·.blocks)).filter (·.moon == moon)).map s.block
  (mine.filter (·.inService)).foldl (fun s b => s.setBlock { b with reads := b.reads + 24576 }) s

/-- A moon that a self-test takes: of those in service the ones of UNIT_MASK, which selects every one when it is 0 (12 Table
12.2, R479). -/
def State.testsMoon (s : State) (k : Comet) (m : Nat) : Bool :=
  let mask := byteAt k.block 64
  ((s.media.moons[m]?).map (·.inService)).getD false && (mask == 0 || (decide (m < 8) && bitOf mask m))

/-- What a self-test's record of a unit and test is known by. -/
def testMark (unit test : Nat) : Bytes := toLe 1 unit ++ toLe 1 test

/-- A self-test makes a test of a unit, once: a test of its subtype (12 Table 12.11) on a unit of Table 12.6 (R479, R480). -/
def State.selfTests (s : State) (k : Comet) (unit test : Nat) : Bool :=
  decide (testMark unit test ∉ k.seen) &&
    if k.kind == .extTest then test == 0x10 && s.testsMoon k unit
    else k.kind == .shortTest && decide (1 ≤ test) && decide (test ≤ 8) &&
      (s.testsMoon k unit || decide (unit ∈ [0x10, 0x11, 0x20, 0x21, 0x22]))

/-- One result of a comet. -/
def State.resultOf (s : State) (k : Comet) (r : ResultBody) (w : HostWrite) : State :=
  match r with
  | .version key deg lost keyLost sealFail computed =>
    if !k.kind.hasSnapshot || decide (key ∈ k.seen) then s
    else match (s.visibleTo k.nsid k.snapshot k.low k.high).find? (·.key == key) with
      | none => s
      | some v =>
        let rebuilt := deg || s.rangeOut v 0 (k.span v)
        if lost.isSome || keyLost || s.unreadableTo k v then s.notExamined k v rebuilt lost keyLost w
        else if k.kind == .export_ then s
        else s.examine k v rebuilt sealFail computed w
  | .selfTest unit test outcome count detail =>
    let entry := selfTestRecord unit test outcome count detail
    if !s.selfTests k unit test then s
    else if k.kind == .extTest then
      (s.sweepReads unit).addRecord k entry w fun k =>
        { k with hits := k.hits + count, seen := k.seen ++ [testMark unit test], creditWait := false }
    else
      (s.patternFault unit test count).addRecord k entry w fun k =>
        { k with unitsDone := k.unitsDone + 1, hits := k.hits + b2n (outcome != 0), seen := k.seen ++ [testMark unit test],
                 creditWait := false }

/-! ### Progress, credit, end -/

/-- The pages an extended self-test has read since its last update: a free value, for its pace is not stated but in bounds
(12 R481, Table 12.4). -/
def State.sweepPace (s : State) (k : Comet) : State :=
  if k.kind == .extTest then
    s.draw.modComet k.num fun k => { k with unitsDone := k.unitsDone + (Config.pagesSwept s.fresh).toNat }
  else s

/-- COMET_PROGRESS_UPDATE (12 R466, R467): one status block update of a running comet. -/
def execCometProgressUpdate (num : Nat) (w : HostWrite) (s : State) : Result :=
  .next (match s.comet? num with
    | some k =>
      if !k.isRunning then s
      else
        let s1 := (s.sweepPace k).submitExport num
        match w with
        | .acked => s1.writeStatus num
        | .accessError => if s.isOrphan k.sid then s1.writeStatus num else s1.cometAccess k
    | none => s)

/-- The credit word as read: inconsistent ends the comet (12 R472), an advance ends CREDIT_WAIT (R471). -/
def State.creditRead (s : State) (k : Comet) (consumed : Nat) : State :=
  if k.bytes < consumed || consumed < k.consumed then s.endComet k.num .aborted 0x0B 0 false
  else if k.consumed < consumed && k.creditWait then
    (s.modComet k.num fun k => { k with consumed := consumed, creditWait := false }).writeStatus k.num
  else s.modComet k.num fun k => { k with consumed := consumed }

/-- CREDIT_REREAD (12 R471): the credit word is read again. -/
def execCreditReread (num : Nat) (r : HostRead) (s : State) : Result :=
  .next (match s.comet? num with
    | some k =>
      if !k.isRunning || s.isOrphan k.sid || k.kind == .rebuild then s
      else
        let s1 := s.emit (.read k.sid (u32At k.block 12) (u64At k.block 24) 8)
        match r with
        | .accessError => (s1.modComet k.num fun k => { k with bytes := k.shown }).cometAccess k
        | .data bs => s1.creditRead k (u64At bs 0)
    | none => s)

/-- A comet has examined every version visible to it, all of them being durable (06 R263, R264); an extended self-test has the
record of every moon it takes (12 R481). -/
def State.allDone (s : State) (k : Comet) : Bool :=
  if !k.kind.hasSnapshot then
    k.kind != .extTest || (List.range 8).all fun m => !s.testsMoon k m || decide (testMark m 0x10 ∈ k.seen)
  else
    (s.settled k.snapshot && (s.visibleTo k.nsid k.snapshot k.low k.high).all fun v => decide (v.key ∈ k.seen))

/-- COMET_END (12 R486): the natural end of a comet, its final write DONE. -/
def execCometEnd (num : Nat) (s : State) : Result :=
  .next (match s.comet? num with
    | some k =>
      if k.isRunning && k.kind != .rebuild && s.allDone k && !k.creditWait then s.endComet num .done 0 0 false else s
    | none => s)

/-! ### Export (12 R482, R483) -/

/-- An EXPORT record (12 Table 12.6). -/
def exportRecord (deg : Bool) (v : Version) (status : Nat) (mismatch skipped : Bool) (peerCsn : Nat) : Bytes :=
  recordBytes 5 (b2n deg) v.key.length v.csn
    (toLe 2 status ++ toLe 1 (b2n mismatch + 2 * b2n skipped) ++ zeros 5 ++ toLe 8 peerCsn ++ v.key)

/-- The EXPORT record of a comet for a version that it sent (12 Table 12.5, Table 12.6). -/
def Comet.exportRec (k : Comet) (v : Version) (status : Nat) (mismatch skipped : Bool) (peerCsn : Nat) : Bytes :=
  exportRecord (decide (v.key ∈ k.rebuilt)) v status mismatch skipped peerCsn

/-- The outcome of one exported version is final: counted, with its EXPORT record when `record` says so. -/
def State.exported (s : State) (k : Comet) (v : Version) (record : Bool) (rec : Bytes) (hit : Bool) : State :=
  let fin := fun (k : Comet) => (k.examined v.key false hit).dropRetry v.key v.csn
  (if record then s.addRecord k rec .acked fin else s.modComet k.num fin).peerShown k

/-- What an export does with a peer's outcome (12 Table 12.12). PEER_CSN of a record is 0 where the peer assigned no CSN, for
which Table 12.6 has no value (DESIGN CHOICE, notes/assumptions/65.md). -/
def State.peerOutcome (s : State) (k : Comet) (v : Version) (o : PeerOutcome) : State :=
  let st := o.status
  if st == 0 then
    s.exported k v (!o.digestEqual || blkReportAll k.block) (k.exportRec v 0 (!o.digestEqual) false o.peerCsn) o.digestEqual
  else if st == 0x0102 && blkIfAbsent k.block then s.exported k v true (k.exportRec v st false true 0) false
  else if st / 256 == 6 then
    let s1 := s.modComet k.num fun k => { k with
      retries := k.retries.filter (fun r => !(r.1 == v.key && r.2.1 == v.csn)) ++ [(v.key, v.csn, st)],
      peerWait := true }
    if k.peerWait then s1 else s1.writeStatus k.num
  else if st == 0x0301 && o.redirectPair && !k.reopened then
    ((s.emit (.peerReopen k.num)).sendVersion k v).modComet k.num fun k => { k with reopened := true }
  else s.exported k v true (k.exportRec v st false false 0) false

/-- The version of an export by key and CSN, not yet finished. -/
def State.exportVersion (s : State) (k : Comet) (key : Bytes) (csn : Nat) : Option Version :=
  if key ∈ k.seen then none
  else (s.visibleTo k.nsid k.snapshot k.low k.high).find? fun v => v.key == key && v.csn == csn

/-- EXPORT_PEER_COMPLETION (12 R483). -/
def execExportPeerCompletion (num : Nat) (key : Bytes) (csn : Nat) (o : PeerOutcome) (s : State) : Result :=
  .next (match s.comet? num with
    | some k =>
      if k.kind == .export_ && s.mayRead k then
        match s.exportVersion k key csn with
        | some v => s.peerOutcome k v o
        | none => s
      else s
    | none => s)

/-- EXPORT_RETRY (12 R483): a version is submitted again, or after 30 s of retries reported. -/
def execExportRetry (num : Nat) (key : Bytes) (csn : Nat) (afterThirtySeconds : Bool) (s : State) : Result :=
  .next (match s.comet? num with
    | some k =>
      match k.retries.find? (fun r => r.1 == key && r.2.1 == csn), s.exportVersion k key csn with
      | some r, some v =>
        if !s.mayRead k || (!afterThirtySeconds && s.tooHot k v) then s
        else if afterThirtySeconds then s.exported k v true (k.exportRec v r.2.2 false false 0) false
        else s.sendVersion k v
      | _, _ => s
    | none => s)

/-- EXPORT_PEER_TIMEOUT (12 R483): no peer connection for 10 s, or the peer refused the login. -/
def execExportPeerTimeout (num : Nat) (loginStatus : Option Nat) (s : State) : Result :=
  .next (match s.comet? num with
    | some k =>
      if k.kind != .export_ then s
      else match loginStatus with
        | some st => s.endComet num .aborted 0x0A st false
        | none => s.endComet num .aborted 0x09 0 false
    | none => s)

/-! ### Pins (06 R266, R269) -/

/-- PIN_EXPIRE: the lifetime of a pin expires; a resynchronisation that used it begins again (06 R265, 15 R583). -/
def execPinExpire (csn : Nat) (s : State) : Result :=
  .next (if !s.pinned csn then s
    else if s.resyncUses csn then (s.endPin csn).restartResync
    else s.endPin csn)

/-- PIN_LINGER_EXPIRE: the linger has passed since the last comet using a pin ended; a resynchronisation uses its pin as a
comet does (06 R265). -/
def execPinLingerExpire (csn : Nat) (s : State) : Result :=
  .next (if s.pinned csn && !s.resyncUses csn && !s.comets.list.any fun k => k.isRunning && k.pinned && k.snapshot == csn
    then s.endPin csn else s)

end Sys2Proof.Machine
end

