-- ==== Sys2Proof/Machine/RingOps.lean ====
section
/-! DEFINITION. Polling and fetching (03 R115 to R130; 04 R184 steps 1 to 7): Doorbell Records, descriptor fetch, idle
markers, and what stops fetching as a whole. -/

namespace Sys2Proof.Machine

/-! ### When the module fetches -/

/-- The module fetches descriptors: start-up is over, and no shutdown and no power loss is in progress (02 R76, R79, 07
R308). -/
def State.fetching (s : State) : Bool :=
  s.power.step == 12 && s.power.shutdown.isNone && !s.power.shutDone && decide (s.feeds.loss = .none)

/-! ### Doorbell Records (03 R120 to R126) -/

/-- The upper word of a Doorbell Record (03 R120, R121). -/
def idleMarker (sid : Nat) (r : Ring) (idle : Bool) : Output :=
  .write sid r.rkey (r.dbAddr + 4) (toLe 4 (r.idleSeq.toNat + b2n idle * 2 ^ 31))

/-- Descriptors posted and not fetched. -/
def Ring.backlog (r : Ring) : Nat := (r.producer - r.fetch).toNat

/-! ### Fetching a descriptor -/

/-- OP bytes of the ADM_ commands that have one; any other value completes ST_DENIED 0x0007 (R59, R60, R501, R504,
R534, R558, R591, R616). -/
def opByteOk (d : Bytes) : Bool :=
  let o := byteAt d 8
  match dOpcode d with
  | 0x4C => decide (1 ≤ o) && decide (o ≤ 7)
  | 0x4D => decide (1 ≤ o) && decide (o ≤ 3)
  | 0x4E => decide (1 ≤ o) && decide (o ≤ 4)
  | 0x50 => decide (1 ≤ o) && decide (o ≤ 6)
  | 0x51 => o == 1 || o == 2
  | 0x55 => decide (1 ≤ o) && decide (o ≤ 5)
  | 0x56 => (decide (1 ≤ o) && decide (o ≤ 4)) || o == 0x10 || o == 0x11
  | 0x59 => o == 1 || o == 2
  | _ => true

/-- The held descriptor of a fetch (06 R273); a comet's admission notes the highest CSN committed (06 R263). -/
def State.heldDescriptor (s : State) (sid : Nat) (r : Ring) (d : Bytes) : Cmd :=
  let parts := if opAdmin (dOpcode d) || needsAreas d then [] else (partOf d (.data []) (.data []) (.data [])).toList
  { ref := s.cmds.nextRef, sid := sid, ring := r.idx, count := r.fetch, desc := d, fetched := s.time.now,
    acc := s.seq.committed, parts := parts }

/-- The commands before it in its ring have not all reached their commit points, and FENCE holds it (06 R255); on an
ORDERED ring FENCE has no further effect (R260). -/
def State.mustFence (s : State) (c : Cmd) : Bool :=
  fFence (dFlags c.desc) && !s.isOrdered c && !(s.earlier c).all (·.atCommitPoint)

/-- Steps 1 to 7 of 04 R184 on a fetched command, then its first wait. -/
def State.admitFetched (s : State) (c : Cmd) : State :=
  if !opKnown (dOpcode c.desc) then s.modCmd c.ref fun c => { c with phase := .unknown }
  else match s.session? c.sid with
    | none => s
    | some x => match s.earlyCheck x c.ring c.desc with
      | some k => s.finish c.ref k
      | none =>
        if !opByteOk c.desc then s.finish c.ref (Comp.denied 7)
        else if s.mustFence c then s.modCmd c.ref fun c => { c with phase := .fenced }
        else if needsAreas c.desc then
          (s.modCmd c.ref fun c => { c with phase := .areas }).emitAll (areaReads c.sid c.desc)
        else s

/-- The keys and ranges of a decision record (06 R244), as the parts that order completions (06 R252). -/
def decisionParts (k : DecisionRecord) : List Part :=
  k.keys.map fun x => { op := if x.2.2.isEmpty then opDelete else opDeleteRange, nsid := x.1, key := x.2.1, endKey := x.2.2 }

/-- A descriptor that the old primary of the pair decided is fetched again: its mutation stands under the CSN of its
decision record and completes with that outcome (15 R575), in the order of the CSNs with the others of its keys (06 R254); a
role swap completes ST_OK (R581). -/
def State.adoptDecision (s : State) (ref : Nat) (k : DecisionRecord) : State :=
  if k.csn = 0 then s.finish ref (Comp.okResult k.result)
  else
    let digest := (s.kv.versions.find? (·.csn == k.csn)).bind (·.digest)
    let charges := mapWhere (·.csn == k.csn) (fun q => { q with ref := ref }) s.seq.charges
    let s1 : State := { s with seq := { s.seq with charges := charges } }
    s1.modCmd ref fun c => { c with
      phase := .committed, csn := k.csn, keys := k.result, parts := decisionParts k, order := k.csn, locked := true, partner := true,
      digest := digest, extents := (charges.filter (·.csn == k.csn)).flatMap (·.extents),
      progd := !s.seq.charges.any (·.csn == k.csn) }

/-- One descriptor is fetched (03 R118; 06 R273). -/
def State.fetchOne (s : State) (sid ring : Nat) (d : Bytes) : State :=
  match s.ring? sid ring with
  | none => s
  | some r =>
    let c := s.heldDescriptor sid r (fit 64 d)
    let s1 := s.modRing sid ring fun r => { r with fetch := r.fetch + 1 }
    let s2 : State := { s1 with cmds := { s1.cmds with list := s1.cmds.list ++ [c], nextRef := s1.cmds.nextRef + 1 } }
    match r.decided.find? (·.count == r.fetch.toNat) with
    | some k => s2.adoptDecision c.ref k
    | none => s2.admitFetched c

/-! ### The order and the limits of fetching (03 R118, R153; 01 R39) -/

/-- Commands in flight are at their limits: fetching pauses (03 R153, R154). -/
def State.fetchPaused (s : State) (sid : Nat) : Bool :=
  decide (1048576 ≤ s.cmds.list.length) || decide (65536 ≤ (s.cmds.list.filter (·.sid == sid)).length)

/-- The ingest buffer of a Front (01 Table 1.8). -/
def ingestBuffer : Nat := 16 * 2 ^ 30

/-- Bytes of a part's value that the ingest buffer holds or awaits (01 R39): those that both moons of their extents have
not reported staged. -/
def Cmd.ingest (c : Cmd) (i : Nat) (p : Part) : Nat :=
  if opHasValue p.op || p.op == opObjSeal then p.len - sumNat ((c.extents.filter fun e => e.part == i && e.staged).map (·.len)) else 0

/-- Bytes of a command in the ingest buffer. -/
def Cmd.ingestAll (c : Cmd) : Nat :=
  if c.progd || c.phase == .finished then 0
  else sumNat (((List.range c.parts.length).zip c.parts).map fun p => c.ingest p.1 p.2)

/-- Bytes that an object session has received and that both moons of their extents have not reported staged; from the turn of
its seal on, the seal holds them. -/
def State.objectIngest (s : State) (o : ObjSession) : Nat :=
  if s.sealing o.handle then 0 else o.bytes.length - sumNat ((o.extents.filter (·.staged)).map (·.len))

/-- Bytes in the ingest buffer of a Front, those of its object sessions among them (01 R39). -/
def State.ingestOf (s : State) (f : Front) : Nat :=
  let mine := fun (sid : Nat) => ((s.session? sid).map (·.front)) == some f
  sumNat (s.cmds.list.map fun c => if mine c.sid then c.ingestAll else 0) +
    sumNat (s.kv.objects.map fun o => if mine o.sid then s.objectIngest o else 0)

/-- Bytes that a descriptor brings into the ingest buffer; the values of a batch are known once its array is read, and
67,108,864 bound them (04 R168). -/
def valueBytes (d : Bytes) : Nat :=
  if opHasValue (dOpcode d) then dValueLen d else if dOpcode d == opBatch then 67108864 else 0

/-- The module may take a descriptor that it has read: no limit is reached (03 R153), and a value finds room in the
ingest buffer of the session Front (01 R39). -/
def State.mayTake (s : State) (sid : Nat) (d : Bytes) : Bool :=
  !s.fetchPaused sid && (valueBytes d == 0 || match s.session? sid with
    | some x => decide (s.ingestOf x.front + valueBytes d ≤ ingestBuffer)
    | none => false)

/-- How many descriptors the next RDMA READ covers: at most 16, not across the end of the ring (03 R118). -/
def fetchCount (r : Ring) : Nat := min (min r.backlog 16) (2 ^ r.sqLog2 - r.fetch.toNat % 2 ^ r.sqLog2)

/-- The RDMA READ of the next descriptors (03 R118). -/
def fetchRead (sid : Nat) (r : Ring) : Output :=
  .read sid r.rkey (r.sqBase + 64 * (r.fetch.toNat % 2 ^ r.sqLog2)) (64 * fetchCount r)

/-- A ring with descriptors to read: it is ACTIVE, the module fetches, and every descriptor read so far has been taken
(03 R118: each is read once, in count order). -/
def State.wantsFetch (s : State) (sid : Nat) (r : Ring) : Bool :=
  decide (r.st = .active) && s.polls sid && s.fetching && r.asked == 0 && r.ahead.isEmpty && r.backlog != 0

/-- A ring waits for the end of a pause, behind those that wait already (03 R153). -/
def State.awaitFetch (s : State) (sid ring : Nat) : State :=
  if (sid, ring) ∈ s.sess.waits then s else { s with sess := { s.sess with waits := s.sess.waits ++ [(sid, ring)] } }

/-- Issues the READ of a ring's next descriptors; while fetching is paused the ring waits (03 R118, R153). -/
def State.askFetch (s : State) (sid ring : Nat) : State :=
  match s.ring? sid ring with
  | none => s
  | some r =>
    if !s.wantsFetch sid r then s
    else if s.fetchPaused sid then s.awaitFetch sid ring
    else (s.emit (fetchRead sid r)).modRing sid ring fun r => { r with asked := fetchCount r }

/-- Takes the descriptors of a ring that have been read, in count order, as long as it may; `fuel` bounds their
number (03 R118, R153, 01 R39). After a takeover those that have a completion record are passed over (15 R575). -/
def State.takeAhead : Nat → Nat → Nat → State → State
  | 0, _, _, s => s
  | fuel + 1, sid, ring, s =>
    match s.ring? sid ring with
    | none => s
    | some r => match r.ahead with
      | [] => s
      | d :: rest =>
        if r.fetch.toNat ∈ r.finished then
          State.takeAhead fuel sid ring (s.modRing sid ring fun r =>
            { r with ahead := rest, fetch := r.fetch + 1, finished := r.finished.filter (· != r.fetch.toNat) })
        else if r.st = .active && s.polls sid && s.mayTake sid d then
          State.takeAhead fuel sid ring ((s.modRing sid ring fun r => { r with ahead := rest }).fetchOne sid ring d)
        else s

/-- One ring goes on as far as the limits allow: what has been read is taken, then the next descriptors are read. With
descriptors left that it may not take yet it waits on (03 R153, 01 R39). -/
def State.serveRing (s : State) (sid ring : Nat) : State :=
  let s1 := (State.takeAhead 16 sid ring s).askFetch sid ring
  match s1.ring? sid ring with
  | some r => if r.ahead.isEmpty then s1 else s1.awaitFetch sid ring
  | none => s1

/-- The rings that wait go on, the longest-waiting first; those that still wait keep their order (03 R153, R154). -/
def State.serveWaits (s : State) : State :=
  let s1 : State := { s with sess := { s.sess with waits := [] } }
  s.sess.waits.foldl (fun s e => s.serveRing e.1 e.2) s1

/-- Fetching of a ring goes on, behind the rings that have waited longer (03 R153). -/
def State.goOnFetching (s : State) (sid ring : Nat) : State := (s.awaitFetch sid ring).serveWaits

/-- A producer index is read: too far ahead moves the ring to FAULTED (03 R119); else the descriptors are read. -/
def State.sawProducer (s : State) (sid : Nat) (r : Ring) (p : BitVec 32) : State :=
  if 2 ^ r.sqLog2 < (p - r.fetch).toNat then
    s.modRing sid r.idx fun r => { r with producer := p, st := .faulted, asked := 0, ahead := [], reread := false }
  else
    let s1 := s.modRing sid r.idx fun r => { r with producer := p }
    if s1.fetching then s1.goOnFetching sid r.idx else s1

/-! ### Going idle and coming back (03 R124 to R126) -/

/-- An IDLE ring that shows a producer advance goes ACTIVE with IDLE = 0 (03 R126, R128). -/
def State.leaveIdle (s : State) (sid : Nat) (r : Ring) (p : BitVec 32) : State :=
  if r.st = .idle && p != r.fetch then
    ((s.modRing sid r.idx fun r => { r with st := .active }).emit (idleMarker sid r false)).sawProducer sid
      { r with st := .active } p
  else s

/-- The first two steps of going idle: IDLE = 1 with IDLE_SEQ incremented, and one more read (03 R124). -/
def State.markIdle (s : State) (sid : Nat) (r : Ring) : State :=
  let r1 := { r with idleSeq := r.idleSeq + 1 }
  (s.modRing sid r.idx fun r => { r with idleSeq := r.idleSeq + 1, reread := true }).emitAll
    [idleMarker sid r1 true, readDoorbell sid r]

/-- The last two steps of going idle, once the re-read has returned `p`: a producer that differs from what the module has
fetched to keeps the ring ACTIVE with IDLE = 0, else the ring is IDLE (03 R124). The work found wakes the module (02
R73, R75). -/
def State.rereadDone (s : State) (sid ring : Nat) (p : BitVec 32) : State :=
  match s.ring? sid ring with
  | none => s
  | some r =>
    let s1 := s.modRing sid ring fun r => { r with reread := false }
    if p != r.fetch then (s1.emit (idleMarker sid r false)).wake.sawProducer sid r p
    else s1.modRing sid ring fun r => { r with st := .idle }

/-- Before entry into P2 the module stops polling every ring and writes its idle marker (02 R72, 03 R124); the answer to
the re-read of each comes by DOORBELL_READ_RESPONSE. -/
def State.idleAll (s : State) : State :=
  s.sess.sessions.foldl (fun s x =>
    if x.cls = .orphan then s
    else x.rings.foldl (fun s r => if r.st = .active then s.markIdle x.sid r else s) s) s

end Sys2Proof.Machine
end

