-- ==== Sys2Proof/Machine/Records.lean ====
section
/-! DEFINITION. Records the module writes out: trouble-log entries (16 Table 16.5), the health record (16 Table 16.8)
and the predictions in it (16 R617, R618). -/

namespace Sys2Proof.Machine

/-- The 64 bytes of a trouble-log entry (16 Table 16.5). -/
def logBytes (e : LogEntry) : Bytes :=
  toLe 8 e.seq ++ toLe 8 e.time ++ toLe 8 e.csn ++ toLe 2 e.code ++ toLe 1 (e.severity + 4 * b2n e.unsync) ++ toLe 1 e.unit ++
  toLe 2 e.index ++ toLe 2 e.rep ++ fit 32 e.data

/-! ### Predictions (16 R617, R618) -/

/-- End-of-life threshold of a monitor, in the scale of its samples, and whether values rise towards it (Table 16.9). -/
def eolThreshold : Nat → Int
  | 0 => 10000
  | 1 => 0
  | 2 => 2858
  | 3 => 2500
  | _ => 500

def eolRising (monitor : Nat) : Bool := monitor == 0 || monitor == 4

/-- What a monitor reports of one unit. -/
structure Prediction where
  days  : Option Nat := none
  conf  : Nat := 0
  state : Nat := 0
  value : Int := 0
  deriving DecidableEq, Repr

/-- The sums of a least-squares fit over days and values. -/
structure Fit where
  n   : Int := 0
  sx  : Int := 0
  sy  : Int := 0
  sxx : Int := 0
  sxy : Int := 0
  syy : Int := 0
  deriving DecidableEq, Repr

def Fit.add (f : Fit) (p : Nat × Int) : Fit :=
  { n := f.n + 1, sx := f.sx + p.1, sy := f.sy + p.2, sxx := f.sxx + p.1 * p.1, sxy := f.sxy + p.1 * p.2,
    syy := f.syy + p.2 * p.2 }

/-- n times the sums of squares and products about the means. -/
def Fit.dxx (f : Fit) : Int := f.n * f.sxx - f.sx * f.sx
def Fit.dxy (f : Fit) : Int := f.n * f.sxy - f.sx * f.sy
def Fit.dyy (f : Fit) : Int := f.n * f.syy - f.sy * f.sy

/-- The fitted value on a day, times n dxx. -/
def Fit.atDay (f : Fit) (today : Nat) : Int := f.sy * f.dxx + f.dxy * (f.n * today - f.sx)

/-- CONFIDENCE: floor(100 (1 - min(1, sd(b) / |b|))). The least k with k |b| at or above 100 sd(b) is taken from 100. -/
def Fit.confidence (f : Fit) : Nat :=
  if f.dxy = 0 then (Config.flatConfidence f.n.toNat).toNat
  else
    let enough := fun (k : Nat) => decide (10000 * (f.dyy * f.dxx - f.dxy * f.dxy) ≤ (k * k : Int) * (f.n - 2) * (f.dxy * f.dxy))
    100 - ((List.range 101).find? enough).getD 100

/-- STATE of a prediction of `d` days (16 R618). -/
def eolState (d : Nat) : Nat := if d ≤ 365 then 3 else if d ≤ 1096 then 2 else 1

/-- The prediction of a unit from its samples (16 R618); `today` is the day of the latest sample. A unit whose latest
sample or whose fitted value is at or beyond its threshold has reached it. -/
def predict (m : Monitor) (today : Nat) : Prediction :=
  let t := eolThreshold m.monitor
  let last := (m.samples.getLast?.map (·.2)).getD 0
  let beyond := !m.samples.isEmpty && (if eolRising m.monitor then decide (t ≤ last) else decide (last ≤ t))
  let f := (m.samples.filter fun p => decide (today < p.1 + 90)).foldl Fit.add {}
  if beyond then { days := some 0, conf := 100, state := 3, value := last }
  else if f.n < 7 || f.dxx = 0 then { value := last }
  else
    let q := f.n * f.dxx
    let y := f.atDay today
    let margin := t * q - y
    let value := y / q
    if (if eolRising m.monitor then decide (margin ≤ 0) else decide (0 ≤ margin)) then
      { days := some 0, conf := 100, state := 3, value := value }
    else if margin * f.dxy ≤ 0 then { conf := f.confidence, state := 1, value := value }
    else
      let d := (margin / (f.n * f.dxy)).toNat
      if 36525 < d then { conf := f.confidence, state := 1, value := value }
      else { days := some d, conf := f.confidence, state := eolState d, value := value }

/-- The unit a monitor reports: the one whose end of life comes first (16 R617). -/
def earliest (today : Nat) : List Monitor → Option (Monitor × Prediction)
  | [] => none
  | m :: ms =>
    let p := predict m today
    match earliest today ms with
    | none => some (m, p)
    | some (m', p') => match p.days, p'.days with
      | some d, some d' => if d ≤ d' then some (m, p) else some (m', p')
      | some _, none => some (m, p)
      | none, some _ => some (m', p')
      | none, none => some (m, p)

def State.reported (s : State) (monitor : Nat) : Option (Monitor × Prediction) :=
  earliest s.health.days (s.health.monitors.filter (·.monitor == monitor))

/-- A monitor's prediction is within three years (16 Table 16.4). -/
def State.endNear (s : State) : Bool := (List.range 5).any fun n => match s.reported n with
  | some (_, p) => decide (2 ≤ p.state)
  | none => false

/-- A 12-byte MONITOR entry (16 Table 16.8). -/
def State.monitorBytes (s : State) (monitor : Nat) : Bytes := match s.reported monitor with
  | none => toLe 4 0xFFFFFFFF ++ zeros 8
  | some (m, p) =>
    toLe 4 (p.days.getD 0xFFFFFFFF) ++ toLe 1 p.conf ++ toLe 1 p.state ++ toLe 1 m.unit ++ zeros 1 ++ toLe 2 m.idx ++
    toLe 2 (signed16 p.value)

/-! ### The health record (16 Table 16.8) -/

/-- A rebuild comet runs for a moon. -/
def State.rebuildOf (s : State) (moon : Nat) : Option Comet :=
  s.comets.list.find? fun k => k.isRunning && k.kind == .rebuild && k.moon == moon

/-- Progress of a comet in percent. -/
def Comet.percent (k : Comet) : Nat := if k.unitsTotal = 0 then 0 else min 100 (100 * k.unitsDone / k.unitsTotal)

/-- Findings of a moon in the last 30 days of die clock (18 Table 18.10). -/
def State.findings (s : State) (moon : Nat) : Nat := match s.media.moons[moon]? with
  | some m => (m.findings.filter fun f => decide (s.dieClock moon f.1 < f.2 + 2592000000)).length
  | none => 0

/-- The 16-byte MOON entry of the health record. -/
def State.moonBytes (s : State) (moon : Nat) : Bytes :=
  let m := s.media.moons.getD moon {}
  toLe 2 (s.meanWear moon) ++ toLe 2 (s.maxWear moon) ++ toLe 1 m.reserve ++ toLe 1 m.diesLost.length ++
  toLe 1 m.chansLost.length ++ toLe 1 m.enginesOut ++ toLe 2 (s.findings moon) ++ toLe 2 (signed16 m.maxTemp) ++
  toLe 1 (((s.rebuildOf moon).map (·.percent)).getD 0) ++ toLe 1 (b2n m.degraded + 2 * b2n m.inService) ++ zeros 2

/-- A list of bits as a number, the first lowest. -/
def bitMask : List Bool → Nat
  | [] => 0
  | b :: bs => b2n b + 2 * bitMask bs

def State.moonMask (s : State) : Nat := bitMask (s.media.moons.map (·.inService))
def State.frontMask (s : State) : Nat := bitMask (s.media.fronts.map (·.inService))

/-- Versions that read ST_MEDIA_UNRECOVERED (16 Table 16.8). -/
def State.unrecovered (s : State) : Nat :=
  (s.kv.versions.filter fun v => v.lost || v.metaLost || !v.lostParts.isEmpty).length

/-- The running rebuild comet (16 Table 16.8, 18 Table 18.10). -/
def State.rebuild (s : State) : Option Comet := s.comets.list.find? fun k => k.isRunning && k.kind == .rebuild

/-- WARMING, ATTN and WRITE_THROUGH as three bits (16 Table 16.8, byte 3). -/
def State.healthBits (s : State) : Nat := b2n s.mode.warming + 2 * b2n s.attnAsserted + 4 * b2n (s.win.window == 0)

/-- The 320-byte health record (16 Table 16.8). -/
def State.healthRecord (s : State) (nsid : Nat) : Bytes :=
  toLe 2 1 ++ toLe 1 (modeCode s.mode.mode) ++ toLe 1 s.healthBits ++ toLe 4 s.attn.warnings.toNat ++ toLe 4 s.attn.causes.toNat ++
  toLe 4 (pstateCode s.power.pstate) ++ toLe 8 s.time.now ++ toLe 8 s.win.window ++ toLe 8 s.occupancy ++ toLe 4 s.win.energy ++
  toLe 1 (bitMask (s.win.strings.map (·.inService))) ++ toLe 1 s.moduleReserve ++ toLe 1 s.moonMask ++ toLe 1 s.frontMask ++
  toLe 8 s.unrecovered ++ toLe 8 (((s.namespace? nsid).map (·.sealFails)).getD 0) ++
  (List.range 8).flatMap s.moonBytes ++ (List.range 5).flatMap s.monitorBytes ++ zeros 4 ++
  s.asu.repairs.flatMap (toLe 4) ++ toLe 8 ((s.rebuild.map (·.num)).getD 0) ++ toLe 8 (s.attn.nextSeq - 1) ++ zeros 32

end Sys2Proof.Machine
end

