-- ==== Sys2Proof/Machine/TagMem.lean ====
section
/-! DEFINITION. The memory of the shelf tag (19 R686, Table 19.7) in its canonical form, the records the module keeps in
it (Table 19.8 to Table 19.10, R687), and the wired side's queue of block writes (R688, R691). -/

namespace Sys2Proof.Machine

/-! ### Byte memory in canonical form -/

/-- Bytes of tag memory. -/
def tagSize : Nat := 8192

/-- The identity record (19 Table 19.8), at generation 1. -/
def identityRecord (i : Ident) : Bytes :=
  toLe 4 1 ++ toLe 2 1 ++ zeros 2 ++ fit 16 i.serial ++ fit 32 i.certDigest ++ fit 16 (ascii "BVD-PX1500-LQ") ++
  toLe 8 i.madeTime ++ zeros 44 ++ toLe 4 1

/-- The capability container (19 Table 19.7). -/
def capability : Bytes := [0xE2, 0x43, 0x00, 0x01, 0x00, 0x00, 0x00, 0x3F]

/-- What tag byte `a` reads as when no write has changed it: the factory image (19 Table 19.7). -/
def tagFactory (i : Ident) (a : Nat) : Byte :=
  if a < 8 then capability.getD a 0
  else if 0x200 ≤ a ∧ a < 0x280 then (identityRecord i).getD (a - 0x200) 0
  else 0

/-- The byte at an address: the listed one, else the factory image. -/
def cellAt (i : Ident) : List (Nat × Byte) → Nat → Byte
  | [], a => tagFactory i a
  | (k, b) :: m, a => if k = a then b else cellAt i m a

/-- The list without an address. -/
def dropCell (a : Nat) : List (Nat × Byte) → List (Nat × Byte)
  | [] => []
  | (k, b) :: m => if k = a then dropCell a m else (k, b) :: dropCell a m

/-- The list with a byte put in its place by rising address. -/
def placeCell (a : Nat) (b : Byte) : List (Nat × Byte) → List (Nat × Byte)
  | [] => [(a, b)]
  | (k, c) :: m => if a < k then (a, b) :: (k, c) :: m else (k, c) :: placeCell a b m

/-- Writes one byte; the byte of the factory image is not listed. -/
def writeCell (i : Ident) (m : List (Nat × Byte)) (a : Nat) (b : Byte) : List (Nat × Byte) :=
  if b = tagFactory i a then dropCell a m else placeCell a b (dropCell a m)

/-- Writes bytes from an address on. -/
def writeCells (i : Ident) : List (Nat × Byte) → Nat → Bytes → List (Nat × Byte)
  | m, _, [] => m
  | m, a, b :: bs => writeCells i (writeCell i m a b) (a + 1) bs

/-- Addresses strictly rise from `lo` on, inside the tag, and no entry is the factory's byte. -/
def cellsFrom (i : Ident) : Nat → List (Nat × Byte) → Bool
  | _, [] => true
  | lo, (k, b) :: m => decide (lo ≤ k) && decide (k < tagSize) && b != tagFactory i k && cellsFrom i (k + 1) m

/-- The canonical form of tag memory. -/
def Tag.wf (i : Ident) (t : Tag) : Bool := cellsFrom i 0 t.mem

/-- Bytes of tag memory. -/
def State.tagBytes (s : State) (a len : Nat) : Bytes := (List.range len).map fun k => cellAt s.ident s.tag.mem (a + k)

/-- One 4-byte block is written, atomically (19 R687). -/
def State.writeTagBlock (s : State) (n : Nat) (bs : Bytes) : State :=
  if n < 2048 then { s with tag := { s.tag with mem := writeCells s.ident s.tag.mem (4 * n) (fit 4 bs) } } else s

/-! ### The wired side's queue -/

/-- 4-byte blocks of a byte string, from block `n` on; `k` of them. -/
def blocksOf (n : Nat) : Nat → Bytes → List (Nat × Bytes)
  | 0, _ => []
  | k + 1, bs => (n, fit 4 (bs.take 4)) :: blocksOf (n + 1) k (bs.drop 4)

/-- Queues a wired write in ascending block order: GEN_HEAD first, then the body, then GEN_TAIL (19 R687). -/
def State.queueTag (s : State) (a : Nat) (bs : Bytes) : State :=
  { s with tag := { s.tag with todo := s.tag.todo ++ blocksOf (a / 4) ((bs.length + 3) / 4) bs } }

/-- The generation after `g`: never 0 (19 R687). -/
def nextTagGen (g : Nat) : Nat := if (g + 1) % 2 ^ 32 = 0 then 1 else (g + 1) % 2 ^ 32

/-! ### The module's records -/

/-- The image facts of the running bank of a component. -/
def Component.running (c : Component) : ImageFacts := c.facts.getD (b2n c.bankB) {}

/-- IMAGE_VERSION of a component (18 Table 18.3). -/
def State.imageVersion (s : State) (c : Nat) : Nat := ((s.fw.comps.getD c {}).running).version

/-- CUSTODY_CAUSE: bit 0 spare reserve, bit 1 vault alarm (18 Table 18.3). -/
def ModePart.custodyBits (p : ModePart) : Nat := b2n p.causeSpare + 2 * b2n p.causeVault

/-- The health summary (19 Table 19.9). -/
def State.healthSummary (s : State) (gen : Nat) : Bytes :=
  toLe 4 gen ++ toLe 2 1 ++ toLe 1 (modeCode s.mode.mode) ++ toLe 1 (s.healthBits + 8 * s.mode.custodyBits) ++
  toLe 1 s.moduleReserve ++ toLe 1 s.moonMask ++ toLe 1 s.frontMask ++ zeros 1 ++ toLe 4 s.attn.causes.toNat ++
  toLe 4 s.attn.warnings.toNat ++ toLe 8 s.time.now ++ toLe 8 s.unrecovered ++ (List.range 5).flatMap s.monitorBytes ++
  (List.range 8).flatMap (fun m => toLe 2 (s.maxWear m)) ++ (List.range 4).flatMap (fun c => toLe 4 (s.imageVersion c)) ++
  toLe 4 s.vault.alarms ++ zeros 120 ++ toLe 4 gen

/-- Days since the PTP epoch of a module time. -/
def dayOf (t : Nat) : Nat := t / 86400000000000

/-- A day since 1 January 1970 as year, month and day. -/
def civilDay (d : Nat) : Nat × Nat × Nat :=
  let z := d + 719468
  let era := z / 146097
  let doe := z % 146097
  let yoe := (doe - doe / 1460 + doe / 36524 - doe / 146096) / 365
  let doy := doe - (365 * yoe + yoe / 4 - yoe / 100)
  let mp := (5 * doy + 2) / 153
  let m := if mp < 10 then mp + 3 else mp - 9
  (yoe + era * 400 + (if m ≤ 2 then 1 else 0), m, doy - (153 * mp + 2) / 5 + 1)

/-- A number in decimal ASCII with exactly `w` digits. -/
def digits : Nat → Nat → Bytes
  | 0, _ => []
  | w + 1, n => digits w (n / 10) ++ [BitVec.ofNat 8 (48 + n % 10)]

/-- A number below 100,000 in decimal ASCII without leading zeros. -/
def decimal (n : Nat) : Bytes :=
  digits (if n < 10 then 1 else if n < 100 then 2 else if n < 1000 then 3 else if n < 10000 then 4 else 5) n

/-- The name of a mode (18 Table 18.4). -/
def modeName : Mode → String
  | .commission => "COMMISSION" | .solo => "SOLO" | .primary => "PRIMARY" | .mirror => "MIRROR"
  | .eclipse => "MIRROR, eclipse" | .custody => "CUSTODY" | .service => "SERVICE"

/-- The deadline in the NDEF text: a date, or a number of days (19 R688). -/
def deadlineText (days day : Nat) : Bytes :=
  if day = 0 then decimal days ++ ascii " d"
  else
    let c := civilDay day
    digits 4 c.1 ++ ascii "-" ++ digits 2 c.2.1 ++ ascii "-" ++ digits 2 c.2.2

/-- The NDEF area: one NDEF TLV with one Text record, language en, and the terminator (19 R686, R688). -/
def State.ndefArea (s : State) (days day : Nat) : Bytes :=
  let text := ascii "PX1500 " ++ fit 16 s.ident.serial ++ ascii " " ++ ascii (modeName s.mode.mode) ++ ascii " DL " ++
    deadlineText days day ++ ascii " ATTN " ++ ascii (if s.attnAsserted then "1" else "0")
  let payload := toLe 1 2 ++ ascii "en" ++ text
  let record := toLe 1 0xD1 ++ toLe 1 1 ++ toLe 1 payload.length ++ ascii "T" ++ payload
  toLe 1 3 ++ toLe 1 record.length ++ record ++ toLe 1 0xFE

/-- The shelf record bytes 4 to 123 as the tag will hold them once every queued write is made: the last SHELVED or
RUNNING body (19 Table 19.10). -/
def State.shelfBody (s : State) : Bytes :=
  (List.range 120).map fun k =>
    let a := 0x284 + 0x100 + k
    match (s.tag.todo.filter fun w => w.1 == a / 4).getLast? with
    | some w => w.2.getD (a % 4) 0
    | none => cellAt s.ident s.tag.mem a

/-- Health summary and NDEF text are written (19 R688). -/
def State.writeHealth (s : State) : State :=
  let gen := nextTagGen s.tag.healthGen
  let body := s.shelfBody
  let s1 := (s.queueTag 0x280 (s.healthSummary gen)).queueTag 8 (s.ndefArea (u16At body 2) (u32At body 12))
  { s1 with tag := { s1.tag with healthGen := gen } }

/-- A shelf record write: its body between the two generations. -/
def State.writeShelf (s : State) (body : Bytes) : State :=
  let gen := nextTagGen s.tag.shelfGen
  let s1 := s.queueTag 0x380 (toLe 4 gen ++ fit 120 body ++ toLe 4 gen)
  { s1 with tag := { s1.tag with shelfGen := gen } }

/-- Step 5 of a clean shutdown: the health summary, then the shelf record with STATE SHELVED (02 R76, 09 R388, 19
R688). The NDEF text shows the new deadline. -/
def State.shelve (s : State) : State :=
  let days := s.shelfDeadline.map (min · 0xFFFE)
  let timed := s.time.disciplined
  let day := match days with
    | some d => if timed then dayOf s.time.now + d else 0
    | none => 0
  let seq := s.tag.shelfSeq + 1
  let body := toLe 1 2 ++ toLe 1 (b2n timed) ++ toLe 2 (days.getD 0xFFFF) ++ toLe 8 s.time.now ++ toLe 4 day ++
    toLe 2 s.dataWear ++ toLe 1 (modeCode s.mode.mode) ++ zeros 1 ++ toLe 8 s.seq.committed ++ toLe 4 seq
  let gen := nextTagGen s.tag.healthGen
  let s1 := (s.queueTag 0x280 (s.healthSummary gen)).queueTag 8 (s.ndefArea (days.getD 0xFFFF) day)
  let s2 : State := { s1 with tag := { s1.tag with healthGen := gen, shelfSeq := seq } }
  s2.writeShelf body

/-- A whole shelf record in tag memory with STATE SHELVED (19 R687, R688): its bytes. -/
def State.shelvedRecord (s : State) : Option Bytes :=
  let r := s.tagBytes 0x380 128
  if u32At r 0 != 0 && u32At r 0 == u32At r 124 && byteAt r 4 == 2 then some r else none

/-- A shelf history entry (19 after Table 19.10). -/
def historyEntry (r : Bytes) (now : Nat) : Bytes :=
  let seq := u32At r 32
  let late := u32At r 16 != 0 && decide (u32At r 16 < dayOf now)
  toLe 4 seq ++ slice r 4 32 ++ toLe 8 now ++ toLe 1 (b2n late) ++ zeros 15 ++ toLe 4 seq

/-- Step 2 of Table 2.6 on the tag (19 R688): a SHELVED record goes into the history and is that of 09 R376; then STATE
RUNNING is written. -/
def State.startTag (s : State) : State :=
  let s1 := match s.shelvedRecord with
    | some r =>
      let n := u32At r 32
      let s1 := s.queueTag (0xC00 + 64 * ((n - 1) % 32)) (historyEntry r s.time.now)
      { s1 with tag := { s1.tag with seen := some (u64At r 8, u32At r 16), shelfSeq := n } }
    | none => { s with tag := { s.tag with seen := none } }
  s1.writeShelf (overwrite s1.shelfBody 0 (toLe 1 1))

end Sys2Proof.Machine
end

