-- ==== Sys2Proof/Machine/PowerOps.lean ====
section
/-! DEFINITION. Power states (02 R67 to R75), what becomes of fetched commands when the module stops (07 R309, 02 R76, 16
R607), the clean shutdown (02 R76), and the requests that ADM_MODE, ADM_POWER and the control block share (02 R59, R60,
18 R656). -/

namespace Sys2Proof.Machine

/-! ### Power states (02 Table 2.3, R69 to R75) -/

/-- Some version's data waits to be folded (02 R70). -/
def State.foldQueued (s : State) : Bool := s.kv.versions.any fun v => v.place == .slc && v.value.isSome

/-- Staging is empty (02 R70). -/
def State.stagingEmpty (s : State) : Bool := s.media.moons.all (fun m => m.staged == 0) && s.occupancy == 0

/-- PRIMARY or MIRROR, eclipse included (02 R70). -/
def ModePart.inPair (p : ModePart) : Bool := p.mode == .primary || p.mode == .mirror || p.mode == .eclipse

/-- P2 and P3 may be entered (02 R70). -/
def State.lowOk (s : State) : Bool :=
  !(s.comets.list.any (·.isRunning)) && s.stagingEmpty && !s.foldQueued && !s.mode.warming && !s.mode.inPair

/-- Entry into a lower state begins; before P2 and P3 every ring goes idle (02 R72, R75). A request for that state stays
until the state is entered. -/
def State.beginEntry (s : State) (p : PState) : State :=
  let s1 := if p = .p2 || p = .p3 then s.idleAll else s
  { s1 with power := { s1.power with entering := some p, returnTo := none,
                                     wanted := if s1.power.wanted = some p then some p else none } }

/-- Wakes the module for its own background work; it returns to the state it left (02 R73, R74). -/
def State.wakeForWork (s : State) : State :=
  let back := match s.power.pstate with
    | .p2 => some PState.p2
    | .p3 => some PState.p3
    | _ => s.power.returnTo
  let s1 := s.wake
  { s1 with power := { s1.power with returnTo := back } }

/-- The state one down, while its idle timer runs (02 Table 2.4, R69). -/
def State.nextDown (s : State) : Option PState := match s.power.pstate with
  | .p0 => if s.settings.idleP0P1 = 0 then none else some .p1
  | .p1 => if s.settings.idleP1P2 = 0 then none else some .p2
  | .p2 => if s.settings.idleP2P3 = 0 then none else some .p3
  | _ => none

/-- The module is up and in no transition of its power state. -/
def State.steadyPower (s : State) : Bool := s.fetching && s.power.entering.isNone && !s.power.exiting

/-- An idle timer expires, or background work for which the module woke has ended (02 R65, R69, R70, R74). -/
def State.goDown (s : State) : State :=
  if !s.steadyPower then s
  else match s.power.returnTo, s.nextDown with
    | some p, _ => if s.lowOk then s.beginEntry p else s
    | none, some .p1 => if s.mode.warming then s else s.beginEntry .p1
    | none, some p => if s.lowOk then s.beginEntry p else s
    | none, none => s

/-! ### Requests (02 R59, R60, R71; 18 R656, Table 18.6) -/

/-- How a request of the control queue ends. -/
inductive ReqResult where
  | done | inProgress | refusedMode | refusedState
  deriving DecidableEq, Repr

/-- A request for a power state (02 R71); before step 12 and after a shutdown only P0 is accepted, with no effect. From P2
and P3 a request for P1 wakes the module first; from P2 a request for P3 is entered directly, one for P2 from P3 is
entered without a wake once it waits its turn: DESIGN CHOICE, notes/assumptions/63.md. -/
def State.reqPower (s : State) (p : PState) : State × ReqResult :=
  if !s.fetching then (s, if p = .p0 then .done else .refusedState)
  else match p with
  | .p1 =>
    if s.mode.warming then (s, .refusedMode)
    else if s.power.pstate = .p1 then (s, .done)
    else if s.power.pstate = .p0 && s.steadyPower then (s.beginEntry .p1, .inProgress)
    else
      let s1 := s.wake
      ({ s1 with power := { s1.power with wanted := some .p1 } }, .inProgress)
  | .p2 | .p3 =>
    if s.pair.paired || s.mode.warming then (s, .refusedMode)
    else if s.power.pstate = p then (s, .done)
    else if s.lowOk && s.steadyPower && decide (pstateCode s.power.pstate < pstateCode p) then
      (({ s with power := { s.power with wanted := some p } }).beginEntry p, .inProgress)
    else ({ s with power := { s.power with wanted := some p } }, .inProgress)
  | _ =>
    let s1 := s.wake
    let s2 : State := { s1 with power := { s1.power with wanted := none } }
    (s2, if s.power.pstate = .p0 && s.power.entering.isNone then .done else .inProgress)

/-- COMMISSION to SOLO (02 Table 2.2): a Custodian credential is set and the Key Vault holds the device identity. -/
def State.reqCommission (s : State) (cause : Nat) : State × ReqResult :=
  if s.mode.mode ≠ .commission then (s, .refusedMode)
  else if !(s.creds.list.any (·.role == 1)) || !s.vault.up then (s, .refusedState)
  else (s.enterOrCustody .solo cause, .done)

/-- Entry into SERVICE by request (02 Table 2.2): not from PRIMARY. -/
def State.reqService (s : State) (cause : Nat) : State × ReqResult :=
  if s.mode.mode = .primary || s.mode.mode = .service then (s, .refusedMode) else (s.enterService cause, .done)

/-- Service exit (02 Table 2.2). -/
def State.reqServiceExit (s : State) (cause : Nat) : State × ReqResult :=
  if s.mode.mode ≠ .service then (s, .refusedMode) else (s.leaveService cause, .done)

/-- The archival lock is set (02 Table 2.2, R59): CUSTODY, or a held cause in COMMISSION and SERVICE (R56). -/
def State.reqLockSet (s : State) : State × ReqResult :=
  if s.mode.archival then (s, .done)
  else (({ s with mode := { s.mode with archival := true } }).toCustody 0x0C, .done)

/-- The archival lock is cleared (02 Table 2.2, R59). -/
def State.reqLockClear (s : State) : State × ReqResult :=
  if !s.mode.archival then (s, .done)
  else (({ s with mode := { s.mode with archival := false } }).custodyEnded 0x0C, .done)

/-! ### Commit or discard (07 R309) -/

/-- A committed STRICT mutation whose bytes are not programmed twice yet has them programmed before it completes, for it
completes only at MEDIA (07 R287): DESIGN CHOICE, notes/assumptions/63.md, R309 gives no other point. -/
def State.reachMedia (s : State) (c : Cmd) : State :=
  (s.programCmd c).modCmd c.ref fun c => { c with progd := true }

/-- A committed mutation completes with its own outcome (07 R309), its digest written first, whatever the host's adapter answers
(04 R169); it is in the journal that step 4 flushes (08 R353). -/
def State.completeCommitted (s : State) (c : Cmd) : State :=
  let s0 := if c.journal then s else s.noteJournal c
  let s1 := ((s0.makeDurable c.csn).releaseLocks c.ref).draw
  if fStrict (dFlags c.desc) && !c.progd then (s1.reachMedia c).completeMutation { c with progd := true } s0.hostAnswer
  else s1.completeMutation c s0.hostAnswer

/-- A command that step 2 ends with ST_BUSY_RETRY: a read that has not written its completion, a mutation that has not
committed, and any other command without a fixed outcome (07 R309). -/
def Cmd.discarded (c : Cmd) : Bool := opRead (dOpcode c.desc) || !c.keepsOutcome

/-- Every fetched command ends, but for those of `spare`: a committed mutation with its own outcome, every other one with
ST_BUSY_RETRY and no effect; comets end ABORTED; object sessions end (07 R309). Nothing waits for the partner any more. -/
def State.commitOrDiscard (s : State) (cause : Nat) (spare : List Nat) : State :=
  let s1 := s.endComets (fun k => k.kind != .rebuild) .aborted cause 0 false
  let s2 := (s1.cmds.list.filter fun c => c.isCommitted).foldl State.completeCommitted s1
  let rest := s2.cmds.list.filter fun c => c.discarded && decide (c.ref ∉ spare)
  let s3 := (s2.finishAll (rest.map fun c => (c.ref, batchComp c.desc (Comp.plain .busyRetry)))).endObjects fun _ => true
  s3.releaseHeld fun _ => true

/-- A command completes as the last one before a shutdown (02 R60). -/
def State.finishLast (s : State) (ref : Nat) : State := (s.finish ref (Comp.plain .ok)).releaseHeld fun _ => true

/-! ### Clean shutdown (02 R76) -/

/-- Steps 1 and 2 of a clean shutdown (02 R76): fetching stops, fetched commands end. `last` ends the command that asked
for it. -/
def State.beginShutdown (s : State) (after : AfterShutdown) (spare : List Nat) : State :=
  let cause := match after with
    | .stay => 0x04
    | .warmStart => 0x05
  let s1 : State := { s with power := { s.power with shutdown := some after, wanted := none, returnTo := none } }
  s1.commitOrDiscard cause spare

/-- A shutdown can begin: the module has started and is not shutting down (02 R76). -/
def State.canShutdown (s : State) : Bool :=
  s.power.step == 12 && s.power.shutdown.isNone && !s.power.shutDone && decide (s.feeds.loss = .none)

/-! ### What a halt of the Fronts and moons loses -/

/-- Every moon stages nothing and its DRAM and caches are lost (08 R347, R348, 14 R533). -/
def Moon.off (m : Moon) : Moon :=
  { m with staged := 0, mapInval := true, mapLines := [], mapFill := none, mapLate := [], hotMap := [] }

/-- A program slot without its retained generation and its queue (11 R458). -/
def ProgSlot.off (p : ProgSlot) : ProgSlot := { p with retained := none, queue := [] }

/-- The Fronts and moons are off (02 R76 step 6, R86; 07 R308 step 6, R310; 06 R279): sessions, rings, fetched commands,
locks, pins, object sessions and comets but rebuilds are gone; what was charged is programmed (06 R279); key caches and
usage grants are lost;
the pair's volatile state is lost (15 R561). -/
def State.islandsOff (s0 : State) : State :=
  let s := s0.programAll
  State.reclaim { s with
    sess := { s.sess with sessions := [], waits := [] }
    cmds := { s.cmds with list := [] }
    locks := {}
    kv := { s.kv with objects := [], pins := [] }
    seq := { s.seq with journal := [] }
    ns := s.ns.map fun n => { n with resBytes := 0, resObjs := 0 }
    vault := { s.vault with cached := [], grants := [], pending := false }
    programs := s.programs.map ProgSlot.off
    comets := { list := s.comets.list.filter fun k => k.kind == .rebuild && k.isRunning }
    media := { s.media with moons := s.media.moons.map Moon.off }
    pair := { s.pair with lease := none, holding := false, partnerLost := false, wait := .idle, joinUntil := none,
                          swapWaits := [], resyncOn := false, resyncPin := none, resyncKeys := [],
                          records := [], decisions := [], carried := [], comets := [], owed := [], markSent := 0,
                          markHeld := 0, change := none }
    ports := { s.ports with windows := s.ports.windows.filter fun w => w.path == .i3c || w.path == .usb
                            links := s.ports.links.map fun l => { l with up := false, trained := false, seq := 0, ack := 0 }
                            hosts := s.ports.hosts.map fun p => { p with linkUp := 0, laneLock := 0 } }
    power := { s.power with entering := none, exiting := false, workHeld := false, wanted := none, returnTo := none } }

end Sys2Proof.Machine
end

