-- ==== Sys2Proof/Machine/ModePower.lean ====
section
/-! DEFINITION. ADM_MODE (02 R59) and ADM_POWER (02 R60). A control request in progress makes them wait their turn (18
R656). -/

namespace Sys2Proof.Machine

/-- An ADM_MODE or ADM_POWER command whose turn in the control queue has come (18 R656). -/
def State.withTurn (s : State) (ref : Nat) (p : Bytes → Bool) (k : Cmd → State → State) : State :=
  if s.ctrl.busy.isSome then s else s.withReady ref p k

/-- The completion of an ADM_MODE command (02 R59): RESULT holds the mode now in force. -/
def modeAnswer (c : Cmd) (s : State) (q : State × ReqResult) : State := match q.2 with
  | .done | .inProgress => q.1.finish c.ref (Comp.okResult (modeCode q.1.mode.mode))
  | _ => s.finish c.ref (Comp.denied 6)

/-- MODE_COMMISSION_COMPLETE (02 Table 2.2, R56, R59). -/
def execModeCommissionComplete (ref : Nat) (s : State) : Result :=
  .next (s.withTurn ref (isAdm 0x55 1) fun c s => modeAnswer c s (s.reqCommission 0x01))

/-- MODE_SERVICE_ENTER (02 Table 2.2, R59; 12 R490). -/
def execModeServiceEnter (ref : Nat) (s : State) : Result :=
  .next (s.withTurn ref (isAdm 0x55 2) fun c s => modeAnswer c s (s.reqService 0x01))

/-- MODE_SERVICE_EXIT (02 Table 2.2, R59). -/
def execModeServiceExit (ref : Nat) (s : State) : Result :=
  .next (s.withTurn ref (isAdm 0x55 3) fun c s => modeAnswer c s (s.reqServiceExit 0x01))

/-- MODE_ARCHIVAL_LOCK_SET (02 Table 2.2, R56, R59). -/
def execModeArchivalLockSet (ref : Nat) (s : State) : Result :=
  .next (s.withTurn ref (isAdm 0x55 4) fun c s => modeAnswer c s s.reqLockSet)

/-- MODE_ARCHIVAL_LOCK_CLEAR (02 Table 2.2, R59). -/
def execModeArchivalLockClear (ref : Nat) (s : State) : Result :=
  .next (s.withTurn ref (isAdm 0x55 5) fun c s => modeAnswer c s s.reqLockClear)

/-- The completion of a power-state request (02 R60, R71): it follows its acceptance. -/
def powerAnswer (c : Cmd) (p : PState) (s : State) : State := match s.reqPower p with
  | (s1, .done) | (s1, .inProgress) => s1.finish c.ref (Comp.okResult (pstateCode p))
  | _ => s.finish c.ref (Comp.denied 6)

/-- POWER_P0 (02 R60, R71). -/
def execPowerP0 (ref : Nat) (s : State) : Result :=
  .next (s.withTurn ref (isAdm 0x56 1) fun c s => powerAnswer c .p0 s)

/-- POWER_P1 (02 R60, R65, R71). -/
def execPowerP1 (ref : Nat) (s : State) : Result :=
  .next (s.withTurn ref (isAdm 0x56 2) fun c s => powerAnswer c .p1 s)

/-- POWER_P2 (02 R60, R70, R71, R72). -/
def execPowerP2 (ref : Nat) (s : State) : Result :=
  .next (s.withTurn ref (isAdm 0x56 3) fun c s => powerAnswer c .p2 s)

/-- POWER_P3 (02 R60, R70, R71). -/
def execPowerP3 (ref : Nat) (s : State) : Result :=
  .next (s.withTurn ref (isAdm 0x56 4) fun c s => powerAnswer c .p3 s)

/-- POWER_SHUTDOWN (02 R60, R76): its own completion is the last. -/
def execPowerShutdown (ref : Nat) (s : State) : Result :=
  .next (s.withTurn ref (isAdm 0x56 0x10) fun c s => (s.beginShutdown .stay [c.ref]).finishLast c.ref)

/-- POWER_WARM_RESTART (02 R60, R84, R85). -/
def execPowerWarmRestart (ref : Nat) (s : State) : Result :=
  .next (s.withTurn ref (isAdm 0x56 0x11) fun c s => (s.beginShutdown .warmStart [c.ref]).finishLast c.ref)

end Sys2Proof.Machine
end

