-- ==== Sys2Proof/Machine/Paths.lean ====
section
/-! DEFINITION. The access paths to the Setup Register Space (18 R648 to R654, Table 18.2; 19 R669, R670). -/

namespace Sys2Proof.Machine

/-- REJECT_PATH (18 Table 18.3). -/
def pathCode : Path → Nat
  | .i3c => 1 | .usb => 2 | .inband _ => 3

/-- START_STEP (18 Table 18.3). -/
def State.startStep (s : State) : Nat := if s.power.shutDone then 15 else s.power.step

/-- The management island answers on a path (18 Table 18.2, R651; 20 Table 20.12): sideband from step 2, in-band from step 12 and only
for a Custodian session whose window is open (R667). -/
def State.pathOpen (s : State) : Path → Bool
  | .i3c => s.feeds.mgmtUp && s.usb.i3cAddr.isSome && !s.shorted pinScl && !s.shorted pinSda && decide (2 ≤ s.startStep)
  | .usb => s.feeds.mgmtUp && s.usb.pullUp && decide (2 ≤ s.startStep)
  | .inband sid => s.feeds.mgmtUp && s.power.step == 12 && match s.session? sid with
    | some x => x.setup.window && decide (x.cls ≠ .orphan)
    | none => false

/-- A host-to-device request of the service port has been executed (19 R670, Table 19.2). -/
def State.usbExecuted (s : State) (request result : Nat) : State :=
  { s with usb := { s.usb with reqSeq := (s.usb.reqSeq + 1) % 2 ^ 32, lastReq := request, result := result } }

/-- A register write by a path takes effect: over the service port it is a REG_WRITE (19 Table 19.1). -/
def State.markWrite (s : State) : Path → State
  | .usb => s.usbExecuted 0x02 0
  | _ => s

/-- A transfer that its path does not allow: in-band it gets a NAK and the session is orphaned (18 R654); a sideband path
that is not available does not answer. -/
def State.pathRefuses (s : State) : Path → State
  | .inband sid =>
    if !s.feeds.mgmtUp then s.emit (.mgmtNack (.inband sid))
    else if (s.session? sid).isSome && !s.isOrphan sid then (s.emit (.nak sid)).orphan sid else s
  | p => s.emit (.mgmtNack p)

/-- Runs a register write on a path (18 R651, R654). -/
def State.onPath (s : State) (p : Path) (k : State → State) : State :=
  if s.pathOpen p then k (s.markWrite p) else s.pathRefuses p

/-- A word is ignored and recorded (18 R649). -/
def State.reject (s : State) (p : Path) (off : Nat) : State :=
  { s with ctrl := { s.ctrl with rejOffset := off, rejPath := pathCode p, rejCount := min (s.ctrl.rejCount + 1) 255 } }

end Sys2Proof.Machine
end

