-- ==== Sys2Proof/Machine/Control.lean ====
section
/-! DEFINITION. Control requests (18 R656, Table 18.5, Table 18.6). -/

namespace Sys2Proof.Machine

/-- RESULT of a control request (18 Table 18.5). -/
def resultCode : ReqResult → Nat
  | .done => 0 | .inProgress => 1 | .refusedMode => 2 | .refusedState => 3

/-- A request is accepted: LAST_CODE, RESULT and REQ_SEQ (18 Table 18.5). A request that it refuses changes nothing
else. -/
def State.answerCtrl (s : State) (code : Nat) (q : State × ReqResult) : State :=
  let s1 := match q.2 with
    | .done | .inProgress => q.1
    | _ => s
  { s1 with ctrl := { s1.ctrl with code := code, result := resultCode q.2, reqSeq := (s1.ctrl.reqSeq + 1) % 65536,
                                   busy := if q.2 = .inProgress then some code else none } }

/-- A write of CODE (18 R656): ignored and recorded while a request is in progress. -/
def State.ask (s : State) (p : Path) (code : Nat) (f : State → State × ReqResult) : State :=
  if s.ctrl.busy.isSome then s.reject p 0x0100 else s.answerCtrl code (f s)

/-- A write of CODE on a path. -/
def State.control (s : State) (p : Path) (code : Nat) (f : State → State × ReqResult) : State :=
  s.onPath p fun s => s.ask p code f

/-- The request in progress has its outcome, when it is one of `codes` (18 Table 18.6). -/
def State.ctrlDone (s : State) (codes : List Nat) : State := match s.ctrl.busy with
  | some c => if c ∈ codes then { s with ctrl := { s.ctrl with result := 0, busy := none } } else s
  | none => s

/-- CTRL_P0 (02 R71, 18 Table 18.6). -/
def execCtrlP0 (p : Path) (s : State) : Result := .next (s.control p 0x01 (·.reqPower .p0))

/-- CTRL_P1 (02 R71, 18 Table 18.6). -/
def execCtrlP1 (p : Path) (s : State) : Result := .next (s.control p 0x02 (·.reqPower .p1))

/-- CTRL_P2 (02 R71, 18 Table 18.6). -/
def execCtrlP2 (p : Path) (s : State) : Result := .next (s.control p 0x03 (·.reqPower .p2))

/-- CTRL_P3 (02 R71, 18 Table 18.6). -/
def execCtrlP3 (p : Path) (s : State) : Result := .next (s.control p 0x04 (·.reqPower .p3))

/-- A clean shutdown or warm start by request (18 Table 18.6). -/
def State.reqShutdown (s : State) (after : AfterShutdown) : State × ReqResult :=
  if s.canShutdown then (s.beginShutdown after [], .inProgress) else (s, .refusedState)

/-- CTRL_SHUTDOWN (02 R76, 18 Table 18.6). -/
def execCtrlShutdown (p : Path) (s : State) : Result := .next (s.control p 0x10 (·.reqShutdown .stay))

/-- CTRL_WARM_RESTART (02 R84, R85, 18 Table 18.6). -/
def execCtrlWarmRestart (p : Path) (s : State) : Result := .next (s.control p 0x11 (·.reqShutdown .warmStart))

/-- CTRL_SERVICE_ENTER (02 Table 2.2, 18 Table 18.6). -/
def execCtrlServiceEnter (p : Path) (s : State) : Result := .next (s.control p 0x20 (·.reqService 0x02))

/-- CTRL_SERVICE_EXIT (02 Table 2.2, 18 Table 18.6). -/
def execCtrlServiceExit (p : Path) (s : State) : Result := .next (s.control p 0x21 (·.reqServiceExit 0x02))

/-- CTRL_COMMISSION_COMPLETE (02 Table 2.2, 18 Table 18.6). -/
def execCtrlCommissionComplete (p : Path) (s : State) : Result := .next (s.control p 0x22 (·.reqCommission 0x02))

/-- CTRL_ARCHIVAL_LOCK_SET (02 Table 2.2, 18 Table 18.6). -/
def execCtrlArchivalLockSet (p : Path) (s : State) : Result := .next (s.control p 0x23 (·.reqLockSet))

/-- CTRL_ARCHIVAL_LOCK_CLEAR (02 Table 2.2, 18 Table 18.6). -/
def execCtrlArchivalLockClear (p : Path) (s : State) : Result := .next (s.control p 0x24 (·.reqLockClear))

/-- The feed of a Front's side, and its change. -/
def State.feed (s : State) : Front → Feed
  | .a => s.feeds.a | .b => s.feeds.b

def State.modFeed (s : State) (f : Front) (g : Feed → Feed) : State := match f with
  | .a => { s with feeds := { s.feeds with a := g s.feeds.a } }
  | .b => { s with feeds := { s.feeds with b := g s.feeds.b } }

/-- A latched channel is cleared and starts a new ramp when its feed and PRESENT# allow it (20 R696). -/
def State.clearLatch (s : State) (f : Front) : State :=
  if (s.feed f).chan = .latched then
    s.modFeed f fun q => { q with chan := if q.inRange && s.feeds.present then .ramping else .off, retries := 0 }
  else s

/-- EFUSE_CLEAR of the named channels (18 Table 18.6). -/
def State.reqEfuse (s : State) (arg : Nat) : State × ReqResult :=
  let a := bitOf arg 0 && decide ((s.feed .a).chan = .latched)
  let b := bitOf arg 1 && decide ((s.feed .b).chan = .latched)
  if !a && !b then (s, .refusedState)
  else
    let s1 := if a then s.clearLatch .a else s
    (if b then s1.clearLatch .b else s1, .done)

/-- CTRL_EFUSE_CLEAR (20 R696, 18 Table 18.6). -/
def execCtrlEfuseClear (p : Path) (arg : Nat) (s : State) : Result := .next (s.control p 0x30 (·.reqEfuse arg))

/-- Codes of 18 Table 18.6. -/
def ctrlKnown (code : Nat) : Bool :=
  decide (code ∈ [0x01, 0x02, 0x03, 0x04, 0x10, 0x11, 0x12, 0x20, 0x21, 0x22, 0x23, 0x24, 0x30])

/-- A request with an unknown CODE (18 R656): accepted with RESULT UNKNOWN and no effect. -/
def State.askUnknown (s : State) (p : Path) (code : Nat) : State :=
  if s.ctrl.busy.isSome then s.reject p 0x0100
  else { s with ctrl := { s.ctrl with code := code, result := 4, reqSeq := (s.ctrl.reqSeq + 1) % 65536 } }

/-- CTRL_UNKNOWN (18 R656). -/
def execCtrlUnknown (p : Path) (code : Nat) (s : State) : Result :=
  .next (if ctrlKnown code then s else s.onPath p fun s => s.askUnknown p code)

end Sys2Proof.Machine
end

