-- ==== Sys2Proof/Machine/Namespace.lean ====
section
/-! DEFINITION. Namespaces (13 R492 to R499, R507, R510). -/

namespace Sys2Proof.Machine

/-! ### Creation -/

/-- The rules a new namespace gets (13 R507). -/
def defaultRules (nsid cred : Nat) (curator : Bool) : List Rule :=
  let custodian : Rule := { idx := 0, nsid := nsid, credAny := true, roles := 1, ops := 0xFF, allow := true }
  custodian :: (if curator then [{ custodian with cred := cred, credAny := false, roles := 2 }] else [])

/-- Why a creation is refused (13 R494, R495, R507; 14 R538; 02 Table 2.1). -/
def State.nsCreateRefusal (s : State) (c : Cmd) : Option Comp :=
  let d := c.desc
  let curator := s.roleOf c.sid == 2
  let rows := if npNoDefaults d then 0 else if curator then 2 else 1
  if s.mode.mode = .custody then some (Comp.plain .readOnly)
  else if !(npSuite d == 1 || npSuite d == 2) || npFixity d == 3 then some (Comp.denied 7)
  else if (s.namespace? (dNsid d)).isSome || decide (4096 ≤ s.ns.length) then some (Comp.denied 7)
  else if !s.slotLoaded (npSlot d) then some (Comp.denied 7)
  else if curator && decide (4096 ≤ (s.grantsOf c).length) then some (Comp.denied 7)
  else if 4096 < s.asu.rules.length + rows then some (Comp.plain .noSpace)
  else none

/-- The namespace a creation makes (13 Table 13.1). -/
def newNamespace (d : Bytes) (now : Nat) : Namespace :=
  { nsid := dNsid d, quotaBytes := npQuotaBytes d, quotaObjs := npQuotaObjs d, suite := npSuite d, slot := npSlot d,
    fixity := npFixity d, compat := npCompat d, created := now }

/-- A namespace as a change of the settings. -/
def Namespace.change (n : Namespace) : SettingsChange :=
  .nsAdd n.nsid n.quotaBytes n.quotaObjs n.suite n.slot n.fixity n.compat n.created

/-- A rule for the lowest free row as a change of the settings (13 R505). -/
def Rule.change (r : Rule) : SettingsChange :=
  .rule none r.nsid r.nsAny r.cred r.credAny r.roles r.ops r.priority r.pre r.allow

/-- ADM_NS_CREATE: the namespace, its default rules and its creator's grant in one step (13 R500, R507). -/
def nsCreate (c : Cmd) (s : State) : State :=
  match s.nsCreateRefusal c with
  | some k => s.finish c.ref k
  | none =>
    let d := c.desc
    let curator := s.roleOf c.sid == 2
    let cred := s.credOf c
    let rules := if npNoDefaults d then [] else defaultRules (dNsid d) cred curator
    let grants := if curator then [SettingsChange.grant cred (dNsid d)] else []
    s.configured c (Comp.okResult 0) ((newNamespace d s.time.now).change :: rules.map Rule.change ++ grants)

/-! ### Change (13 R494, R510) -/

/-- ADM_NS_SET: existence, right, ranges, in this order (13 R494). -/
def nsSet (c : Cmd) (s : State) : State :=
  let d := c.desc
  if !s.nsExists (dNsid d) then s.finish c.ref (Comp.denied 8)
  else if !s.mayAdminister c (dNsid d) then s.finish c.ref (Comp.denied 4)
  else if npMask d 2 && npFixity d == 3 then s.finish c.ref (Comp.denied 7)
  else s.configured c (Comp.okResult 0) [.nsSet (dNsid d) d]

/-! ### Deletion (13 R498, R499) -/

/-- Once every command admitted before the point has completed, the identifier is free and the deletion completes (13
R498, R499). -/
def State.deleteDone (s : State) (c : Cmd) (nsid : Nat) : State :=
  if s.inFlightOf nsid then s
  else
    let s1 := s.forgetNamespaces (· == nsid)
    ({ s1 with ns := s1.ns.filter (·.nsid != nsid) }).finish c.ref (Comp.okResult c.acc)

/-- ADM_NS_DELETE, one stage at each application of its row: what comes before the point, the point, and the end. A
further deletion of the same namespace waits for the point (13 R498). -/
def nsDelete (c : Cmd) (s : State) : State :=
  let nsid := dNsid c.desc
  match s.namespace? nsid with
  | none => s.finish c.ref (Comp.denied 8)
  | some n =>
    if c.decided then (if n.gone then s.deleteDone c nsid else s.configure c .deletion [.nsGone nsid])
    else if n.gone then s.finish c.ref (Comp.denied 8)
    else if s.deleting nsid then s
    else if !s.mayAdminister c nsid then s.finish c.ref (Comp.denied 4)
    else (s.clearNamespace (· == nsid)).modCmd c.ref fun c => { c with decided := true }

/-! ### Query (13 R496, R497) -/

/-- Use exceeds a quota (13 R512). -/
def Namespace.overQuota (n : Namespace) : Bool := exceeds n.quotaBytes n.useBytes || exceeds n.quotaObjs n.useObjs

/-- The namespace query record (13 Table 13.3). -/
def nsRecord (n : Namespace) (deleting : Bool) : Bytes :=
  toLe 2 n.nsid ++ toLe 1 n.suite ++
    toLe 1 (n.fixity + 4 * b2n n.compat + 8 * b2n n.overQuota + 16 * b2n deleting) ++ toLe 2 n.slot ++ zeros 2 ++
    toLe 8 n.quotaBytes ++ toLe 8 n.quotaObjs ++ toLe 8 n.useBytes ++ toLe 8 n.useObjs ++ toLe 8 n.resBytes ++
    toLe 8 n.created ++ zeros 8

/-- The issuer may query the namespace (13 R497). -/
def State.mayQuery (s : State) (c : Cmd) (nsid : Nat) : Bool :=
  match s.session? c.sid with
  | some x => if x.role == 3 then s.allowed x nsid 0 [] else s.mayAdminister c nsid
  | none => false

/-- ADM_NS_QUERY: existence before the right (13 R495, R497). -/
def nsQuery (w : HostWrite) (c : Cmd) (s : State) : State :=
  let nsid := dNsid c.desc
  match s.namespace? nsid with
  | none => s.finish c.ref (Comp.denied 8)
  | some n =>
    if n.gone then s.finish c.ref (Comp.denied 8)
    else if !s.mayQuery c nsid then s.finish c.ref (Comp.denied 5)
    else s.output c w (u32At c.desc 12) (u64At c.desc 16) (nsRecord n (s.deleting nsid)) fun s =>
      s.finish c.ref (Comp.okResult 0)

/-- ADM_NS_CREATE (13 R495), after identifiers of finished deletions are freed (13 R499). -/
def execAdmNsCreate (ref : Nat) (s : State) : Result :=
  .next (s.inTurn fun s => s.withReady ref (isOp 0x48) fun c s => nsCreate c s.reapNamespaces)

/-- ADM_NS_SET (13 R494). -/
def execAdmNsSet (ref : Nat) (s : State) : Result := .next (s.inTurn (·.withReady ref (isOp 0x49) nsSet))

/-- ADM_NS_DELETE (13 R498). -/
def execAdmNsDelete (ref : Nat) (s : State) : Result := .next (s.inTurn (·.withReady ref (isOp 0x4A) nsDelete))

/-- ADM_NS_QUERY (13 R496). -/
def execAdmNsQuery (ref : Nat) (w : HostWrite) (s : State) : Result := .next (s.withReady ref (isOp 0x4B) (nsQuery w))

end Sys2Proof.Machine
end

