-- ==== Sys2Proof/Machine/Credential.lean ====
section
/-! DEFINITION. Credentials (13 R500 to R503). -/

namespace Sys2Proof.Machine

/-! ### Parameters (13 Table 13.5) -/

def cpRole (d : Bytes) : Nat := bitsOf (byteAt d 9) 0 2
def cpNsid (d : Bytes) : Nat := bitsOf (u16At d 10) 0 12
def cpCred (d : Bytes) : Nat := u32At d 12
def cpAddr (d : Bytes) : Nat := u64At d 16
def cpRkey (d : Bytes) : Nat := u32At d 24

/-- A right over a credential: any for a Custodian; a Curator may change the Client credentials that it created (13
Table 13.4). -/
def State.mayChange (s : State) (c : Cmd) (k : Credential) : Bool :=
  s.isCustodian c || (k.role == 3 && k.creator == s.credOf c)

/-- ADM_CREDENTIAL CREATE (13 R503). In which order the operations of ADM_CREDENTIAL make their checks the manual does not say:
CREATE and OUTBOUND_SET test CRED and ROLE before the right, GRANT and REVOKE the right before the credential and that
before the namespace (DESIGN CHOICE, notes/assumptions/62.md). -/
def credCreate (r : HostRead) (c : Cmd) (s : State) : State :=
  let d := c.desc
  let cred := cpCred d
  if cred == 0 || cpRole d == 0 then s.finish c.ref (Comp.denied 7)
  else if !s.isCustodian c && cpRole d != 3 then s.finish c.ref (Comp.denied 4)
  else if (s.credential? cred).isSome || decide (16384 ≤ s.creds.list.length) then s.finish c.ref (Comp.denied 7)
  else s.unwrapped c r (cpRkey d) (cpAddr d) "PX-WRAP" fun secret s =>
    s.configured c (Comp.okResult 0) [.credAdd cred (cpRole d) secret (s.credOf c)]

/-- ADM_CREDENTIAL SET_SECRET: for logins that begin later (13 R503). -/
def credSetSecret (r : HostRead) (c : Cmd) (s : State) : State :=
  match s.credential? (cpCred c.desc) with
  | none => s.finish c.ref (Comp.denied 7)
  | some k =>
    if !s.mayChange c k then s.finish c.ref (Comp.denied 4)
    else s.unwrapped c r (cpRkey c.desc) (cpAddr c.desc) "PX-WRAP" fun secret s =>
      s.configured c (Comp.okResult 0) [.credSecret k.cred secret]

/-- GRANT and REVOKE name a Curator credential, and are a Custodian's right (13 R503, Table 13.4). -/
def State.grantee (s : State) (c : Cmd) : Credential ⊕ Comp :=
  if !s.isCustodian c then .inr (Comp.denied 4)
  else match s.credential? (cpCred c.desc) with
    | some k => if k.role == 2 then .inl k else .inr (Comp.denied 7)
    | none => .inr (Comp.denied 7)

/-- ADM_CREDENTIAL GRANT (13 R503). -/
def credGrant (c : Cmd) (s : State) : State :=
  let nsid := cpNsid c.desc
  match s.grantee c with
  | .inr k => s.finish c.ref k
  | .inl k =>
    if !s.nsExists nsid then s.finish c.ref (Comp.denied 8)
    else if nsid ∈ k.grants then s.finish c.ref (Comp.okResult 0)
    else if 4096 ≤ k.grants.length then s.finish c.ref (Comp.denied 7)
    else s.configured c (Comp.okResult 0) [.grant k.cred nsid]

/-- ADM_CREDENTIAL REVOKE (13 R503). -/
def credRevoke (c : Cmd) (s : State) : State :=
  let nsid := cpNsid c.desc
  match s.grantee c with
  | .inr k => s.finish c.ref k
  | .inl k =>
    if nsid ∈ k.grants then
      s.configured c (Comp.okResult 0) [.revoke k.cred nsid]
    else s.finish c.ref (Comp.okResult 0)

/-- ADM_CREDENTIAL DELETE: the sessions of the credential end after its completion; its rules stay (13 R503). -/
def credDelete (c : Cmd) (s : State) : State :=
  match s.credential? (cpCred c.desc) with
  | none => s.finish c.ref (Comp.denied 7)
  | some k =>
    if !s.mayChange c k then s.finish c.ref (Comp.denied 4)
    else if k.role == 1 && (s.creds.list.filter (·.role == 1)).length == 1 then s.finish c.ref (Comp.denied 7)
    else s.configured c (Comp.okResult 0) [.credGone k.cred]

/-- ADM_CREDENTIAL OUTBOUND_SET (13 R503). Beyond 256 outbound credentials it is refused like a CREATE beyond its limit, for
which the manual names no status (DESIGN CHOICE, notes/assumptions/62.md). -/
def credOutboundSet (r : HostRead) (c : Cmd) (s : State) : State :=
  let cred := cpCred c.desc
  let held := (assoc cred s.creds.outbound).isSome
  if cred == 0 then s.finish c.ref (Comp.denied 7)
  else if !s.isCustodian c then s.finish c.ref (Comp.denied 4)
  else if !held && decide (256 ≤ s.creds.outbound.length) then s.finish c.ref (Comp.denied 7)
  else s.unwrapped c r (cpRkey c.desc) (cpAddr c.desc) "PX-WRAP" fun secret s =>
    s.configured c (Comp.okResult 0) [.outbound cred (some secret)]

/-- ADM_CREDENTIAL OUTBOUND_DELETE (13 R503). -/
def credOutboundDelete (c : Cmd) (s : State) : State :=
  let cred := cpCred c.desc
  if !s.isCustodian c then s.finish c.ref (Comp.denied (if cred == 0 then 7 else 4))
  else if (assoc cred s.creds.outbound).isNone then s.finish c.ref (Comp.denied 7)
  else s.configured c (Comp.okResult 0) [.outbound cred none]

/-- CREDENTIAL_CREATE (13 R503). -/
def execCredentialCreate (ref : Nat) (r : HostRead) (s : State) : Result :=
  .next (s.inTurn (·.withReady ref (isAdm 0x4C 1) (credCreate r)))

/-- CREDENTIAL_SET_SECRET (13 R503). -/
def execCredentialSetSecret (ref : Nat) (r : HostRead) (s : State) : Result :=
  .next (s.inTurn (·.withReady ref (isAdm 0x4C 2) (credSetSecret r)))

/-- CREDENTIAL_GRANT (13 R503). -/
def execCredentialGrant (ref : Nat) (s : State) : Result :=
  .next (s.inTurn (·.withReady ref (isAdm 0x4C 3) credGrant))

/-- CREDENTIAL_REVOKE (13 R503). -/
def execCredentialRevoke (ref : Nat) (s : State) : Result :=
  .next (s.inTurn (·.withReady ref (isAdm 0x4C 4) credRevoke))

/-- CREDENTIAL_DELETE (13 R503). -/
def execCredentialDelete (ref : Nat) (s : State) : Result :=
  .next (s.inTurn (·.withReady ref (isAdm 0x4C 5) credDelete))

/-- CREDENTIAL_OUTBOUND_SET (13 R503). -/
def execCredentialOutboundSet (ref : Nat) (r : HostRead) (s : State) : Result :=
  .next (s.inTurn (·.withReady ref (isAdm 0x4C 6) (credOutboundSet r)))

/-- CREDENTIAL_OUTBOUND_DELETE (13 R503). -/
def execCredentialOutboundDelete (ref : Nat) (s : State) : Result :=
  .next (s.inTurn (·.withReady ref (isAdm 0x4C 7) credOutboundDelete))

end Sys2Proof.Machine
end

