-- ==== Sys2Proof/Machine/KeySlotAdm.lean ====
section
/-! DEFINITION. ADM_KEYSLOT (14 R534 to R541, R547). -/

namespace Sys2Proof.Machine

/-! ### Parameters (14 Table 14.5) -/

def kpLimit (d : Bytes) : Nat := byteAt d 9
def kpSlot (d : Bytes) : Nat := bitsOf (u16At d 10) 0 13
def kpKcv (d : Bytes) : Bytes := fit 8 (slice d 24 8)

/-- A key slot; one not listed is EMPTY with its defaults (14 R531, R539). -/
def State.keySlot (s : State) (n : Nat) : KeySlot := (s.vault.slots.find? (·.slot == n)).getD { slot := n }

/-- Writes a key slot, keeping the list by ascending number. -/
def putSlot (k : KeySlot) : List KeySlot → List KeySlot
  | [] => [k]
  | q :: qs => if q.slot = k.slot then k :: qs else if k.slot < q.slot then k :: q :: qs else q :: putSlot k qs

def State.setSlot (s : State) (k : KeySlot) : State :=
  { s with vault := { s.vault with slots := putSlot k s.vault.slots } }

/-- The moons zeroize the keys of a slot (14 R536). -/
def State.dropSlotKeys (s : State) (n : Nat) : State :=
  { s with vault := { s.vault with cached := s.vault.cached.filter (·.2 != n)
                                   grants := s.vault.grants.filter (·.slot != n) } }

/-- Namespaces that name a slot (14 Table 14.6). -/
def State.slotUsers (s : State) (n : Nat) : Nat := (s.ns.filter fun k => k.slot == n && !k.gone).length

/-- Some slot is ERASED (14 R547). -/
def Vault.anyErased (v : Vault) : Bool := v.slots.any fun k => decide (k.st = .erased)

/-- The CUSTODY cause of a vault alarm ends when no slot is ERASED (14 R547). -/
def State.vaultChecked (s : State) : State :=
  if s.mode.causeVault && !s.vault.anyErased then
    ({ s with mode := { s.mode with causeVault := false } }).custodyEnded 0x0E
  else s

/-- The checks of an IMPORT after the unwrap, in order (14 R535). -/
def State.importRefusal (s : State) (d root : Bytes) : Option Comp :=
  let k := s.keySlot (kpSlot d)
  if kcvOf root != kpKcv d then some (Comp.denied 7)
  else match k.st with
    | .loaded => some (Comp.denied 7)
    | .erased => if k.kcv == kpKcv d then none else some (Comp.denied 7)
    | .empty => if s.mode.mode = .custody then some (Comp.plain .readOnly) else none

/-- ADM_KEYSLOT IMPORT (14 R535): the slot becomes LOADED and keeps its generation and usage count. -/
def slotImport (r : HostRead) (c : Cmd) (s : State) : State :=
  s.unwrapped c r (u32At c.desc 12) (u64At c.desc 16) "PX-SLOT" fun root s =>
    match s.importRefusal c.desc root with
    | some k => s.finish c.ref k
    | none =>
      let k := s.keySlot (kpSlot c.desc)
      let s1 := s.setSlot { k with st := .loaded, root := root, kcv := kpKcv c.desc }
      (s1.finish c.ref (Comp.okResult 0)).vaultChecked

/-- ADM_KEYSLOT ERASE (14 R536). -/
def slotErase (c : Cmd) (s : State) : State :=
  let n := kpSlot c.desc
  if s.slotUsers n != 0 then s.finish c.ref (Comp.denied 7)
  else
    let s1 := (s.setSlot { s.keySlot n with st := .empty, root := [], kcv := [] }).dropSlotKeys n
    (s1.finish c.ref (Comp.okResult 0)).vaultChecked

/-- A slot's next generation becomes current; the moons discard their remainders (14 R540, R541). -/
def State.nextGeneration (s : State) (n : Nat) : State :=
  let k := s.keySlot n
  let s1 := s.setSlot { k with gen := k.gen + 1, used := 0 }
  ({ s1 with vault := { s1.vault with grants := s1.vault.grants.filter (·.slot != n) } }).forwardAccount n

/-- ADM_KEYSLOT SET_LIMIT (14 R541). -/
def slotSetLimit (c : Cmd) (s : State) : State :=
  let n := kpSlot c.desc
  let l := kpLimit c.desc
  if l < 24 || 40 < l then s.finish c.ref (Comp.denied 7)
  else
    let s1 := s.setSlot { s.keySlot n with limit := l }
    (if 2 ^ l < (s.keySlot n).used then s1.nextGeneration n else s1).finish c.ref (Comp.okResult 0)

/-- The key slot query record (14 Table 14.6). -/
def slotRecord (k : KeySlot) (users : Nat) : Bytes :=
  toLe 2 k.slot ++ toLe 1 (slotStateCode k.st) ++ toLe 1 k.limit ++ toLe 4 k.gen ++ fit 8 k.kcv ++ toLe 8 k.used ++
    toLe 2 users ++ zeros 6

/-- ADM_KEYSLOT QUERY (14 R537). -/
def slotQuery (w : HostWrite) (c : Cmd) (s : State) : State :=
  let n := kpSlot c.desc
  s.output c w (u32At c.desc 12) (u64At c.desc 16) (slotRecord (s.keySlot n) (s.slotUsers n)) fun s =>
    s.finish c.ref (Comp.okResult 0)

/-- KEYSLOT_IMPORT (14 R535). -/
def execKeyslotImport (ref : Nat) (r : HostRead) (s : State) : Result :=
  .next (s.withReady ref (isAdm 0x4E 1) (slotImport r))

/-- KEYSLOT_ERASE (14 R536). -/
def execKeyslotErase (ref : Nat) (s : State) : Result := .next (s.withReady ref (isAdm 0x4E 2) slotErase)

/-- KEYSLOT_SET_LIMIT (14 R541). -/
def execKeyslotSetLimit (ref : Nat) (s : State) : Result := .next (s.withReady ref (isAdm 0x4E 3) slotSetLimit)

/-- KEYSLOT_QUERY (14 R537). -/
def execKeyslotQuery (ref : Nat) (w : HostWrite) (s : State) : Result :=
  .next (s.withReady ref (isAdm 0x4E 4) (slotQuery w))

end Sys2Proof.Machine
end

