-- ==== Sys2Proof/Machine/DeviceAdm.lean ====
section
/-! DEFINITION. ADM_FORMAT (02 R61), ADM_ATTEST (14 R552, R553), ADM_HEALTH (16 R609, R616) and ADM_LOG_READ (16 R615). -/

namespace Sys2Proof.Machine

/-! ### ADM_FORMAT (02 R61) -/

/-- The mode checks of ADM_FORMAT, then its serial number (02 Table 2.2, R61): COMMISSION comes before a held cause (R52), and
a cause before the pair, between which Table 2.2 gives no order (DESIGN CHOICE, notes/assumptions/62.md). -/
def State.formatRefusal (s : State) (d : Bytes) : Option Comp :=
  if s.mode.mode = .commission then some (Comp.denied 6)
  else if s.mode.custodyCause then some (Comp.plain .readOnly)
  else if s.pair.paired then some (Comp.denied 6)
  else if s.mode.mode ≠ .solo && s.mode.mode ≠ .service then some (Comp.denied 6)
  else if slice d 8 16 != fit 16 s.ident.serial then some (Comp.denied 7)
  else none

/-- Every namespace goes; commands that held their locks finish first (02 R57, 13 R498). -/
def State.formatDone (s : State) (c : Cmd) : State :=
  if s.ns.any fun n => s.inFlightOf n.nsid then s
  else
    let s1 := s.forgetNamespaces fun _ => true
    ({ s1 with ns := [] }).finish c.ref (Comp.okResult c.acc)

/-- The point of a format: no version is readable, comets, object sessions and pins end, the mode is COMMISSION; the CSN series
goes on above the last reservation (06 R238). -/
def State.formatPoint (s : State) (c : Cmd) : State :=
  let n := (s.ns.filter fun k => !k.gone).length
  let s1 := (s.endComets (fun k => k.kind != .rebuild) .aborted 0x08 0 false).endObjects fun _ => true
  let s2 := s1.endPins.forgetNamespaces fun _ => true
  let s3 : State := { s2 with ns := s2.ns.map fun k => { k with gone := true, useBytes := 0, useObjs := 0 }, seq := s2.seq.newBlock }
  let s4 := (s3.setMode .commission 0x03).modCmd c.ref fun c => { c with decided := true, acc := n }
  s4.formatDone { c with acc := n }

/-- ADM_FORMAT (02 R61), in one application of its row, or two while commands that hold their locks are in flight. -/
def execAdmFormat (ref : Nat) (s : State) : Result :=
  .next (s.withReady ref (fun d => dOpcode d == 0x57) fun c s =>
    if c.decided then s.formatDone c
    else match s.formatRefusal c.desc with
      | some k => s.finish c.ref k
      | none => s.formatPoint c)

/-! ### ADM_ATTEST (14 R550, R552, R553) -/

/-- The measurement blocks of 14 Table 14.9, 1 to 6. The byte layout under blocks 5 and 6 is the model's
(notes/assumptions/33.md). -/
def State.measurement (s : State) (i : Nat) : Bytes :=
  if i < 5 then fit 48 ((s.fw.comps.getD (i - 1) {}).running).digest
  else if i = 5 then sha384 (s.fw.comps.flatMap (fun c => toLe 4 c.counter) ++ toLe 2 s.fw.setFmt)
  else sha384 (toLe 4 s.vault.alarms ++ (List.range 8192).flatMap fun n =>
    toLe 1 (slotStateCode (s.keySlot n).st) ++ fit 8 (s.keySlot n).kcv)

/-- Bytes 0 to 335 of the attestation record (14 Table 14.10). -/
def State.attestBody (s : State) (nonce : Bytes) : Bytes :=
  fit 32 nonce ++ toLe 2 1 ++ toLe 1 6 ++ toLe 1 (modeCode s.mode.mode) ++ toLe 4 s.vault.alarms ++ toLe 8 s.time.now ++
  (List.range 6).flatMap fun k => s.measurement (k + 1)

/-- The attestation record with its signature (14 Table 14.10). -/
def State.attestRecord (s : State) (nonce : Bytes) : Bytes :=
  s.attestBody nonce ++ toBe 96 (Config.signature s.fresh (s.attestBody nonce)).toNat

/-- ADM_ATTEST (14 R553). -/
def execAdmAttest (ref : Nat) (w : HostWrite) (s : State) : Result :=
  .next (s.withReady ref (fun d => dOpcode d == 0x58) fun c s =>
    if dValueLen c.desc < 432 then s.finish c.ref (Comp.denied 7)
    else s.output c w (u32At c.desc 12) (u64At c.desc 16) (s.attestRecord (slice c.desc 24 32)) fun s =>
      s.draw.finish c.ref (Comp.okResult 432))

/-! ### ADM_HEALTH (16 R609, R616) -/

/-- The condition of an attention cause holds (16 Table 16.3). -/
def State.conditionHolds (s : State) (bit : Nat) : Bool := match bit with
  | 0 => s.power.step != 12
  | 1 => !s.attn.islands.isEmpty
  | 2 => s.media.moons.any (!·.inService)
  | 3 => s.media.fronts.any (!·.inService)
  | 4 => s.media.moons.any fun m => m.inService && m.degraded && (!m.diesLost.isEmpty || !m.chansLost.isEmpty)
  | 5 => !s.attn.drams.isEmpty
  | 6 => s.feeds.a.lost || s.feeds.b.lost
  | 7 => s.ports.hosts.any fun p => p.failed != 0
  | 8 => s.win.strings.any (!·.inService)
  | 9 => s.attn.writeThru
  | 10 => decide (s.moduleReserve ≤ 10)
  | 11 => s.mode.mode == .custody || s.mode.custodyCause
  | 12 => s.attn.noFree
  | 13 => s.mode.warmingLong
  | 14 => s.attn.lateStart
  | 15 => s.vault.anyErased
  | 16 => s.mode.mode == .eclipse
  | 17 => s.attn.holdsWit
  | 19 => s.mode.mode == .primary && !s.pair.inStep
  | 20 => s.thermal.islands.any (·.tripped)
  | 21 => s.pins.short != 0 || s.pins.contention
  | 22 => s.feeds.a.chan == .latched || s.feeds.b.chan == .latched
  | 24 => s.unrecovered != 0
  | 25 => (List.range 5).any fun m => match s.reported m with
      | some (_, p) => p.state == 3
      | none => false
  | 26 => s.mode.fatal
  | _ => false

/-- An acknowledgement clears each bit of the mask whose condition no longer holds; START_INCOMPLETE cannot be
acknowledged (16 R609). -/
def State.acknowledge (s : State) (mask : Nat) : State :=
  (List.range 32).foldl (fun s b =>
    if bitOf mask b && b != 0 && s.attn.causes.getLsbD b && !s.conditionHolds b then s.clearCause b else s) s

/-- HEALTH_READ (16 R616). -/
def execHealthRead (ref : Nat) (w : HostWrite) (s : State) : Result :=
  .next (s.withReady ref (isAdm 0x59 1) fun c s =>
    s.output c w (u32At c.desc 12) (u64At c.desc 16) (s.healthRecord (bitsOf (u16At c.desc 24) 0 12)) fun s =>
      s.finish c.ref (Comp.okResult 320))

/-- HEALTH_ACK (16 R609, R616): Custodian only. -/
def execHealthAck (ref : Nat) (s : State) : Result :=
  .next (s.withReady ref (isAdm 0x59 2) fun c s =>
    if !s.isCustodian c then s.finish c.ref (Comp.denied 4)
    else
      let s1 := s.acknowledge (u32At c.desc 28)
      s1.finish c.ref (Comp.okResult s1.attn.causes.toNat))

/-! ### ADM_LOG_READ (16 R615) -/

/-- The entries from a sequence number on, at most `n`. -/
def State.logFrom (s : State) (seq n : Nat) : List LogEntry := (s.attn.log.filter fun e => decide (seq ≤ e.seq)).take n

/-- How many entries from a sequence number on have been replaced: those below the lowest SEQ held (16 R615). -/
def State.logMissed (s : State) (seq : Nat) : Nat :=
  let first := (s.attn.log.head?.map (·.seq)).getD s.attn.nextSeq
  min (first - max seq 1) 0xFFFFFFFF

/-- ADM_LOG_READ (16 R615). -/
def execAdmLogRead (ref : Nat) (w : HostWrite) (s : State) : Result :=
  .next (s.withReady ref (fun d => dOpcode d == 0x5A) fun c s =>
    let seq := u64At c.desc 24
    let n := u32At c.desc 32
    if n = 0 || 65536 < n then s.finish c.ref (Comp.denied 7)
    else
      let es := s.logFrom seq n
      let done := fun (s : State) => s.finish c.ref { status := .ok, result := es.length, aux := s.logMissed seq }
      if es.isEmpty then done s else s.output c w (u32At c.desc 12) (u64At c.desc 16) (es.flatMap logBytes) done)

end Sys2Proof.Machine
end

