-- ==== Sys2Proof/Machine/Firmware.lean ====
section
/-! DEFINITION. Firmware images (19 R673 to R684): staging, commit, apply, revert, trial, the rollback point and
MIGRATE_CONFIRM, in-band. -/

namespace Sys2Proof.Machine

/-! ### Staging banks (19 Table 19.4, R674, R675) -/

/-- Largest image of a component in bytes (19 Table 19.4). -/
def maxImage : Nat → Nat
  | 0 => 8388864 | 1 => 67109120 | 2 => 33554688 | _ => 262400

def State.comp (s : State) (n : Nat) : Component := s.fw.comps.getD n {}

/-- Changes a component. -/
def State.modComp (s : State) (n : Nat) (f : Component → Component) : State :=
  { s with fw := { s.fw with comps := s.fw.comps.modify n f } }

/-- Half-open ranges in order of their starts: the number of positions they cover from `lo` on. -/
def coveredFrom : Nat → List (Nat × Nat) → Nat
  | _, [] => 0
  | lo, (a, b) :: rs => (b - max lo a) + coveredFrom (max lo b) rs

/-- The ranges of the staged blocks. -/
def Component.ranges (c : Component) : List (Nat × Nat) :=
  sortBy (fun a b => decide (a.1 ≤ b.1)) (c.staged.map fun p => (p.1, p.1 + p.2.length))

/-- Distinct bytes staged (19 R674). -/
def Component.stagedBytes (c : Component) : Nat := coveredFrom 0 c.ranges

/-- Every byte below `n` is staged. -/
def Component.holds (c : Component) (n : Nat) : Bool :=
  coveredFrom 0 ((c.ranges.map fun r => (min r.1 n, min r.2 n))) == n

/-- The staged bytes; a later write of a byte replaces an earlier one (19 R674). -/
def Component.image (c : Component) : Bytes := c.staged.reverse.foldl (fun acc p => overwrite acc p.1 p.2) []

/-- The staging bank of a component is EMPTY and without owner (19 R675). -/
def Component.empty (c : Component) : Component := { c with stage := .empty, owner := none, staged := [] }

/-- A block is staged: it overwrites the image that the staging bank held. -/
def Component.put (c : Component) (who : BankOwner) (off : Nat) (bs : Bytes) : Component :=
  { c with stage := .receiving, owner := some who, staged := (off, bs) :: c.staged, atCold := false,
           facts := c.facts.modify (1 - b2n c.bankB) fun f => { f with valid := false } }

/-- A sender may use a staging bank: it is EMPTY, or the sender owns it; a session of the owner's credential continues
once the owner's session has ended (19 R675). -/
def State.ownsBank (s : State) (n : Nat) (who : BankOwner) : Bool := match (s.comp n).owner, who with
  | none, _ => true
  | some .service, .service => true
  | some (.session cred sid), .session cred' sid' => sid == sid' || (cred == cred' && (s.session? sid).isNone)
  | _, _ => false

/-- The sender of an in-band command. -/
def State.sender (s : State) (c : Cmd) : BankOwner := .session (s.credOf c) c.sid

/-- ADM_IMAGE_BLOCK (19 R674, R675). -/
def execAdmImageBlock (ref : Nat) (r : HostRead) (s : State) : Result :=
  .next (s.withReady ref (fun d => dOpcode d == 0x52) fun c s =>
    let n := bitsOf (byteAt c.desc 8) 0 2
    let off := u32At c.desc 24
    let len := u32At c.desc 28
    if n = 0 || n = 3 || len = 0 || 16777216 < len || maxImage n < off + len then s.finish c.ref (Comp.denied 7)
    else if !s.ownsBank n (s.sender c) then s.finish c.ref (Comp.plain .busyRetry)
    else s.operand c r (u32At c.desc 12) (u64At c.desc 16) len fun bs s =>
      let s1 := s.modComp n fun k => k.put (s.sender c) off bs
      s1.finish c.ref (Comp.okResult (s1.comp n).stagedBytes))

/-! ### Commit (19 R676, R681) -/

/-- Why a commit fails, with the RESULT of 19 Table 19.2. -/
inductive CommitFailure where
  | format | digest | signature | rollback | incompatible
  deriving DecidableEq, Repr

def CommitFailure.code : CommitFailure → Nat
  | .format => 4 | .digest => 5 | .signature => 6 | .rollback => 7 | .incompatible => 8

/-- The facts of an image in the layout of 19 Table 19.5. -/
def imageFacts (img : Bytes) : ImageFacts :=
  { version := u32At img 8, svn := u32At img 12, setFmt := u16At img 72, setFrom := u16At img 74, medFmt := u16At img 76,
    medFrom := u16At img 78, digest := sha384 img }

/-- A format that an image reads is in use or held by the rollback point (19 R681). -/
def formatFits (inUse : Nat) (held : Option Nat) (lo hi : Nat) : Bool :=
  (decide (lo ≤ inUse) && decide (inUse ≤ hi)) || match held with
    | some h => decide (lo ≤ h) && decide (h ≤ hi)
    | none => false

/-- The image can start on the store as it stands (19 R681); only Front and moon images state formats. -/
def Firmware.canStart (w : Firmware) (n : Nat) (f : ImageFacts) : Bool :=
  n == 0 || n == 3 ||
    (formatFits w.setFmt (w.rollback.map (·.1)) f.setFrom f.setFmt && formatFits w.medFmt (w.rollback.map (·.2)) f.medFrom f.medFmt)

/-- The five checks of a commit, in their order (19 R676). -/
def State.commitFailure (s : State) (n : Nat) (digest : Bytes) : Option CommitFailure :=
  let k := s.comp n
  let img := k.image
  let len := 256 + u32At img 16
  let whole := img.take len
  if !(k.holds 256 && decide (len ≤ maxImage n) && k.holds len && u32At img 0 == 0x4D495850 && u16At img 4 == 1 && byteAt img 6 == n)
  then some .format
  else if sha384 whole != fit 48 digest then some .digest
  else if slice img 24 48 != sha384 (whole.drop 256) || !Config.keyKnown (u32At img 20) ||
      !Config.imageSignatureOk (u32At img 20) (slice img 0 160) (slice img 160 96) then some .signature
  else if u32At img 12 < k.counter then some .rollback
  else if !s.fw.canStart n (imageFacts whole) then some .incompatible
  else none

/-- The bank is VERIFIED and holds its image (19 R676). -/
def Component.verified (c : Component) : Component :=
  let whole := c.image.take (256 + u32At c.image 16)
  { c with stage := .verified, facts := c.facts.modify (1 - b2n c.bankB) fun _ => imageFacts whole }

/-- A commit: its failure, or the VERSION of the VERIFIED bank (19 R676). A failed commit empties the bank. -/
def State.commitImage (s : State) (n : Nat) (who : BankOwner) (digest : Bytes) : State × (CommitFailure ⊕ Nat) :=
  match s.commitFailure n digest with
  | some f => (s.modComp n (·.empty), .inl f)
  | none =>
    let v := u32At (s.comp n).image 8
    (s.modComp n fun k => { k.verified with owner := some who }, .inr v)

/-- The facts of the bank that is not running. -/
def Component.other (c : Component) : ImageFacts := c.facts.getD (1 - b2n c.bankB) { valid := false }

/-- Steps 3 to 5 on the image that ran before (19 R678); a bank that holds no whole image fails step 3. -/
def State.revertFailure (s : State) (n : Nat) : Option CommitFailure :=
  let f := (s.comp n).other
  if !f.valid then some .signature
  else if f.svn < (s.comp n).counter then some .rollback
  else if !s.fw.canStart n f then some .incompatible
  else none

/-! ### Apply (19 R677 to R679) -/

/-- The other bank of a component runs, on trial; its staging bank is EMPTY (19 R677, R679). -/
def Component.switch (c : Component) : Component := { c.empty with bankB := !c.bankB, trial := true, atCold := false }

/-- An apply of a Front or moon image, accepted in SERVICE: the warm start follows 10 ms later (19 R677). -/
def State.applyLater (s : State) (n : Nat) : State := { s with fw := { s.fw with applying := (n :: s.fw.applying).eraseDups } }

/-- An in-band commit, with what follows a VERIFIED bank. -/
def State.commitInBand (s : State) (c : Cmd) (next : Nat → Nat → State → State) : State :=
  let n := bitsOf (byteAt c.desc 8) 0 2
  if n = 0 || n = 3 then s.finish c.ref (Comp.denied 7)
  else if !s.ownsBank n (s.sender c) then s.finish c.ref (Comp.plain .busyRetry)
  else match s.commitImage n (s.sender c) (slice c.desc 16 48) with
    | (s1, .inl _) => s1.finish c.ref (Comp.denied 7)
    | (s1, .inr v) => next n v s1

/-- A commit command: its opcode, and the APPLY and REVERT bits of byte 9 (19 R676). -/
def isCommit (apply revert : Bool) (d : Bytes) : Bool :=
  dOpcode d == 0x53 && bitOf (byteAt d 9) 0 == apply && bitOf (byteAt d 9) 1 == revert

/-- ADM_IMAGE_COMMIT without APPLY (19 R676); with REVERT alone it changes nothing (R678). -/
def execAdmImageCommit (ref : Nat) (s : State) : Result :=
  .next (s.withReady ref (fun d => isCommit false false d || isCommit false true d) fun c s =>
    if isCommit false true c.desc then s.finish c.ref (Comp.okResult 0)
    else s.commitInBand c fun _ v s => s.finish c.ref (Comp.okResult v))

/-- IMAGE_COMMIT_APPLY (19 R677). -/
def execImageCommitApply (ref : Nat) (s : State) : Result :=
  .next (s.withReady ref (isCommit true false) fun c s =>
    s.commitInBand c fun n v s =>
      if s.mode.mode ≠ .service then s.finish c.ref (Comp.denied 6)
      else (s.finish c.ref (Comp.okResult v)).applyLater n)

/-- IMAGE_COMMIT_REVERT (19 R678): REVERT with APPLY. -/
def execImageCommitRevert (ref : Nat) (s : State) : Result :=
  .next (s.withReady ref (isCommit true true) fun c s =>
    let n := bitsOf (byteAt c.desc 8) 0 2
    if n = 0 || n = 3 then s.finish c.ref (Comp.denied 7)
    else if !s.ownsBank n (s.sender c) then s.finish c.ref (Comp.plain .busyRetry)
    else if (s.revertFailure n).isSome then s.finish c.ref (Comp.denied 7)
    else if s.mode.mode ≠ .service then s.finish c.ref (Comp.denied 6)
    else (s.finish c.ref (Comp.okResult (s.comp n).other.version)).applyLater n)

/-- The components that a warm start applies: those asked for, and every VERIFIED one of Front and moon (19 R677). -/
def Firmware.toApply (w : Firmware) : List Nat :=
  [1, 2].filter fun n => decide (n ∈ w.applying) || decide (((w.comps.getD n {}).stage) = .verified)

/-- APPLY_WARM_START (19 R677): the warm start of 02 R85 from the new banks. -/
def execApplyWarmStart (s : State) : Result :=
  .next (if s.fw.applying.isEmpty || !s.canShutdown then s
    else
      let s1 := s.beginShutdown .warmStart []
      s.fw.toApply.foldl (fun s n => s.modComp n (·.switch)) s1)

/-- TRIAL_BANK_FAIL (19 R679): the previous bank runs at the next attempt. -/
def execTrialBankFail (comp : Nat) (s : State) : Result :=
  .next (if (s.comp comp).trial then s.modComp comp fun k => { k with bankB := !k.bankB, trial := false } else s)

/-- IMAGE_BANK_TIMEOUT (19 R675): 10 min without a block or commit from the owner. -/
def execImageBankTimeout (comp : Nat) (s : State) : Result :=
  .next (if (s.comp comp).stage = .empty then s else s.modComp comp (·.empty))

/-! ### Formats and the rollback point (19 R680 to R684) -/

/-- A value in a range. -/
def inRange (lo hi x : Nat) : Bool := decide (lo ≤ x) && decide (x ≤ hi)

/-- The start of a running Front or moon image on the store (19 R681 to R683): the rollback point's formats when the
ones in use are not read, which releases the point; then migration of the settings store to a newer format, with a
rollback point (02 R80). -/
def Firmware.startOn (w : Firmware) (f : ImageFacts) : Firmware :=
  let fits := inRange f.setFrom f.setFmt w.setFmt && inRange f.medFrom f.medFmt w.medFmt
  let w1 := match fits, w.rollback with
    | false, some (a, b) =>
      { w with setFmt := if inRange f.setFrom f.setFmt w.setFmt then w.setFmt else a
               medFmt := if inRange f.medFrom f.medFmt w.medFmt then w.medFmt else b
               rollback := none }
    | _, _ => w
  if w1.setFmt < f.setFmt then
    { w1 with rollback := some (w1.rollback.getD (w1.setFmt, w1.medFmt)), setFmt := f.setFmt }
  else w1

/-- On-media metadata is migrated to an image's newer format, with a rollback point (02 R80, 19 R681 to R683). -/
def Firmware.migrateMedia (w : Firmware) (f : ImageFacts) : Firmware :=
  if w.medFmt < f.medFmt then
    { w with rollback := some (w.rollback.getD (w.setFmt, w.medFmt)), medFmt := f.medFmt }
  else w

/-- The formats at a start: the Front image, then the moon image. -/
def State.startFormats (s : State) : State :=
  { s with fw := [1, 2].foldl (fun w n => w.startOn (s.comp n).running) s.fw }

/-- Background migration after step 12 (02 R80). -/
def State.migrateMedia (s : State) : State :=
  { s with fw := [1, 2].foldl (fun w n => w.migrateMedia (s.comp n).running) s.fw }

/-- MIGRATE_CONFIRM (19 R680, R684): the counters rise to the running images' SVN, and the rollback point goes. -/
def State.migrateConfirm (s : State) : State :=
  { s with fw := { s.fw with comps := s.fw.comps.map fun k => { k with counter := max k.counter k.running.svn }
                             rollback := none } }

/-- ADM_MIGRATE_CONFIRM (19 R684). -/
def execAdmMigrateConfirm (ref : Nat) (s : State) : Result :=
  .next (s.withReady ref (fun d => dOpcode d == 0x54) fun c s =>
    s.migrateConfirm.finish c.ref (Comp.okResult (b2n s.fw.rollback.isSome)))

end Sys2Proof.Machine
end

