-- ==== Sys2Proof/Machine/SessionEv.lean ====
section
/-! DEFINITION. Session and ring events (03 R91 to R93, R118 to R130, R137, R138, R147 to R152; 10 R408 to R411). -/

namespace Sys2Proof.Machine

/-! ### Connections (03 R91 to R93, R153; 02 R79; 15 R556, R557) -/

/-- Front of a logical port: host ports 0 to 15 are Front A's, 16 to 31 Front B's (01 R23, R27). -/
def frontOfPort (l : Nat) : Front := if l < 64 then .a else .b

/-- The connection request is accepted. -/
def State.acceptsConnection (s : State) (q : ConnReq) : Bool :=
  s.fetching && q.mtu == 4096 && q.reliable && q.serviceId == s.settings.serviceId && s.portExists q.lport &&
    decide (s.sess.sessions.length < 65536) && (!q.service || s.mode.mode == .primary || s.mode.mode == .solo)

/-- A handle that no live or orphaned session uses (03 Table 3.2), and that selects a bank with room (10 R396). -/
def State.newHandle (s : State) : Nat :=
  let start := (Config.sessionHandle s.fresh).toNat
  let used := s.sess.sessions.map (·.handle)
  let tries := (List.range (8 * (used.length + 1))).map fun k => (start + k) % 2 ^ 32
  (tries.find? fun h => decide (h ∉ used) && s.handleFits h).getD (unusedFrom used (2 ^ 32) (used.length + 1) start)

/-- The place of a new Session Table row (10 R396). -/
def State.newRow (s : State) (handle : Nat) : Nat := (placeRow s.sessPlaces (List.range 256) [handle % 8]).getD 0

/-- A queue pair number that no session uses (10 Table 10.7). -/
def State.newQpn (s : State) : Nat :=
  unusedFrom (s.sess.sessions.map (·.qpn)) (2 ^ 24) (s.sess.sessions.length + 1) (Config.queuePair s.fresh).toNat

/-- REP private data (03 Table 3.2). -/
def repData (moduleId handle n : Nat) : Bytes :=
  toLe 2 1 ++ toLe 2 moduleId ++ toLe 4 handle ++ toLe 8 Config.setupAddr.toNat ++ toLe 4 (Config.setupRkey n).toNat ++
    toLe 4 (Config.nudgeRkey n).toNat ++ toLe 8 (Config.nudgeAddr n).toNat ++ zeros 32

/-- The session of an accepted request: PENDING, with a 10 s limit (10 Table 10.8), on the Front of the port that carries its
addresses now (01 R28). -/
def State.newSession (s : State) (q : ConnReq) : Session :=
  { sid := s.sess.nextSid, row := s.newRow s.newHandle, handle := s.newHandle, qpn := s.newQpn, hostQpn := q.hostQpn % 2 ^ 24,
    moduleId := s.ident.moduleId,
    front := frontOfPort (if ((s.ports.logical[q.lport]?).map (·.away)).getD false then (if q.lport < 64 then q.lport + 64 else q.lport - 64) else q.lport),
    lport := q.lport, service := q.service, addr := q.addr, carried := q.service && s.mode.mode == .primary }

/-- CONNECTION_REQUEST: REJ, or a new session and its REP (03 R91, R93); it wakes the module (02 R73). Before step 12 of a start
nothing answers (02 R79). -/
def execConnectionRequest (req : ConnReq) (s : State) : Result :=
  .next (if s.acceptsConnection req then
      let x := s.newSession req
      let s1 : State := { s with sess := { s.sess with sessions := s.sess.sessions ++ [x], nextSid := s.sess.nextSid + 1 } }
      (s1.emit (.rep x.sid req.lport (repData s.ident.moduleId x.handle s.fresh))).draw.wake
    else if s.onAir then s.emit (.rej req.lport) else s)

/-! ### Ends and errors (03 R92, R147, R152; 10 R409, R410) -/

/-- HOST_DREQ (03 R152): the module answers with DREP (Table 3.1), and the session ends. -/
def execHostDreq (sid : Nat) (s : State) : Result :=
  .next (if (s.session? sid).isSome then (s.emit (.drep sid)).endSession sid false else s)

/-- INVALID_HOST_OPERATION (03 R92): NAK, and the queue pair enters the error state. -/
def execInvalidHostOperation (sid : Nat) (s : State) : Result :=
  .next (if (s.session? sid).isSome then (s.emit (.nak sid)).orphan sid else s)

/-- QP_ERROR (03 R147). -/
def execQpError (sid : Nat) (s : State) : Result := .next (s.orphan sid)

/-- Ageing of a row pauses: LIVE rows in P2 and P3 (10 R409). -/
def State.agePaused (s : State) (x : Session) : Bool :=
  decide (x.cls = .live) && (s.power.pstate == .p2 || s.power.pstate == .p3)

/-- A visit of the ageing sweep ages a row out: AGE has reached a LIMIT other than 0 (10 R410). -/
def State.agesOut (s : State) (x : Session) : Bool := !s.agePaused x && x.limit != 0 && decide (x.limit ≤ x.age)

/-- A visit of the ageing sweep to a row that stays: its age goes up by 1 ms, up to 0xFFFF_FFFF (10 R410). -/
def State.aged (s : State) (x : Session) : Session :=
  if s.agePaused x || s.agesOut x then x else { x with age := min (x.age + 1) 0xFFFFFFFF }

/-- A row ages out (10 Table 10.8): a PENDING or LIVE session is disconnected, an orphaned one ends. -/
def State.ageOut (s : State) (x : Session) : State := s.endSession x.sid (x.cls != .orphan)

/-- The ageing sweep of a millisecond (10 R410). -/
def State.ageRows (s : State) : State :=
  let s1 : State := { s with sess := { s.sess with sessions := s.sess.sessions.map s.aged } }
  (s.sess.sessions.filter s.agesOut).foldl State.ageOut s1

/-- A nanosecond passes: module time counts while the time island runs (17 R641), and every millisecond of it the Session
Table ages (10 R410). -/
def State.tick (s : State) : State :=
  if s.time.up then
    let s1 : State := { s with time := { s.time with now := s.time.now + 1 } }
    if s1.time.now % 1000000 = 0 then s1.ageRows else s1
  else s

/-- SESSION_AGE_OUT (10 R410): the sweep visits a session's row and ages it out, if AGE has reached LIMIT. -/
def execSessionAgeOut (sid : Nat) (s : State) : Result :=
  .next (match s.session? sid with
    | some x => if s.agesOut x then s.ageOut x else s
    | none => s)

/-- ORPHAN_HOLD_EXPIRE (03 R149, R152): the row of an orphaned session has reached the orphan hold time (10 R410). -/
def execOrphanHoldExpire (sid : Nat) (s : State) : Result :=
  .next (match s.session? sid with
    | some x => if x.cls = .orphan && s.agesOut x then s.ageOut x else s
    | none => s)

/-! ### Polling and fetching (03 R118 to R130) -/

/-- DOORBELL_POLL: one RDMA READ of an ACTIVE ring's Doorbell Record (03 R121, R122). -/
def execDoorbellPoll (sid ring : Nat) (s : State) : Result :=
  .next (match s.ring? sid ring with
    | some r =>
      if r.st = .active && !r.reread && s.polls sid && s.fetching then
        (s.emit (readDoorbell sid r)).modRing sid ring fun r => { r with polled := r.polled + 1 }
      else s
    | none => s)

/-- DOORBELL_READ_RESPONSE (03 R119; 10 R409): the answer to a poll, or to the re-read of a ring that goes idle (03 R124). The
answers come in the order of the reads, so that of the re-read follows those of every poll that was outstanding. -/
def execDoorbellReadResponse (sid ring : Nat) (producer : BitVec 32) (s : State) : Result :=
  .next (match s.ring? sid ring with
    | some r =>
      if s.polls sid then
        let s1 := (s.refresh sid).modRing sid ring fun r => { r with polled := r.polled - 1 }
        if r.st ≠ .active then s1
        else if r.reread && r.polled == 0 then s1.rereadDone sid ring producer
        else s1.sawProducer sid r producer
      else s
    | none => s)

/-- DESCRIPTOR_FETCH (03 R118; 04 R184): the answer to the RDMA READ that is outstanding; its descriptors are taken in
count order, and a fetched descriptor wakes the module (02 R73). -/
def execDescriptorFetch (sid ring : Nat) (descs : List Bytes) (s : State) : Result :=
  .next (match s.ring? sid ring with
    | some r =>
      let got := descs.take r.asked
      if r.st = .active && s.polls sid && s.fetching && !got.isEmpty then
        (((s.refresh sid).wake).modRing sid ring fun r => { r with asked := 0, ahead := r.ahead ++ got }).goOnFetching sid ring
      else s
    | none => s)

/-- RING_IDLE_TIMEOUT (03 R124): `reread` is what the re-read of step 2 returns. -/
def execRingIdleTimeout (sid ring : Nat) (reread : BitVec 32) (s : State) : Result :=
  .next (match s.ring? sid ring with
    | some r => if r.st = .active && s.polls sid then ((s.refresh sid).markIdle sid r).rereadDone sid ring reread else s
    | none => s)

/-- IDLE_SWEEP (03 R126): in P0 and P1, the Doorbell Records of IDLE rings are read again. -/
def execIdleSweep (seen : List (Nat × Nat × BitVec 32)) (s : State) : Result :=
  .next (if (s.power.pstate = .p0 || s.power.pstate = .p1) && s.fetching then
      seen.foldl (fun s e => match s.ring? e.1 e.2.1 with
        | some r => if r.st = .idle && s.polls e.1 then ((s.emit (readDoorbell e.1 r)).refresh e.1).leaveIdle e.1 r e.2.2 else s
        | none => s) s
    else s)

/-! Fields of a Nudge's immediate value (03 Table 3.8). -/

def nudgeType (imm : BitVec 32) : Nat := bitsOf imm.toNat 28 4
def nudgeAll (imm : BitVec 32) : Bool := bitOf imm.toNat 12
def nudgeIdx (imm : BitVec 32) : Nat := bitsOf imm.toNat 0 12

/-- One ring that a Nudge names: its Doorbell Record is read, and it goes ACTIVE on a producer advance (03 R128). -/
def State.nudgeRing (s : State) (sid : Nat) (r : Ring) (seen : List (Nat × BitVec 32)) : State :=
  let p := ((seen.find? (·.1 == r.idx)).map (·.2)).getD r.producer
  (s.emit (readDoorbell sid r)).leaveIdle sid r p

/-- A Nudge is counted and wakes the module (03 R127, R130). One that names a STOPPED, FAULTED or absent ring is ignored
(R128), as is one for an ACTIVE ring (Table 3.7) and, a point the manual leaves open, one for a RESETTING ring (DESIGN
CHOICE, notes/assumptions/65.md). An immediate with another TYPE is counted and ignored: it is no Nudge, and wakes
nothing (Table 3.8). -/
def State.nudged (s : State) (x : Session) (imm : BitVec 32) (seen : List (Nat × BitVec 32)) : State :=
  let s1 : State := { s with sess := { s.sess with nudges := s.sess.nudges + 1 } }
  let ignored := fun (s : State) => { s with sess := { s.sess with ignored := s.sess.ignored + 1 } }
  if nudgeType imm != 1 then ignored s1
  else if nudgeAll imm then
    (x.rings.filter fun r => decide (r.st = .idle)).foldl (fun s r => s.nudgeRing x.sid r seen) s1.wake
  else match x.ring? (nudgeIdx imm) with
    | some r => if r.st = .idle then s1.wake.nudgeRing x.sid r seen else ignored s1.wake
    | none => ignored s1.wake

/-- NUDGE (03 R127 to R130). -/
def execNudge (sid : Nat) (imm : BitVec 32) (seen : List (Nat × BitVec 32)) (s : State) : Result :=
  .next (match s.session? sid with
    | some x => if x.cls = .orphan then s else (s.refresh sid).nudged x imm seen
    | none => s)

/-- COMPLETION_EVENT (03 R137, R138): at the end of an EVENT_INTERVAL one event announces what it brought. -/
def execCompletionEvent (sid ring : Nat) (s : State) : Result :=
  .next (match s.ring? sid ring with
    | some r =>
      if r.eventDue && s.polls sid then ((s.emitAll (eventOutput sid r)).refresh sid).modRing sid ring fun r => { r with eventDue := false }
      else s
    | none => s)

end Sys2Proof.Machine
end

