-- ==== Sys2Proof/Machine/Staged.lean ====
section
/-! DEFINITION. Staged groups of the Setup Register Space: writes, apply, discard (18 R659 to R663, Table 18.15 to Table
18.20; 17 R620 to R622, R629). -/

namespace Sys2Proof.Machine

/-! ### The groups and their staging words -/

/-- RESULT of an apply (18 Table 18.15). -/
inductive ApplyResult where
  | applied | refusedMode | refusedSeq | invalid
  deriving DecidableEq, Repr

def ApplyResult.code : ApplyResult → Nat
  | .applied => 1 | .refusedMode => 2 | .refusedSeq => 3 | .invalid => 4

/-- A write of a staged field, or a discard, increments STAGE_SEQ (18 Table 18.15). -/
def StageWords.bump (w : StageWords) : StageWords := { w with seq := (w.seq + 1) % 65536 }

/-- The words after an apply with this result. -/
def StageWords.apply (w : StageWords) (r : ApplyResult) : StageWords :=
  { w with result := r.code, applies := if r = .applied then (w.applies + 1) % 65536 else w.applies }

/-- The words after a discard. -/
def StageWords.discard (w : StageWords) : StageWords := { w.bump with result := 5 }

/-- Changes a host port. -/
def State.modHost (s : State) (n : Nat) (f : HostPort → HostPort) : State :=
  { s with ports := { s.ports with hosts := s.ports.hosts.modify n f } }

/-- Changes a logical port. -/
def State.modLogical (s : State) (l : Nat) (f : LPort → LPort) : State :=
  { s with ports := { s.ports with logical := s.ports.logical.modify l f } }

/-- Changes the bootstrap group. -/
def State.modBoot (s : State) (f : Bootstrap → Bootstrap) : State :=
  { s with creds := { s.creds with boot := f s.creds.boot } }

/-- The bootstrap group is reached over the sideband paths only (18 Table 18.20). -/
def sideband : Path → Bool
  | .inband _ => false
  | _ => true

/-! ### Writes to staged fields (18 R659) -/

/-- A word of a host port's staged fields; ports 16 to 31 have no BREAKOUT of their own (18 Table 18.17). -/
def stagePort (n word : Nat) (w : Nat) (c : PortCfg) : PortCfg := match word with
  | 0 => { c with breakout := if n < 16 then bitsOf w 0 2 else c.breakout, pfcEn := bitOf w 2 }
  | 1 => { c with dscp := bitsOf w 0 30 }
  | _ => { c with pcp := bitsOf w 0 15 }

/-- The bits of a logical port word that are staged fields (18 Table 18.18). -/
def logicalMask (word : Nat) : Word := match word with
  | 1 => 0x0000FFFF#32
  | 3 => 0x000FFFFF#32
  | 13 => 0x0000FFFF#32
  | 15 => 0xFFFF007F#32
  | _ => 0xFFFFFFFF#32

/-- A write of a staged word into its group's staging copy; an offset that holds no staged field changes nothing. -/
def State.writeStaged (s : State) (p : Path) (off : Nat) (w : Word) : State :=
  if 0x1000 ≤ off ∧ off < 0x1800 ∧ off % 64 < 12 then
    let n := (off - 0x1000) / 64
    s.modHost n fun h => { h with stage := stagePort n (off % 64 / 4) w.toNat h.stage, words := h.words.bump }
  else if 0x2000 ≤ off ∧ off < 0x6000 ∧ off % 128 < 0x60 then
    let l := (off - 0x2000) / 128
    let bs := toLe 4 (w &&& logicalMask (off % 128 / 4)).toNat
    s.modLogical l fun q => { q with stage := overwrite q.stage (off % 128) bs, words := q.words.bump }
  else if sideband p ∧ 0x0C00 ≤ off ∧ off < 0x0C24 then
    s.modBoot fun b =>
      let b1 := { b with stageSeq := (b.stageSeq + 1) % 65536 }
      if off = 0x0C00 then { b1 with cred := w.toNat }
      else { b1 with secret := overwrite (fit 32 b.secret) (off - 0x0C04) (toLe 4 w.toNat) }
  else s

/-- STAGED_FIELD_WRITE (18 R659). -/
def execStagedFieldWrite (p : Path) (offset : Nat) (w : Word) (s : State) : Result :=
  .next (if offset % 4 = 0 then s.onPath p fun s => s.writeStaged p offset w else s)

/-! ### Host port groups (17 R621, R622; 18 R660) -/

/-- The staged BREAKOUT of a host port: ports 16 to 31 read the twin's live value (18 Table 18.17). -/
def State.stagedBreakout (s : State) (n : Nat) : Nat :=
  if n < 16 then (s.host n).stage.breakout else (s.host (n - 16)).live.breakout

/-- The checks of a host port group (18 R660; 17 R622; 18 Table 18.17). -/
def State.portCheck (s : State) (n expectSeq : Nat) : ApplyResult :=
  if expectSeq % 65536 ≠ (s.host n).words.seq then .refusedSeq
  else if s.stagedBreakout n ≠ (s.host n).live.breakout ∧ s.mode.mode ≠ .commission ∧ s.mode.mode ≠ .service then .refusedMode
  else if s.stagedBreakout n = 3 then .invalid
  else .applied

/-- A breakout mode in force on a port, which retrains (17 R622). -/
def HostPort.rebreak (b : Nat) (h : HostPort) : HostPort :=
  { h with live := { h.live with breakout := b }, stage := { h.stage with breakout := b }, linkUp := 0, failed := 0, laneLock := 0 }

/-- Sessions on a host port end with the change of its mode, and so do those of its twin (17 R622). -/
def onTwins (n : Nat) (x : Session) : Bool := x.lport / 4 % 16 == n % 16

/-- A host port group becomes live (18 R659, R660). -/
def State.applyPort (s : State) (n : Nat) : State :=
  let b := s.stagedBreakout n
  let changed := b != (s.host n).live.breakout
  let s1 := s.modHost n fun h => { h with live := { h.stage with breakout := b }, stage := { h.stage with breakout := b } }
  if changed then
    ((s1.modHost (n % 16) (·.rebreak b)).modHost (n % 16 + 16) (·.rebreak b)).endSessions (onTwins n) true
  else s1

/-- PORT_CONFIG_APPLY (18 R659, R660). -/
def execPortConfigApply (p : Path) (port expectSeq : Nat) (s : State) : Result :=
  .next (if 32 ≤ port then s else s.onPath p fun s =>
    let r := s.portCheck port expectSeq
    let s1 := if r = .applied then s.applyPort port else s
    s1.modHost port fun h => { h with words := h.words.apply r })

/-! ### Logical port groups (17 R627 to R629; 18 R661) -/

/-- Fields of a logical port's 96 bytes (18 Table 18.18). -/
def lpMac (b : Bytes) : Bytes := slice b 0 6
def lpSvcMac (b : Bytes) : Bytes := slice b 0x30 6
def lpFlags (b : Bytes) : Nat := u32At b 12
def lpSvcEn (b : Bytes) : Bool := bitOf (lpFlags b) 3
def lpVlan (b : Bytes) : Option Nat := if bitOf (lpFlags b) 7 then some (bitsOf (lpFlags b) 8 12) else none

/-- A member IP address by its number (0 IPv4, 1 IPv6_A, 2 IPv6_B) while it is enabled. -/
def lpMember (b : Bytes) (k : Nat) : Option Bytes :=
  if bitOf (lpFlags b) k then some (if k = 0 then slice b 8 4 else slice b (16 * k) 16) else none

/-- A service IP address by its number while it is enabled. -/
def lpService (b : Bytes) (k : Nat) : Option Bytes :=
  if lpSvcEn b && bitOf (lpFlags b) (4 + k) then some (if k = 0 then slice b 0x38 4 else slice b (0x30 + 16 * k) 16) else none

/-- A MAC address is multicast or all zero (18 R661). -/
def badMac (m : Bytes) : Bool := bitOf (byteAt m 0) 0 || m.all (· == 0)

/-- An IP address is multicast, unspecified or loopback (18 R661). -/
def badIp (a : Bytes) : Bool :=
  a.all (· == 0) ||
    (if a.length = 4 then (decide (224 ≤ byteAt a 0) && decide (byteAt a 0 < 240)) || byteAt a 0 == 127
     else byteAt a 0 == 255 || a == zeros 15 ++ [1])

/-- The IP addresses of a set. -/
def lpIps (b : Bytes) (service : Bool) : List Bytes :=
  (List.range 3).filterMap fun k => if service then lpService b k else lpMember b k

/-- The service set is carried: the module is PRIMARY or SOLO (18 R661). -/
def State.carriesService (s : State) : Bool := s.mode.mode == .primary || s.mode.mode == .solo

/-- MAC and IP addresses that a logical port carries (17 R627, 18 R661). -/
def State.carriedMacs (s : State) (l : Nat) : List Bytes :=
  let b := (s.logical l).live
  if s.portExists l then lpMac b :: (if lpSvcEn b && s.carriesService then [lpSvcMac b] else []) else []

def State.carriedIps (s : State) (l : Nat) : List Bytes :=
  let b := (s.logical l).live
  if s.portExists l then lpIps b false ++ (if s.carriesService then lpIps b true else []) else []

/-- ASYMMETRY is signed, -4,000 to +4,000 (18 Table 18.18). -/
def asymmetryOk (b : Bytes) : Bool := decide (u16At b 0x3E ≤ 4000) || decide (65536 - 4000 ≤ u16At b 0x3E)

/-- The checks of a logical port group (18 R661). -/
def State.addressValid (s : State) (l : Nat) (b : Bytes) : Bool :=
  let others := (List.range 128).filter (· != l)
  let macs := lpMac b :: (if lpSvcEn b then [lpSvcMac b] else [])
  let ips := lpIps b false ++ lpIps b true
  let vlanOk := match lpVlan b with
    | some v => v != 0 && v != 4095
    | none => true
  !macs.any badMac && !ips.any badIp && vlanOk && asymmetryOk b &&
    !others.any fun m => (s.carriedMacs m).any (fun a => decide (a ∈ macs)) || (s.carriedIps m).any fun a => decide (a ∈ ips)

/-- The member address of a session is gone from its port's new set (18 R661). -/
def addressGone (l : Nat) (old new : Bytes) (x : Session) : Bool :=
  x.lport == l && !x.service && (lpMember old x.addr).isSome && lpMember new x.addr != lpMember old x.addr

/-- A logical port carries a new or changed address (18 R661, 17 R629). -/
def State.addressNews (s : State) (old new : Bytes) : Bool :=
  let sets := fun (b : Bytes) => (List.range 3).map (lpMember b)
  let svc := fun (b : Bytes) => (List.range 3).map (lpService b)
  let fresh := fun (a b : List (Option Bytes)) => (a.zip b).any fun p => p.2.isSome && p.1 != p.2
  let member := fresh (sets old) (sets new) || ((lpIps new false).length != 0 && lpMac old != lpMac new)
  let service := fresh (svc old) (svc new) || ((lpIps new true).length != 0 && lpSvcMac old != lpSvcMac new)
  member || (service && s.carriesService)

/-- A logical port announces its addresses, now and twice again (17 R629). -/
def State.announcePort (s : State) (l : Nat) : State :=
  (s.modLogical l fun q => { q with announce := 2 }).emit (.announce l)

/-- A logical port group becomes live (18 R661). -/
def State.applyAddress (s : State) (l : Nat) : State :=
  let old := (s.logical l).live
  let new := (s.logical l).stage
  let s1 := (s.modLogical l fun q => { q with live := q.stage }).endSessions (addressGone l old new) true
  if s.portExists l && s.addressNews old new then s1.announcePort l else s1

/-- The result of an apply of a logical port group (18 R659, R661). -/
def State.addressCheck (s : State) (l expectSeq : Nat) : ApplyResult :=
  if expectSeq % 65536 ≠ (s.logical l).words.seq then .refusedSeq
  else if !s.addressValid l (s.logical l).stage then .invalid
  else .applied

/-- ADDRESS_APPLY (18 R659, R661). -/
def execAddressApply (p : Path) (lport expectSeq : Nat) (s : State) : Result :=
  .next (if 128 ≤ lport then s else s.onPath p fun s =>
    let r := s.addressCheck lport expectSeq
    let s1 := if r = .applied then s.applyAddress lport else s
    s1.modLogical lport fun q => { q with words := q.words.apply r })

/-! ### The bootstrap group (18 R663) -/

/-- The result of an apply of the bootstrap group. -/
def State.bootCheck (s : State) (expectSeq : Nat) : ApplyResult :=
  let b := s.creds.boot
  if expectSeq % 65536 ≠ b.stageSeq then .refusedSeq
  else if (s.creds.list.any (·.role == 1)) && s.mode.mode ≠ .service then .refusedMode
  else if b.cred = 0 || s.creds.list.any (·.cred == b.cred) then .invalid
  else .applied

/-- The Custodian credential of the bootstrap group is created. -/
def State.applyBoot (s : State) : State :=
  let b := s.creds.boot
  let k : Credential := { cred := b.cred, role := 1, secret := fit 32 b.secret }
  { s with creds := { s.creds with list := s.creds.list ++ [k], boot := { b with live := b.cred } } }

/-- An apply of the bootstrap group; the staged SECRET is zeroed after any (18 R663). -/
def State.bootApply (s : State) (expectSeq : Nat) : State :=
  let r := s.bootCheck expectSeq
  let s1 := if r = .applied then s.applyBoot else s
  s1.modBoot fun b => { b with secret := [], result := r.code,
                               applies := if r = .applied then (b.applies + 1) % 65536 else b.applies }

/-- BOOTSTRAP_APPLY (18 R659, R663): in-band the block ignores writes. -/
def execBootstrapApply (p : Path) (expectSeq : Nat) (s : State) : Result :=
  .next (s.onPath p fun s => if sideband p then s.bootApply expectSeq else s)

/-! ### Discard (18 R659) -/

/-- A staging copy takes the live values. -/
def State.discard (s : State) (p : Path) : StageGroup → State
  | .hostPort n => s.modHost n fun h => { h with stage := h.live, words := h.words.discard }
  | .logicalPort l => s.modLogical l fun q => { q with stage := q.live, words := q.words.discard }
  | .bootstrap =>
    if sideband p then
      s.modBoot fun b => { b with cred := b.live, secret := [], stageSeq := (b.stageSeq + 1) % 65536, result := 5 }
    else s

/-- STAGE_DISCARD (18 R659). -/
def execStageDiscard (p : Path) (g : StageGroup) (s : State) : Result := .next (s.onPath p fun s => s.discard p g)

end Sys2Proof.Machine
end

