-- ==== Sys2Proof/Machine/Setup.lean ====
section
/-! DEFINITION. The Session Setup block (18 Table 18.21, R664 to R667; 03 R94 to R96, R140, R146, R150, R151). -/

namespace Sys2Proof.Machine

/-- STATE of the block: EMPTY 0, ACTIVE 1, INVALID 2, STOPPED 3, FAULTED 4, RESETTING 5 (18 Table 18.21). -/
def Session.setupState (x : Session) : Nat := match x.ring? 0 with
  | none => x.setup.state
  | some r => match r.st with
    | .active | .idle => 1
    | .stopped => if x.setup.state = 2 then 2 else 3
    | .faulted => 4
    | .resetting => 5

/-- The offset of the first ring field that breaks a rule of 03 Table 3.4 or R96 (18 R664). -/
def SetupBlock.invalid (b : SetupBlock) : Option Nat :=
  if !aligned b.sqBase 4096 then some 0x08
  else if !aligned b.cqBase 4096 then some 0x10
  else if !aligned b.dbAddr 8 then some 0x18
  else if !logInRange b.sqLog2 4 10 || !logInRange b.cqLog2 b.sqLog2 16 then some 0x24
  else if b.idleTime != 0 && !(decide (20 ≤ b.idleTime) && decide (b.idleTime ≤ 100000)) then some 0x28
  else if decide (1000 < b.eventIvl) || b.event == 3 then some 0x2C
  else none

/-- The admin ring that the block describes, on top of `r` (18 R664): all three indices at 0. -/
def SetupBlock.ring (b : SetupBlock) (r : Ring) : Ring :=
  { startRing r with sqBase := b.sqBase, cqBase := b.cqBase, dbAddr := b.dbAddr, rkey := b.rkey, sqLog2 := b.sqLog2,
                     cqLog2 := b.cqLog2, ordered := b.ordered, event := b.event,
                     idleTime := if b.idleTime = 0 then 200 else b.idleTime,
                     eventIvl := if b.eventIvl = 0 then 10 else b.eventIvl }

/-- A session's admin ring is put in place and the block shows ACTIVE. -/
def Session.withAdmin (x : Session) (r : Ring) : Session :=
  { x with rings := r :: x.rings.filter (·.idx != 0), setup := { x.setup with state := 1, invalidAt := 0 } }

/-- The block shows INVALID (18 R664). -/
def Session.invalidSetup (x : Session) (at_ : Nat) : Session :=
  { x with setup := { x.setup with state := 2, invalidAt := at_ } }

/-- The block may be enabled: STATE is EMPTY, INVALID or STOPPED (18 R664). -/
def Session.mayEnable (x : Session) : Bool := decide (x.setupState ∈ [0, 2, 3])

/-- ENABLE checks the ring fields, then starts or restarts the admin ring (18 R664, 03 R95, R112, R113). -/
def Session.enable (x : Session) : Session := match x.setup.invalid with
  | some o => x.invalidSetup o
  | none => x.withAdmin (x.setup.ring ((x.ring? 0).getD { idx := 0 }))

/-- A session that reaches its block: connected, on a running management island (18 Table 18.2). -/
def State.setupOpen (s : State) (sid : Nat) : Bool := s.feeds.mgmtUp && s.power.step == 12 && s.polls sid

/-- Runs a write to the control word of a session's block. -/
def State.onSetup (s : State) (sid : Nat) (k : State → Session → State) : State :=
  match s.session? sid with
  | some x => if s.setupOpen sid then k s x else s
  | none => s

/-- ENABLE (18 R664): no effect while ACTIVE, FAULTED or RESETTING. -/
def State.setupEnable (s : State) (x : Session) : State :=
  if x.mayEnable then s.modSession x.sid fun x => x.enable else s

/-- SETUP_ENABLE. -/
def execSetupEnable (sid : Nat) (s : State) : Result := .next (s.onSetup sid State.setupEnable)

/-- ENABLE with RESUME (18 R666): the admin ring of the orphan named, with its indices, or the ring of this block, in
the login-only state. The orphan's ring keeps its state: one that is not ACTIVE is not polled for the resume login
(DESIGN CHOICE, notes/assumptions/65.md). -/
def State.setupResume (s : State) (x : Session) : State :=
  if !x.mayEnable then s
  else
    let mark := fun (y : Session) => { y with resuming := some x.setup.resume }
    match (s.orphanOf x.setup.resume).bind (·.ring? 0) with
    | some r => s.modSession x.sid fun y =>
        mark (y.withAdmin { r with reset := none, waiting := [], eventDue := false, heldComp := false })
    | none => s.modSession x.sid fun y => mark (y.enable)

/-- SETUP_ENABLE_RESUME. -/
def execSetupEnableResume (sid : Nat) (s : State) : Result := .next (s.onSetup sid State.setupResume)

/-- RESET of the admin ring (18 R665, 03 R140, R146): only while ACTIVE or FAULTED. Resets and destroys of data rings that
are accepted finish first; one that waits for a reset in progress (R145) is spared like an accepted one (DESIGN
CHOICE, notes/assumptions/65.md). -/
def State.setupReset (s : State) (x : Session) : State :=
  if x.setupState = 1 ∨ x.setupState = 4 then
    let spare := (s.ringCmds x.sid 0).filter fun c => c.phase == .adminWait && decide (dOpcode c.desc ∈ [0x43, 0x44])
    let t : ResetRec := { cause := 3, admin := none, bufAddr := x.setup.reportAddr, bufRkey := x.setup.reportRkey }
    (s.acceptReset x.sid 0 t (spare.map (·.ref))).settle
  else s

/-- SETUP_RESET. -/
def execSetupReset (sid : Nat) (s : State) : Result := .next (s.onSetup sid State.setupReset)

/-- WINDOW_OPEN (18 R667): only in a session logged in as Custodian. -/
def State.windowOpen (s : State) (x : Session) : State :=
  if x.role = 1 then s.modSession x.sid fun x => { x with setup := { x.setup with window := true } } else s

/-- WINDOW_OPEN. -/
def execWindowOpen (sid : Nat) (s : State) : Result := .next (s.onSetup sid State.windowOpen)

/-- A write of the control word +0x04: ENABLE, RESET, RESUME and WINDOW_OPEN are its bits 0 to 3 (18 Table 18.21). -/
def State.setupControl (s : State) (sid w : Nat) : State :=
  let s1 := if bitOf w 0 then s.onSetup sid (if bitOf w 2 then State.setupResume else State.setupEnable) else s
  let s2 := if bitOf w 1 then s1.onSetup sid State.setupReset else s1
  if bitOf w 3 then s2.onSetup sid State.windowOpen else s2

/-- The low or the high half of a 64-bit field is replaced (18 R647). -/
def setHalf (high : Bool) (v w : Nat) : Nat := if high then v % 2 ^ 32 + w * 2 ^ 32 else v / 2 ^ 32 * 2 ^ 32 + w

/-- A write of a ring field, or of REPORT_ADDR, REPORT_RKEY or RESUME_HANDLE (18 R664). -/
def SetupBlock.put (b : SetupBlock) (off w : Nat) : SetupBlock := match off with
  | 0x08 => { b with sqBase := setHalf false b.sqBase w }
  | 0x0C => { b with sqBase := setHalf true b.sqBase w }
  | 0x10 => { b with cqBase := setHalf false b.cqBase w }
  | 0x14 => { b with cqBase := setHalf true b.cqBase w }
  | 0x18 => { b with dbAddr := setHalf false b.dbAddr w }
  | 0x1C => { b with dbAddr := setHalf true b.dbAddr w }
  | 0x20 => { b with rkey := w }
  | 0x24 => { b with sqLog2 := bitsOf w 0 5, cqLog2 := bitsOf w 8 5 }
  | 0x28 => { b with idleTime := w }
  | 0x2C => { b with eventIvl := bitsOf w 0 16, event := bitsOf w 16 2, ordered := bitOf w 18 }
  | 0x30 => { b with reportAddr := setHalf false b.reportAddr w }
  | 0x34 => { b with reportAddr := setHalf true b.reportAddr w }
  | 0x38 => { b with reportRkey := w }
  | 0x3C => { b with resume := w }
  | _ => b

/-- A write of one word of a session's block (18 R664): ring fields are ignored while ACTIVE, FAULTED or RESETTING. -/
def State.writeSetup (s : State) (sid off w : Nat) : State :=
  if off = 4 then s.setupControl sid w
  else match s.session? sid with
    | none => s
    | some x =>
      if off < 0x30 && !x.mayEnable then s else s.modSession sid fun x => { x with setup := x.setup.put off w }

end Sys2Proof.Machine
end

