-- ==== Sys2Proof/Machine/FaultOps.lean ====
section
/-! DEFINITION. The loss of moons and Fronts, rebuild comets and the fatal-fault sequence as operations (01 R27, R28, R34,
R40; 06 R274 to R278; 08 R340 to R344; 12 R484; 16 R600 to R607; 02 Table 2.7). -/

namespace Sys2Proof.Machine

/-! ### Islands: throttle levels (20 R708, Table 20.8) and the time island (16 R604) -/

/-- The throttle level of the module: the highest of any island (18 Table 18.3). -/
def State.throttle (s : State) : Nat := maxNat (s.thermal.islands.map (·.level))

/-- The island of a list, changed or added. -/
def setIsland (i : Island) (f : IslandState → IslandState) (l : List IslandState) : List IslandState :=
  if l.any fun t => decide (t.island = i) then mapWhere (fun (t : IslandState) => decide (t.island = i)) f l
  else l ++ [f { island := i }]

/-- Changes an island's thermal state. -/
def State.modIsland (s : State) (i : Island) (f : IslandState → IslandState) : State :=
  { s with thermal := { s.thermal with islands := setIsland i f s.thermal.islands } }

def State.islandState (s : State) (i : Island) : IslandState :=
  (s.thermal.islands.find? fun t => decide (t.island = i)).getD { island := i }

/-- An island takes a level; a change of the module's level is logged (20 R708, 16 Table 16.7). While WARMING every island is
held at T0 (02 R65). -/
def State.setLevel (s : State) (i : Island) (level : Nat) : State :=
  let s1 := s.modIsland i fun t => { t with level := if s.mode.warming then 0 else level }
  if s1.throttle = s.throttle then s1 else s1.logEvent 0x0701 0xFF 0 [(0, toLe 1 s1.throttle)]

/-- The source of time is lost or changed: discipline ends and the time island holds over (01 R30, 18 R658; warning 7 of 16
Table 16.4). -/
def State.holdOver (s : State) : State :=
  let t := s.time
  let held := t.holdover || t.disciplined
  ({ s with time := { t with disciplined := false, holdover := held, ptpLocked := false, ppsOk := false, goodSyncs := 0 } }).setWarning 7 held

/-- The time island fails: module time stands and discipline is lost (16 Table 16.1, R604). -/
def State.timeLost (s : State) : State :=
  if !s.time.up then s
  else
    let s1 := s.holdOver
    { s1 with time := { s1.time with up := false } }

/-! ### Fatal fault (16 R606, R607) -/

/-- Some Front runs. -/
def State.anyFront (s : State) : Bool := s.media.fronts.any (·.inService)

/-- A fatal fault (16 R607): a gasp from a pair member, commit or discard while a Front runs, staging programmed, SERVICE,
ATTN#. With no Front running no command gets a completion. `cause` is the CODE of the fault that led to it. -/
def State.fatalFault (s : State) (cause : Nat) : State :=
  if s.mode.fatal then s
  else
    let s1 := if s.pair.paired && s.mode.mode ≠ .service && s.power.step == 12 then s.gasp else s
    let s2 := if s1.anyFront then s1.commitOrDiscard 0x04 [] else s1.islandsOff
    let s3 : State := { s2.programAll with mode := { s2.mode with fatal := true } }
    let s4 := s3.raise cFatal 0x0105 0xFF 0 [(0, toLe 4 cause)]
    if s4.mode.mode = .service then s4
    else ({ s4 with mode := { s4.mode with beforeService := s4.mode.mode } }).setMode .service 0x10

/-! ### Rebuild comets (08 R343, R344; 12 R484; 16 Table 16.4, Table 16.7) -/

/-- REBUILD_KIND: 0 die, 1 channel, 2 moon (18 Table 18.10). -/
def Comet.rebuildKind (k : Comet) : Nat := match k.die, k.channel with
  | some _, _ => 0
  | none, some _ => 1
  | none, none => 2

/-- Warning 3: a rebuild comet runs (16 Table 16.4). -/
def State.rebuildWarning (s : State) : State := s.setWarning 3 s.rebuild.isSome

/-- A block is on a lost part of a moon. -/
def onPart (moon : Nat) (die channel : Option Nat) (i : BlockId) : Bool :=
  i.moon == moon && match die, channel with
    | some d, _ => i.die == d
    | none, some c => channelOf i.die == c
    | none, none => true

/-- Bands with a block on a lost part. -/
def State.bandsOn (s : State) (moon : Nat) (die channel : Option Nat) : List Band :=
  s.media.bands.filter fun b => b.blocks.any (onPart moon die channel)

/-- The module starts a rebuild comet (08 R343, R344, 12 R484). -/
def State.startRebuild (s : State) (moon : Nat) (die channel : Option Nat) : State :=
  let num := unusedFrom (0 :: s.comets.list.map (·.num)) (2 ^ 64) (s.comets.list.length + 2) (Config.cometNumber s.fresh).toNat
  let k : Comet := { num := num, kind := .rebuild, moon := moon, die := die, channel := channel,
                     unitsTotal := (s.bandsOn moon die channel).length }
  let s1 : State := { s.draw with comets := { list := s.comets.list ++ [k] } }
  (s1.logEvent 0x0304 moon 0 [(0, toLe 8 num ++ toLe 1 k.rebuildKind)]).rebuildWarning

/-! ### Moon loss (16 Table 16.1; 06 R277; 01 R40; 08 R342) -/

/-- The substitute for a lost moon beside `partner`: the lowest staged occupancy, ties to the lower number (08 R326). -/
def State.substitute (s : State) (partner len : Nat) : Nat :=
  match (sortBy moonBefore (s.stagingMoons len)).filter fun p => p.2 != partner with
  | p :: _ => p.2
  | [] => partner

/-- The substitutes chosen so far for the extents of a lost moon: by object and offset, the moon. -/
abbrev Substitutes := List ((Nat × Nat) × Nat)

/-- A substitute for one extent of a lost moon, under the occupancies as they stand with those before it (08 R326). -/
def chooseSubstitute (m : Nat) (st : State × Substitutes) (e : Extent) : State × Substitutes :=
  if e.home = m || e.shadow = m then
    let sub := st.1.substitute (if e.home = m then e.shadow else e.home) e.len
    (st.1.modMoon sub fun x => { x with staged := x.staged + e.len }, st.2 ++ [((e.obj, e.off), sub)])
  else st

/-- An extent without a lost moon: its substitute takes the role (01 R40, 06 R277). -/
def rehome (m : Nat) (subs : Substitutes) (e : Extent) : Extent :=
  match subs.find? fun q => q.1 == (e.obj, e.off) with
  | some (_, k) =>
    let early := e.early.filter (· != m)
    if e.home = m then { e with home := k, early := early } else if e.shadow = m then { e with shadow := k, early := early } else e
  | none => e

/-- Staged copies of a lost moon are copied again to substitutes, from the other copy (06 R277). -/
def State.restage (s : State) (m : Nat) : State :=
  let r := (s.liveExtents.filter (!·.progd)).foldl (chooseSubstitute m) (s.modMoon m fun x => { x with staged := 0 }, [])
  let reCmd := fun (c : Cmd) => { c with extents := c.extents.map (rehome m r.2) }
  let reObj := fun (o : ObjSession) => { o with extents := o.extents.map (rehome m r.2) }
  let reCharge := fun (q : Charge) => { q with extents := q.extents.map (rehome m r.2) }
  let reVer := fun (v : Version) =>
    let e := rehome m r.2 { part := 0, obj := v.objId, off := 0, len := 0, home := v.home, shadow := v.shadow }
    { v with home := e.home, shadow := e.shadow }
  { r.1 with cmds := { s.cmds with list := s.cmds.list.map reCmd }
             seq := { s.seq with charges := s.seq.charges.map reCharge }
             kv := { s.kv with versions := mapWhere (·.place == .staged) reVer s.kv.versions, objects := s.kv.objects.map reObj } }

/-- Lookups that waited for a lost moon go to its buddy (08 R342, 02 R89). -/
def State.relookup (s : State) (m : Nat) : State :=
  let waits := s.cmds.list.filter fun c => (c.phase == .mapWait || c.phase == .keyWait) &&
    (c.version.map fun v => v.home == m).getD false
  waits.foldl (fun s c => match c.version with
    | some v => (s.modCmd c.ref fun c => { c with mapRead := false }).lookup { c with mapRead := false } v none
    | none => s) s

/-- Moons out of service. -/
def State.moonsOut (s : State) : Nat := (s.media.moons.filter (!·.inService)).length

/-- A moon is out of service (16 Table 16.1, Table 16.3; 02 Table 2.7): `lost` as in State, `byte` as in 16 Table 16.7
MOON_LOST. Two moons out are a fatal fault (16 Table 16.2). -/
def State.moonOut (s : State) (m lost byte : Nat) (rebuild : Bool) : State :=
  match s.media.moons[m]? with
  | none => s
  | some q =>
    if !q.inService then s
    else
      let s1 := s.modMoon m fun x => { x with inService := false, lostCause := lost, degraded := true, mapFill := none,
                                              mapLate := [], mapLines := [], hotMap := [] }
      let s2 := (s1.raise cMoon 0x0303 m 0 [(0, toLe 1 byte)]).restage m
      let s3 := (if rebuild then s2.startRebuild m none none else s2).relookup m
      let s4 := s3.checkReserve
      if 2 ≤ s4.moonsOut then s4.fatalFault 0x0303 else s4

/-- A moon returns to service with its map cache invalid (08 R351, 20 R712). -/
def State.moonUp (s : State) (m : Nat) : State :=
  s.modMoon m fun x => { x.off with inService := true, lostCause := 0, degraded := s.lostBlocks m }

/-- A moon returns at a start: its rebuild, if any, is over. -/
def State.moonBack (s : State) (m : Nat) : State :=
  let s1 := s.moonUp m
  let keep := fun (k : Comet) => !(k.kind == .rebuild && k.moon == m && k.rebuildKind == 2)
  State.rebuildWarning { s1 with comets := { list := s1.comets.list.filter keep } }

/-! ### Front loss (01 R27, R28, R34, R36, R45; 06 R274 to R278; 12 R489) -/

/-- A command of a failed session Front that had not committed is executed afresh from its held descriptor (06 R274): it
keeps nothing, and its host areas are read again. -/
def State.afresh (s : State) (c : Cmd) : State :=
  let s1 := s.undo c
  let op := dOpcode c.desc
  let areas := needsAreas c.desc && c.phase != .fenced
  let parts := if opAdmin op || needsAreas c.desc then [] else (partOf c.desc (.data []) (.data []) (.data [])).toList
  let again : Cmd := { ref := c.ref, sid := c.sid, ring := c.ring, count := c.count, desc := c.desc, fetched := c.fetched,
                       acc := c.acc, parts := parts, phase := if c.phase == .fenced then .fenced else if areas then .areas else .ready }
  let s2 := s1.modCmd c.ref fun _ => again
  if areas then s2.emitAll (areaReads c.sid c.desc) else s2

/-- A command whose state was on the failed session Front: data commands that have not committed and have no fixed
outcome. An unfetched or unknown one stays. -/
def Cmd.isAfresh (c : Cmd) : Bool :=
  !opAdmin (dOpcode c.desc) && !c.isCommitted && c.phase != .finished && c.phase != .unknown

/-- A mutation granted and not committed when the active sequencer's Front fails asks for its CSN again (06 R278). -/
def State.regrant (s : State) (c : Cmd) : State :=
  if c.phase == .granted then
    let s1 := s.modCmd c.ref fun c => { c with phase := .csnWait, csn := 0, partner := false }
    { s1 with seq := { s1.seq with charges := s1.seq.charges.filter (·.ref != c.ref) } }
  else s

/-- The sessions on a Front. -/
def State.sidsOn (s : State) (f : Front) : List Nat := (s.sess.sessions.filter fun x => decide (x.front = f)).map (·.sid)

/-- The logical ports of a Front (01 R23, R27). -/
def frontPorts (f : Front) : List Nat := match f with
  | .a => List.range 64
  | .b => (List.range 128).drop 64

/-- The twin of a logical port (17 R621). -/
def twinOf (l : Nat) : Nat := if l < 64 then l + 64 else l - 64

/-- The Front of a logical port (01 R23). -/
def portFront (l : Nat) : Front := if l < 64 then .a else .b

/-- A logical port's addresses are carried by its twin, and announced; its sessions go to the Front of the port that
carries them now (01 R27, R28, 16 R602, 17 R629). -/
def State.carryAway (s : State) (l : Nat) (on : Bool) : State :=
  let carrier := if on then twinOf l else l
  let xs := mapWhere (fun (x : Session) => x.lport == l) (fun x => { x with front := portFront carrier }) s.sess.sessions
  let s1 : State := { s with ports := { s.ports with logical := s.ports.logical.modify l fun p => { p with away := on, announce := 2 } }
                             sess := { s.sess with sessions := xs } }
  s1.emit (.announce carrier)

/-- The host ports of a Front lose their links. -/
def State.portsDark (s : State) (f : Front) : State :=
  let mine := fun (n : Nat) => decide ((frontPorts f).contains (4 * n))
  let dark := fun (q : Nat × HostPort) => if mine q.1 then { q.2 with linkUp := 0, laneLock := 0 } else q.2
  { s with ports := { s.ports with hosts := ((List.range 32).zip s.ports.hosts).map dark } }

/-- The active sequencer's Front has failed: the standby starts a new block (06 R241, R278). -/
def State.sequencerTakeover (s : State) (f : Front) : State :=
  if decide (s.seq.activeA = (f == .a)) then
    let s1 : State := { s with seq := { s.seq.newBlock with activeA := f != .a } }
    s1.cmds.list.foldl State.regrant s1
  else s

/-- No complete staged copy of a part's value stands on the moons: not every byte is placed and staged. -/
def Cmd.lacksCopy (c : Cmd) (i : Nat) (p : Part) : Bool :=
  opHasValue p.op && p.hasBytes && (!(c.missingCuts i p).isEmpty || !(c.extents.filter (·.part == i)).all (·.staged))

/-- A committed mutation of a failed session Front without a complete staged copy: the surviving Front reads its value
from the host buffer again (06 R274). -/
def State.rereadValue (s : State) (c : Cmd) : State :=
  let lacks := ((List.range c.parts.length).zip c.parts).filter fun p => c.lacksCopy p.1 p.2
  let again := fun (ps : List Part) => lacks.foldl (fun ps p => ps.modify p.1 fun q => { q with value := none }) ps
  (s.modCmd c.ref fun c => { c with parts := again c.parts }).emitAll
    (lacks.flatMap fun p => valueReads c.sid { p.2 with value := none })

/-- A completion entry that the failed Front had written and its host had not acknowledged is written again to the same
slot (06 R276): the last bytes written there. -/
def State.rewriteComp (s : State) (u : Nat × Nat) : State :=
  let mine := fun (o : Output) => match o with
    | .write sid _ addr data => sid == u.1 && addr == u.2 && data.length == 32
    | _ => false
  match s.out.reverse.find? mine with
  | some o => if s.polls u.1 then s.emit o else s
  | none => s

/-- A Front is out of service: its peer owns every shard, carries the addresses of its ports and its own again (01 R27), resumes
its sessions and completes its commands, writing again those that were not acknowledged; its sessions' comets end; with both Fronts out no host can be
served (16 Table 16.1, Table 16.2). -/
def State.frontOut (s : State) (f : Front) (lost byte : Nat) (unacked : List (Nat × Nat)) : State :=
  match s.media.fronts[frontIdx f]? with
  | none => s
  | some q =>
    if !q.inService then s
    else
      let g := otherFront f
      let fronts := s.media.fronts.modify (frontIdx f) fun _ => { inService := false, lostCause := lost }
      let s1 : State := { s with media := { s.media with fronts := fronts, shardB := if f == .a then List.range 64 else [] } }
      let s2 := s1.raise cFront 0x0401 (0x10 + frontIdx f) 0 [(0, toLe 1 byte)]
      if !s2.anyFront then s2.fatalFault 0x0401
      else
        let sids := s2.sidsOn f
        let s3 := s2.endComets (fun k => k.kind != .rebuild && decide (k.sid ∈ sids)) .aborted 0x03 0 false
        let s4 := s3.sequencerTakeover f
        let again := s4.cmds.list.filter fun c => decide (c.sid ∈ sids) && c.isAfresh
        let kept := s4.cmds.list.filter fun c => decide (c.sid ∈ sids) && c.isCommitted && !c.progd
        let s5 := (unacked.filter fun u => decide (u.1 ∈ sids)).foldl State.rewriteComp
          (kept.foldl State.rereadValue (again.foldl State.afresh s4))
        let xs := mapWhere (fun (x : Session) => decide (x.front = f)) (fun x => { x with front := g }) s5.sess.sessions
        let s6 := State.portsDark { s5 with sess := { s5.sess with sessions := xs } } f
        let back := (frontPorts g).filter fun l => (s6.logical l).away
        let moved := (frontPorts f).filter fun l => s6.portExists l && !(s6.logical l).away
        moved.foldl (fun s l => s.carryAway l true) (back.foldl (fun s l => s.carryAway l false) s6)

/-- One shard is handed back to its home Front (01 R35, 16 Table 16.7). -/
def State.handShard (s : State) (n : Nat) : State :=
  let b := decide (32 ≤ n)
  let shardB := if b then insertBy (fun x y => decide (x ≤ y)) n s.media.shardB else s.media.shardB.filter (· != n)
  let s1 : State := { s with media := { s.media with shardB := shardB } }
  s1.draw.logEvent 0x0403 0x40 n [(0, toLe 4 (min (Config.handoverPause s.fresh).toNat 200))]

/-- A repaired Front is back: its home shards return one at a time; it holds the standby sequencer (01 R35, R36). -/
def State.frontBack (s : State) (f : Front) : State :=
  let s1 : State := { s with media := { s.media with fronts := s.media.fronts.modify (frontIdx f) fun _ => {} } }
  let s2 := s1.logEvent 0x0402 (0x10 + frontIdx f) 0 []
  let mine := match f with
    | .a => List.range 32
    | .b => (List.range 64).drop 32
  mine.foldl State.handShard s2

end Sys2Proof.Machine
end

