-- ==== Sys2Proof/Machine/StartUp.lean ====
section
/-! DEFINITION. Power-state events, the end of a clean shutdown, start-up (02 Table 2.6, R77 to R89), wake-up failures (02
R87, R88, Table 2.7) and WARMING (02 R62 to R66). -/

namespace Sys2Proof.Machine

/-! ### Power states (02 R69 to R75) -/

/-- IDLE_TIMER_EXPIRE (02 R69, R70, R74). -/
def execIdleTimerExpire (s : State) : Result := .next s.goDown

/-- A requested lower state whose conditions hold is entered (02 R71). -/
def State.enterWanted (s : State) : State := match s.power.wanted with
  | some .p1 => if s.steadyPower && !s.mode.warming then s.beginEntry .p1 else s
  | some p => if s.steadyPower && s.lowOk && p != .p0 then s.beginEntry p else s
  | none => s

/-- The entry of a state completes; work that arrived during it starts the exit (02 R75). P2 and P3 are entered only while
02 R70 still holds, and P1 only while the module is not WARMING (R65): otherwise the module stays where it was, and a request
goes on waiting. -/
def State.entered (s : State) (p : PState) : State :=
  if (p = .p1 ∧ s.mode.warming) ∨ ((p = .p2 ∨ p = .p3) ∧ s.lowOk = false) then
    { s with power := { s.power with entering := none, exiting := s.power.workHeld && s.power.pstate != .p0, workHeld := false } }
  else
    let q := { s.power with pstate := p, entering := none, exiting := s.power.workHeld, workHeld := false,
                            wanted := if s.power.wanted = some p then none else s.power.wanted }
    ({ s with power := q }).ctrlDone [1 + pstateCode p]

/-- POWER_STATE_ENTERED (02 R71, R75). -/
def execPowerStateEntered (s : State) : Result :=
  .next (match s.power.entering with
    | some p => s.entered p
    | none => s.enterWanted)

/-- The Map Cache of every moon is invalidated (08 R351). -/
def State.invalidateMaps (s : State) : State :=
  let f := fun (m : Moon) => { m with mapInval := true, mapLines := [], mapFill := none, mapLate := [] }
  { s with media := { s.media with moons := s.media.moons.map f } }

/-- P0_REACHED (02 R75, 08 R351). -/
def execP0Reached (s : State) : Result :=
  .next (if !s.power.exiting then s
    else
      let low := s.power.pstate == .p2 || s.power.pstate == .p3
      let s1 : State := { s with power := { s.power with pstate := .p0, exiting := false } }
      ((if low then s1.invalidateMaps else s1).ctrlDone [1]).enterWanted)

/-! ### Clean shutdown and starts (02 R76 to R86) -/

/-- How a start is logged (16 Table 16.7): START, or UNCLEAN_START whose DATA the map recovery completes. -/
def State.logStart (s : State) (k : StartKind) : State := match k with
  | .unclean => s.logEvent 0x0102 0xFF 0 []
  | _ => s.logEvent 0x0101 0xFF 0 [(0, toLe 1 (if k = .warm then 1 else 0)), (8, toLe 8 s.fw.setFmt)]

/-- At every start the staging copies hold the live values and the staged SECRET is zeroed (18 R659, R663). -/
def State.unstage (s : State) : State :=
  { s with ports := { s.ports with hosts := s.ports.hosts.map fun h => { h with stage := h.live }
                                   logical := s.ports.logical.map fun q => { q with stage := q.live } }
           creds := { s.creds with boot := { s.creds.boot with cred := s.creds.boot.live, secret := [] } } }

/-- A unit marked failed stays so in a start that is neither a cold start nor an ADM_POWER restart (02 R88). -/
def State.staysFailed (s : State) (retry : Bool) (u : UnitId) : Bool := !retry && decide (unitCode u ∈ s.attn.islands)

/-- A start begins after step `step` of 02 Table 2.6; every Map Cache is invalidated as its moon leaves reset (08 R351). With `retry` islands marked failed are tried again (R88); shards and
the active sequencer are placed on the Fronts that start (01 R33, R34, R36); the log is lost when no Front held it (16
R613). -/
def State.beginStart (s : State) (k : StartKind) (step : Nat) (retry : Bool) : State :=
  let s0 : State := if s.anyFront then s.unstage else { s.unstage with attn := { s.attn with log := [], nextSeq := 1 } }
  let down := fun (i : Island) (u : UnitId) =>
    s0.staysFailed retry u || s0.thermal.islands.any fun t => decide (t.island = i) && t.tripped
  let moons := ((List.range 8).zip s0.media.moons).filterMap fun p =>
    if !p.2.inService && !down (.moon p.1) (.moon p.1) then some p.1 else none
  let s1 := moons.foldl State.moonBack s0
  let fronts := ([Front.a, Front.b].zip s1.media.fronts).map fun p =>
    if down (.front p.1) (.front p.1) then p.2 else {}
  let aIn := (fronts.getD 0 {}).inService
  let bIn := (fronts.getD 1 {}).inService
  let shardB := if !bIn then [] else if !aIn then List.range 64 else (List.range 64).drop 32
  let s2 : State := { s1 with media := { s1.media with fronts := fronts, shardB := shardB }
                              seq := { s1.seq with activeA := aIn && (s1.seq.activeA || !bIn || step != 4) }
                              mode := { s1.mode with fatal := s1.mode.fatal && (s1.staysFailed retry .vault ||
                                                                decide (2 ≤ s1.moonsOut) || !fronts.any (·.inService)) }
                              vault := { s1.vault with up := !s1.staysFailed retry .vault }
                              attn := { s1.attn with islands := if retry then [] else s1.attn.islands, retries := [] }
                              win := { s1.win with window := 0 }
                              power := { s1.power with pstate := .p0, step := step, start := k, shutdown := none,
                                                       shutDone := false, passDue := decide (step != 4) } }
  (s2.invalidateMaps.setCause cStart).logStart k

/-- Read counters are saved (09 R371). -/
def State.saveReads (s : State) : State :=
  { s with media := { s.media with blocks := s.media.blocks.map fun b => { b with saved := b.reads } } }

/-- Steps 3 and 4 of a clean shutdown (02 R76): staging is programmed and open stripes closed (08 R334), every map page is
written back so that every log tail is empty (08 Table 8.7), and each Front writes its journal and its index directory (08
R353). -/
def State.checkpoint (s : State) : State :=
  let s1 := s.programAll.closeStripes.saveReads.writeJournal true
  let clean := fun (m : Moon) => { m with logTail := 0, tail := [], tailCkpt := m.logSeq }
  { s1 with media := { s1.media with moons := s1.media.moons.map clean } }

/-- CLEAN_SHUTDOWN_DONE (02 R76, R77, R85): staging is programmed, the tag written unless a warm start follows, the Fronts
and moons are off; a warm start goes on from step 5. While WARMING nothing is programmed and the start replays the log
tail (R63). -/
def execCleanShutdownDone (s : State) : Result :=
  .next (match s.power.shutdown with
    | none => s
    | some after =>
      let s2 := if s.mode.warming then s else s.checkpoint
      let k := if s.mode.warming then StartKind.unclean else .clean
      match after with
      | .warmStart => s2.islandsOff.beginStart (if s.mode.warming then .unclean else .warm) 4 s.fw.applying.isEmpty
      | .stay =>
        let s3 := s2.shelve.islandsOff
        let s4 : State := { s3 with power := { s3.power with shutdown := none, shutDone := true, start := k }
                                    win := { s3.win with window := 0, reached100 := false }
                                    thermal := { s3.thermal with inletMax := s3.thermal.inlet } }
        s4.ctrlDone [0x10])

/-- What takes its reset value at a cold start (18 R650, 16 R613): the registers that are not kept. -/
def State.coldReset (s : State) : State :=
  let words := fun (p : HostPort) => { p with stage := p.live, words := {}, linkUp := 0, failed := 0, laneLock := 0 }
  let lwords := fun (p : LPort) => { ({} : LPort) with live := p.live, stage := p.live }
  { s with ctrl := {}
           creds := { s.creds with boot := {} }
           asu := { s.asu with repairs := [0, 0, 0, 0] }
           usb := { ({} : UsbPart) with vbus := s.usb.vbus, pullUp := s.usb.vbus }
           ports := { hosts := s.ports.hosts.map words, logical := s.ports.logical.map lwords }
           attn := { s.attn with causes := 0, warnings := 0, windowLow := false, writeThru := false, noFree := false,
                                 lateStart := false, holdsWit := false, drams := [] }
           time := { ({} : TimePart) with now := s.time.now }
           thermal := {}
           pins := {}
           mode := { s.mode with warming := false, warmingLong := false }
           win := {}
           tag := { s.tag with todo := [], labelJob := false, holder := .free }
           fw := { s.fw with applying := [] } }

/-- The module has cooled while its islands were off: no trip or throttle level holds any more, and sensors are checked again
(20 R706, R708, R712). -/
def State.untrip (s : State) : State :=
  let back := fun (s : State) (t : IslandState) => match t.island with
    | .channel m k =>
      let s1 := s.modMoon m fun x => { x with chansLost := x.chansLost.filter fun c => c / 8 != k }
      s1.modMoon m fun x => { x with degraded := s1.lostBlocks m }
    | _ => s
  let s1 := (s.thermal.islands.filter (·.tripped)).foldl back s
  { s1 with thermal := { s1.thermal with islands := [], broken := [] } }

/-- A cold start from step 3 of 02 Table 2.6, the management island running (02 R77, 21 R721): the shelf tag is brought to STATE
RUNNING as at step 2 (19 R688); strings are tried again (20 R702). -/
def State.startFromThree (s : State) : State :=
  let s1 := s.startTag.untrip
  let s2 : State := { s1 with win := { s1.win with strings := s1.win.strings.map fun t => { t with inService := true } }
                              mode := { s1.mode with warming := false, warmingLong := false }
                              power := { s1.power with fromShutdown := true } }
  (s2.setWarning 6 false).beginStart s.power.start 2 true

/-- COLD_RESTART (02 R77, 18 Table 18.6): only after a clean shutdown. -/
def State.reqCold (s : State) : State × ReqResult :=
  if s.power.shutDone then (s.startFromThree, .inProgress) else (s, .refusedState)

/-- CTRL_COLD_RESTART (02 R77, 18 Table 18.6). -/
def execCtrlColdRestart (p : Path) (s : State) : Result := .next (s.control p 0x12 (·.reqCold))

/-- A write of the control word: CODE in bits 7 to 0, ARG above (18 Table 18.5, Table 18.6). -/
def State.writeControl (s : State) (p : Path) (w : Nat) : State :=
  let code := bitsOf w 0 8
  match code with
  | 0x01 => s.ask p code (·.reqPower .p0)
  | 0x02 => s.ask p code (·.reqPower .p1)
  | 0x03 => s.ask p code (·.reqPower .p2)
  | 0x04 => s.ask p code (·.reqPower .p3)
  | 0x10 => s.ask p code (·.reqShutdown .stay)
  | 0x11 => s.ask p code (·.reqShutdown .warmStart)
  | 0x12 => s.ask p code (·.reqCold)
  | 0x20 => s.ask p code (·.reqService 0x02)
  | 0x21 => s.ask p code (·.reqServiceExit 0x02)
  | 0x22 => s.ask p code (·.reqCommission 0x02)
  | 0x23 => s.ask p code (·.reqLockSet)
  | 0x24 => s.ask p code (·.reqLockClear)
  | 0x30 => s.ask p code (·.reqEfuse (w / 256))
  | _ => s.askUnknown p code

/-- Component 3 runs from its new bank at a cold start (19 R677). -/
def State.coldBanks (s : State) : State := s.modComp 3 fun k => if k.atCold then k.switch else k

/-- A module whose Fronts and moons are off while its management island runs from the bank starts again (21 R721). -/
def State.startFromBank (s : State) : State :=
  State.startFromThree { s with feeds := { s.feeds with loss := .none } }

/-- A feed in range powers the management and time islands, whatever PRESENT# says (01 R20): the registers have their reset
values; the Fronts and moons stay off. -/
def State.powerIslands (s : State) : State :=
  let s1 := s.untrip.coldReset.coldBanks
  { s1 with feeds := { s1.feeds with mgmtUp := true, loss := .off, mgmtFails := 0 } }

/-- COLD_START (02 Table 2.6 step 1; 20 R693; 21 R721): a feed is in range with PRESENT# asserted and the Fronts and moons do
not run. -/
def execColdStart (f : Front) (volt : Nat) (s : State) : Result :=
  .next (if !s.feeds.present || s.power.step != 0 then s
    else
      let s0 := s.modFeed f fun q => { q with inRange := true, lost := false, volt := volt }
      if s.feeds.mgmtUp then s0.startFromBank else
      let s1 := s0.untrip.coldReset.coldBanks
      let s2 : State := { s1 with feeds := { s1.feeds with mgmtUp := true, loss := .none, mgmtFails := 0 }
                                  media := { s1.media with fronts := [{}, {}] }
                                  power := { s1.power with fromShutdown := false } }
      s2.beginStart s.power.start 1 true)

/-- The trial of a component has succeeded (19 R679). -/
def State.trialOver (s : State) (n : Nat) : State := s.modComp n fun k => { k with trial := false }

/-- Step 9: every moon holds the current keys of every LOADED slot (14 R533); of a Key Vault that failed to wake no keys reach
the moons (02 Table 2.7). -/
def State.loadKeys (s : State) : State :=
  let slots := if s.vault.up then (s.vault.slots.filter fun k => decide (k.st = .loaded)).map (·.slot) else []
  let moons := ((List.range 8).zip s.media.moons).filterMap fun p => if p.2.inService then some p.1 else none
  { s with vault := { s.vault with cached := moons.flatMap fun m => slots.map fun n => (m, n) } }

/-! ### Map recovery (08 R322, R354, R355, Table 8.7; 02 R81, R82) -/

/-- The moon rebuilds its map by a page-header scan (08 Table 8.7): its log tail fails its check on the moon and on its buddy,
or no valid map page stands. -/
def State.scansMap (s : State) (f : StartFacts) (m : Nat) : Bool :=
  let buddy := if m < 4 then m + 4 else m - 4
  bitOf f.noMap m || (bitOf f.tailBad m && (bitOf f.buddyBad m || decide (buddy ∉ s.moonsIn)))

/-- The header that a recovery reads of a page: as it was written, or as the start found it. -/
def headerRead (f : StartFacts) (p : Page) : Bytes :=
  ((f.damaged.find? fun d => d.1 == (p.block, p.index)).map (·.2)).getD p.header.bytes

/-- A page whose header recovery takes as unreadable (08 R322). -/
def headerLost (f : StartFacts) (p : Page) : Bool :=
  f.damaged.any (fun d => d.1 == (p.block, p.index)) && !headerReadable (headerRead f p)

/-- Page 0 of a block is unreadable and reads with all bits set: the scan takes the block as erased (08 R355). -/
def looksErased (f : StartFacts) (i : BlockId) : Bool :=
  f.damaged.any fun d => d.1 == (i, 0) && d.2.length == 64 && d.2.all (· == 255)

/-- The scan does not find a page. -/
def pageMissed (f : StartFacts) (p : Page) : Bool := headerLost f p || looksErased f p.block

/-- A page of a stripe is found, or its header is rebuilt from the other pages of its stripe (08 R340, R355). -/
def State.rebuilds (s : State) (f : StartFacts) (p : Page) : Bool :=
  !pageMissed f p || (s.stripePages p.header.stripe).all fun q => q.block == p.block || (!pageMissed f q && !s.partOut q.block)

/-- The FRONT_CKPT copies bind the token of a provisional page (08 R355). -/
def State.tokenBound (s : State) (token : Nat) : Bool := s.media.ckpts.any fun k => k.entries.any fun j => decide (token ∈ j.tokens)

/-- The scan finds a chunk of a version: its QLC page, or one of its SLC copies; a provisional one only if its token is bound
(08 R355). -/
def State.chunkFound (s : State) (f : StartFacts) (v : Version) (k : Nat) : Bool :=
  let slc := s.media.pages.filter fun p => p.header.kind.isSlc && p.holds v.objId && p.chunk == k
  match v.folded[k]? with
  | some _ => ((s.pageOf v k).map (s.rebuilds f)).getD true
  | none => slc.isEmpty || slc.any fun p => !pageMissed f p && (!p.header.provisional || s.tokenBound p.header.token)

/-- What a scan does not find of a version is lost (05 R205). -/
def State.loseMissed (s : State) (f : StartFacts) (v : Version) : State :=
  ((v.chunksOf 0 (v.value.getD []).length).filter fun k => !s.chunkFound f v k).foldl (fun s k => s.markLost v (v.chunkPart k)) s

/-- The map record of a version can be found no more by the scan of a moon: it is newer than the surviving map page that covers
it, or that page is lost, no FRONT_CKPT journal entry holds its key, and no pack page does (08 R355). -/
def State.recordLost (s : State) (f : StartFacts) (m : Nat) (v : Version) : Bool :=
  let newer := (s.tailOf m).any fun r => !r.done && match r.change with
    | .put _ _ csn _ => csn == v.csn
    | _ => false
  let gone := ((s.mapPage? m (mapPageOf v.objId)).map fun p => bitOf f.noMap m || !s.rebuilds f p).getD false
  (newer || gone) && !inPack v.key (v.value.getD []).length && !s.media.ckpts.any fun k => k.entries.any (·.csn == v.csn)

/-- The metadata of a version is lost (05 R208). -/
def State.loseRecord (s : State) (v : Version) : State :=
  let same := fun (u : Version) => u.csn == v.csn && u.nsid == v.nsid && u.key == v.key
  let s1 : State := { s with kv := { s.kv with versions := mapWhere same (fun u => { u with metaLost := true }) s.kv.versions } }
  (s1.setCause cUnrecovered).logEvent 0x030B 0x41 v.nsid [(0, toLe 8 v.csn), (8, toLe 2 v.nsid)]

/-- What the scan of a moon makes of its band table (08 R355): a block of which it finds no page is in no band; the program
temperatures are those of the headers. Page 0 of a block without a page is read too. -/
def State.rebuildBands (s : State) (f : StartFacts) (m : Nat) : State :=
  let on := fun (i : BlockId) => s.media.pages.filter (·.block == i)
  let stays := fun (i : BlockId) => i.moon != m || (on i).isEmpty || (on i).any (s.rebuilds f)
  let table := fun (b : Block) => match (on b.id).find? fun p => !pageMissed f p with
    | some p => { b with progTemp := p.header.progTemp, progTime := p.header.progTime }
    | none => if (on b.id).isEmpty && !s.partOut b.id then { b with reads := b.reads + 1 } else b
  let bands := s.media.bands.map fun (q : Band) => { q with blocks := q.blocks.filter stays }
  { s with media := { s.media with bands := bands, blocks := mapWhere (·.id.moon == m) table s.media.blocks } }

/-- The scan of a moon (08 R355, 09 R369): codeword 0 of page 0 of each of its blocks, then of each page of a block that is not
erased; the map, which holds what the pages and the journals show, stands in DRAM and the log tail has no use any more. -/
def State.scanMoon (f : StartFacts) (s : State) (m : Nat) : State :=
  let mine := s.media.pages.filter fun p => p.block.moon == m && (p.index == 0 || !looksErased f p.block)
  let s1 := (mine.foldl (fun s p => s.readFlash p headerCodewords false) s).rebuildBands f m
  let found := s.kv.versions.filter fun v => v.home == m && v.place != .staged && v.value.isSome
  let s2 := found.foldl (fun s v => s.loseMissed f v) s1
  let s3 := (found.filter (s.recordLost f m)).foldl State.loseRecord s2
  s3.modMoon m fun x => { x with tail := [], logTail := 0, scans := x.scans + 1 }

/-- A moon has map pages in its DRAM: the hot ones, and those that its log tail changes (08 R347, R354). -/
def State.loadMap (s : State) (m : Nat) : State :=
  let pages := ((s.kv.versions.filter fun v => s.lookupMoon v.home == m && v.place != .staged).map fun v => mapPageOf v.objId)
  let tail := (s.tailOf m).filter fun r => !r.done
  s.modMoon m fun x => { x with hotMap := (pages.filter (Config.mapHot m ·) ++ tail.map (·.page)).eraseDups }

/-- The UNCLEAN_START entry of this start: the path, the moons scanned, and the pages found unreadable (16 Table 16.7, 08
R322; the place of the count is a DESIGN CHOICE, notes/assumptions/66.md). -/
def State.noteRecovery (s : State) (moons : List Nat) (unreadable : Nat) : State :=
  let mask := bitMask ((List.range 8).map fun m => decide (m ∈ moons))
  let note := fun (e : LogEntry) =>
    { e with data := logData [(0, toLe 1 (b2n (!moons.isEmpty))), (4, toLe 4 mask), (8, toLe 4 unreadable)] }
  let last := (((s.attn.log.filter fun e => e.code == 0x0102).getLast?).map (·.seq)).getD 0
  { s with attn := { s.attn with log := mapWhere (·.seq == last) note s.attn.log } }

/-- After an unclean stop read counters restart (09 R371). -/
def State.restartReads (s : State) : State :=
  { s with media := { s.media with blocks := s.media.blocks.map Block.restart, restarted := true
                                   moons := s.media.moons.map fun m => { m with scans := 0 } } }

/-- A FRONT_CKPT of which an intact copy stands on a moon in service: one suffices (08 R354). -/
def State.ckptStands (s : State) (f : StartFacts) (k : Ckpt) : Bool :=
  s.media.pages.any fun p => p.header.kind == .frontCkpt && p.header.laddr == k.laddr && !headerLost f p && !s.partOut p.block

/-- The Fronts rebuild their journals, and the high-water mark, from the FRONT_CKPT copies that stand; what no copy holds is
gone (08 R354). -/
def State.recoverJournals (s : State) (f : StartFacts) : State :=
  let ks := s.media.ckpts.filter (s.ckptStands f)
  { s with media := { s.media with ckpts := ks }
           seq := { s.seq with journal := [], hwm := max s.seq.hwm (maxNat (ks.map (·.hwm))) } }

/-- Pages whose header recovery reads: all of a moon that scans, else its map pages, map log pages and FRONT_CKPT pages (08 R322,
R354). -/
def recoveryReads (moons : List Nat) (p : Page) : Bool :=
  decide (p.block.moon ∈ moons) || p.header.kind == .map || p.header.kind == .mapLog || p.header.kind == .frontCkpt

/-- Step 10: each moon loads its hot map pages, replays its log tail onto the map pages, or scans (02 R81, R82; 08 R354). -/
def State.recoverMaps (s : State) (f : StartFacts) : State :=
  let unclean := decide (s.power.start = .unclean)
  let s1 := (if unclean then s.restartReads else s).recoverJournals f
  let moons := s1.moonsIn.filter fun m => s1.scansMap f m
  let s2 := s1.moonsIn.foldl State.loadMap (moons.foldl (State.scanMoon f) s1)
  if unclean then s2.noteRecovery moons (s.media.pages.filter fun p => recoveryReads moons p && headerLost f p).length
  else s2

/-- The age of every die with a programmed block advances by `ms` (09 R376). -/
def State.advanceAges (s : State) (ms : Nat) : State :=
  let dies := ((s.media.bands.flatMap (·.blocks)).map fun i => (i.moon, i.die)).eraseDups
  dies.foldl (fun s d => s.modDie d.1 d.2 fun q => { q with age := q.age + ms }) s

/-- With the time island disciplined before the sampling pass: the unpowered interval is added to the ages, and a start
after the shelf deadline is reported (09 R376, R390). -/
def State.applyShelf (s : State) : State :=
  match s.media.shelfAge && s.time.disciplined, s.tag.seen with
  | true, some (at_, day) =>
    let ms := (s.time.now - at_) / 1000000
    let af := if s.power.fromShutdown then max 1000 (ageFactor s.thermal.inletMax) else 1000
    let s1 := s.advanceAges (ms * af / 1000)
    let s2 : State := { s1 with media := { s1.media with shelfAge := false } }
    if day != 0 && decide (day < dayOf s.time.now) then
      ({ s2 with attn := { s2.attn with lateStart := true } }).raise cLate 0x0104 0xFF 0 [(0, toLe 4 (dayOf s.time.now - day))]
    else s2
  | _, _ => s

/-- The mode that a start resumes (02 R58). -/
def ModePart.resumed (p : ModePart) : Mode := match p.mode with
  | .service => p.afterService
  | .primary | .mirror | .eclipse => .mirror
  | m => m

/-- Causes whose conditions hold at the end of a start (02 R78, 16 R608). -/
def State.renewCauses (s : State) : State :=
  (List.range 27).foldl (fun s b => if b != 0 && s.conditionHolds b then s.setCause b else s) s

/-- Health warnings whose conditions hold at the end of a start (16 R610, Table 16.4). -/
def State.renewWarnings (s : State) : State :=
  let engines := s.media.moons.any fun m => m.enginesOut != 0 || m.patternOut != 0
  State.rebuildWarning (((s.setWarning 1 (decide (s.moduleReserve ≤ 25))).setWarning 2 s.endNear).setWarning 5 engines)

/-- The DATA of WARMING and WARMING_LONG (16 Table 16.7). -/
def warmingData (on : Bool) (coldest : Int) : List (Nat × Bytes) := [(0, toLe 1 (b2n on)), (2, toLe 2 (signed16 coldest))]

/-- Every island is held at T0 (02 R65). -/
def State.holdAtT0 (s : State) : State :=
  (s.thermal.islands.filter fun t => !t.tripped && t.level != 0).foldl (fun s t => s.setLevel t.island 0) s

/-- The mode in force at step 12 (02 R58): a module stored in SERVICE leaves it, for CUSTODY while a cause holds (R56), and a
pair member resynchronises (Table 2.2); one stored in COMMISSION stays there. -/
def State.resumeMode (s : State) (cause : Nat) : State := match s.mode.mode with
  | .service => s.leaveService cause
  | .commission => s.setMode .commission cause
  | _ => s.enterOrCustody s.mode.resumed cause

/-- Step 12: the stored mode is resumed, with WARMING in force when the media is cold, and a module that was WARMING before
a warm start stays so until 02 R62 ends it; START_INCOMPLETE clears; the sampling pass is due (02 R58, R62, R78, R83; 09
R376; 16 R609; 19 R679, R688). A fatal fault leaves SERVICE in force (Table 2.7). -/
def State.startDone (s : State) (coldest : Int) : State :=
  let cause := if s.fw.applying.isEmpty then 0x00 else 0x0F
  let s1 := if s.mode.fatal then s else s.resumeMode cause
  let cold := decide (coldest < -100)
  let s2 : State := { s1 with mode := { s1.mode with warming := s1.mode.warming || cold }
                              fw := { s1.fw with applying := [] }
                              thermal := { s1.thermal with coldest := coldest }
                              win := s1.win.chill coldest
                              media := { s1.media with starts := s1.media.starts + b2n s.power.passDue
                                                       shelfAge := s.power.passDue && s.tag.seen.isSome } }
  let s3 := if cold && !s1.mode.warming then s2.logEvent 0x0504 0xFF 0 (warmingData true coldest) else s2
  let s4 := ((((if s3.mode.warming then s3.holdAtT0 else s3).trialOver 1).trialOver 2).clearCause cStart).applyShelf
  (s4.renewCauses.renewWarnings.ctrlDone [0x11, 0x12]).writeHealth

/-- SLOT_ID is sampled: a shorted bit reads 1 (20 Table 20.11, Table 20.12; pins 9 to 14 of 21 Table 21.7). -/
def State.sampleSlot (s : State) : State :=
  let bits := bitMask ((List.range 6).map fun k => bitOf s.ident.slotPins k || s.shorted (9 + k))
  { s with ident := { s.ident with slotId := bits } }

/-- What a start-up step brings (02 Table 2.6). -/
def State.startStepDone (s : State) (n : Nat) (f : StartFacts) : State := match n with
  | 2 => if s.power.fromShutdown then s else s.startTag.sampleSlot.trialOver 0
  | 3 =>
    let ramp := fun (q : Feed) => if q.inRange && q.chan == .off then { q with chan := .ramping } else q
    { s with feeds := { s.feeds with a := ramp s.feeds.a, b := ramp s.feeds.b } }
  | 4 =>
    let on := fun (q : Feed) => if q.chan == .ramping then { q with chan := .on } else q
    ({ s with feeds := { s.feeds with a := on s.feeds.a, b := on s.feeds.b, bulkUp := true } }).trialOver 3
  | 5 => s.startFormats
  | 8 => { s with win := { s.win with reached100 := true } }
  | 9 => s.loadKeys
  | 10 => s.recoverMaps f
  | 11 => { s with seq := s.seq.newBlock }
  | 12 => s.startDone f.coldestDie
  | _ => s

/-- START_STEP_REACHED (02 R79, Table 2.6): the next step is reached. -/
def execStartStepReached (facts : StartFacts) (s : State) : Result :=
  .next (if s.power.step = 0 || 12 ≤ s.power.step || s.power.shutDone || !s.feeds.mgmtUp then s
    else
      let n := s.power.step + 1
      let s1 : State := { s with power := { s.power with step := n } }
      s1.startStepDone n facts)

/-! ### Wake-up failures (02 R87 to R89, Table 2.7) -/

/-- A failed island's unit is marked failed (02 R88), with the outcome of 02 Table 2.7; the table has none for the time
island, whose failure is that of 16 Table 16.1. -/
def State.wakeFailed (s : State) (u : UnitId) (island : Nat) (osc : Bool) (attempts : Nat) : State :=
  let s1 : State := { s with attn := { s.attn with islands := (unitCode u :: s.attn.islands).eraseDups } }
  let s2 := s1.raise cIsland 0x0103 (unitCode u) 0 [(0, toLe 1 (b2n osc) ++ toLe 1 island ++ toLe 1 attempts)]
  match u with
  | .moon m => s2.moonOut m 1 4 true
  | .front f => s2.frontOut f 1 4 []
  | .vault => ({ s2 with vault := { s2.vault with up := false } }).fatalFault 0x0103
  | .mgmt => { s2 with feeds := { s2.feeds with mgmtUp := false }, power := { s2.power with step := 0 } }
  | .time => s2.timeLost

/-- An island of a unit, as one number. -/
def islandKey (u : UnitId) (island : Nat) : Nat := 256 * unitCode u + island

/-- Failed attempts of an island so far. -/
def State.attempts (s : State) (u : UnitId) (island : Nat) : Option (Nat × Bool) := assoc (islandKey u island) s.attn.retries

/-- Notes the failed attempts of an island. -/
def State.setAttempts (s : State) (u : UnitId) (island n : Nat) (osc : Bool) : State :=
  { s with attn := { s.attn with retries := setAssoc (islandKey u island) (n, osc) s.attn.retries } }

/-- ISLAND_WAKE_FAIL (02 R87, R88): a first attempt has failed; the supply goes off for 1 ms. -/
def execIslandWakeFail (i : IslandOf) (oscillator : Bool) (s : State) : Result :=
  .next (if (s.attempts i.unit i.island).isSome || decide (unitCode i.unit ∈ s.attn.islands) then s
    else s.setAttempts i.unit i.island 1 oscillator)

/-- ISLAND_RETRY (02 R88): the island wakes, or after its third retry its unit is marked failed. The entry names what
failed at the first attempt: DESIGN CHOICE, notes/assumptions/64.md. -/
def execIslandRetry (i : IslandOf) (ok : Bool) (s : State) : Result :=
  .next (match s.attempts i.unit i.island with
    | none => s
    | some (n, osc) =>
      let rest := s.attn.retries.filter fun r => r.1 != islandKey i.unit i.island
      let s1 : State := { s with attn := { s.attn with retries := rest } }
      if ok then s1
      else if n + 1 < 4 then s.setAttempts i.unit i.island (n + 1) osc
      else s1.wakeFailed i.unit i.island osc (n + 1))

/-! ### WARMING (02 R62 to R66) -/

/-- All of one charge is programmed: of a command in flight, or of one that has completed. -/
def State.programCharge (s : State) (q : Charge) : State := match s.cmd? q.ref with
  | some c => ((s.programCmd c).draw.recordProgrammed q.ref s.hostAnswer).tryDurable q.ref s.hostAnswer
  | none => s.releaseCharge q

/-- All staged data is programmed (02 R64, 07 R295): charged bytes first, in the order of their CSN, then provisional pages,
those of objects too (07 R731). -/
def State.programCharges (s : State) : State :=
  let s1 := (sortBy (fun (a b : Charge) => decide (a.csn ≤ b.csn)) s.seq.charges).foldl State.programCharge s
  let s2 := (s1.cmds.list.filter fun c => !c.hasCsn && c.phase != .finished).foldl State.programCmd s1
  s2.kv.objects.foldl (fun s o => (o.extents.filter fun e => e.staged && !e.progd).foldl (fun s e =>
    let r := s.objectToken ((s.object? o.handle).getD o)
    r.1.programJob { owner := o.pageOwner e, token := r.2, charge := none, ext := e }) s) s2

/-- COLD_PREPARE (02 R64, R73): at -22 degC the window is zero, all staged data is programmed, and a log-tail checkpoint is
written with every high-water mark and the journals; a WARMING module programs nothing (R63). Every such reading wakes the
module. -/
def execColdPrepare (coldest : Int) (s : State) : Result :=
  .next (if -88 < coldest || !s.fetching then s
    else
      let s1 : State := { s with win := s.win.chill coldest, thermal := { s.thermal with coldest := coldest } }
      (if s.mode.warming then s1 else s1.programCharges.checkpointLogs).wake)

/-- WARMING_ENTER (02 R62, R63, R65; 05 R200): below -25 degC; mutations without their lock complete ST_WARMING. -/
def execWarmingEnter (coldest : Int) (s : State) : Result :=
  .next (if -100 ≤ coldest || s.mode.warming || s.power.step != 12 then s
    else
      let s1 : State := { s with mode := { s.mode with warming := true, warmingLong := false }
                                 win := s.win.chill coldest
                                 thermal := { s.thermal with coldest := coldest } }
      ((s1.logEvent 0x0504 0xFF 0 (warmingData true coldest)).holdAtT0.refuseUnlocked).wake)

/-- WARMING_EXIT (02 R62, R64): -20 degC or warmer for 10 s. -/
def execWarmingExit (coldest : Int) (s : State) : Result :=
  .next (if coldest < -80 || !s.mode.warming then s
    else
      let s1 : State := { s with mode := { s.mode with warming := false, warmingLong := false }
                                 win := s.win.chill coldest
                                 thermal := { s.thermal with coldest := coldest } }
      s1.logEvent 0x0504 0xFF 0 (warmingData false coldest))

/-- WARMING_LONG (02 R66). -/
def execWarmingLong (coldest : Int) (s : State) : Result :=
  .next (if !s.mode.warming || s.mode.warmingLong then s
    else ({ s with mode := { s.mode with warmingLong := true } }).raise cWarming 0x0505 0xFF 0 (warmingData true coldest))

end Sys2Proof.Machine
end

