-- ==== Sys2Proof/Machine/Registers.lean ====
section
/-! DEFINITION. The Setup Register Space (18): what each register reads as, and writes to registers. -/

namespace Sys2Proof.Machine

/-! ### Register values (18 Table 18.3 to Table 18.21) -/

/-- Bits in a word, from pieces (lowest bit, value). -/
def word (ps : List (Nat × Nat)) : Bytes := toLe 4 (sumNat (ps.map fun p => p.2 * 2 ^ p.1))

/-- Identity and status (18 Table 18.3). -/
def State.identityBlock (s : State) : Bytes :=
  let banks := bitMask (s.fw.comps.map (·.bankB))
  let failed := fun (l : List Bool) => bitMask (l.map (!·))
  fit 0x80 (word [(0, 0x35315850)] ++ word [(0, 1)] ++ fit 16 s.ident.serial ++ word [(0, s.ident.moduleId)] ++ word [(0, banks)] ++
    (List.range 4).flatMap (fun c => toLe 4 (s.imageVersion c)) ++ fit 32 s.ident.certDigest) ++
  fit 0x70 (word [(0, modeCode s.mode.mode), (8, b2n s.mode.warming), (9, b2n s.mode.archival), (10, s.mode.custodyBits),
      (12, s.startStep), (16, pstateCode s.power.pstate % 8), (23, s.throttle)] ++
    word [(0, failed (s.media.moons.map (·.inService))), (8, failed (s.media.fronts.map (·.inService))), (10, b2n (!s.vault.up))]) ++
  word [(0, s.ctrl.rejOffset), (16, s.ctrl.rejPath), (24, s.ctrl.rejCount)]

/-- Control (18 Table 18.5). -/
def State.controlBlock (s : State) : Bytes :=
  word [] ++ word [(0, s.ctrl.code), (8, s.ctrl.result), (16, s.ctrl.reqSeq)] ++ zeros 8 ++ word [(0, s.settings.idleP0P1)] ++
  word [(0, s.settings.idleP1P2)] ++ word [(0, s.settings.idleP2P3)]

/-- Service settings (18 Table 18.7). -/
def State.serviceBlock (s : State) : Bytes :=
  toLe 8 s.settings.serviceId ++ word [(0, s.settings.orphanHold)] ++ word [(0, s.settings.idleLimit)] ++
  word [(0, s.settings.pinLife)] ++ word [(0, s.settings.pinLinger)]

/-- FORCE_CAUSE: 1 bank not yet at 100 V, 2 cold, 3 no result, 4 power loss (18 Table 18.8, 07 R300). -/
def State.forceCause (s : State) : Nat :=
  if s.feeds.loss ≠ .none then 4 else if s.win.noResult then 3 else if s.win.cold then 2 else if s.win.reached100 then 0 else 1

/-- Commit window (18 Table 18.8). -/
def State.windowBlock (s : State) : Bytes :=
  word [(0, s.settings.winLimit)] ++ zeros 4 ++ toLe 8 s.win.window ++ toLe 8 s.win.occ ++ toLe 4 s.win.energy ++
  word [(0, b2n (s.forceCause != 0)), (1, s.forceCause), (4, b2n s.attn.writeThru)] ++
  s.win.strings.flatMap fun t => word [(0, t.volt / 10), (16, b2n (t.inService && t.cap != 0))] ++ word [(0, t.cap)]

/-- Media (18 Table 18.10). A moon shows IN_SERVICE once the moons run, from step 9 of Table 2.6 (02). -/
def State.mediaBlock (s : State) : Bytes :=
  let run := decide (9 ≤ s.power.step) && !s.power.shutDone
  let moon := fun (m : Nat) =>
    let q := s.media.moons.getD m {}
    word [(0, s.meanWear m), (16, s.maxWear m)] ++
    word [(0, q.reserve), (8, q.diesLost.length), (16, q.chansLost.length), (24, b2n (q.inService && run)), (25, b2n q.degraded)] ++
    word [(0, s.findings m), (16, signed16 q.maxTemp)] ++ zeros 4
  let rebuild := match s.rebuild with
    | some k => toLe 8 k.num ++ word [(0, k.rebuildKind), (8, k.percent), (16, 1)]
    | none => zeros 12
  (List.range 8).flatMap moon ++ word [(0, s.moduleReserve)] ++ zeros 4 ++ rebuild

/-- A program slot (18 Table 18.12). -/
def State.slotBlock (s : State) (k : Nat) : Bytes :=
  let p := s.programs.getD k { slot := k }
  let gen := fun (g : Option ProgGen) => (g.map (·.gen)).getD 0
  let build := fun (g : Option ProgGen) => (g.map (·.buildId)).getD 0
  let held := (p.retained.map fun g => s.comets.list.any fun c => c.isRunning && decide ((k, g.gen) ∈ c.refs)).getD false
  word [(0, gen p.current)] ++ word [(0, gen p.retained)] ++ toLe 8 (build p.current) ++ toLe 8 (build p.retained) ++
  word [(0, (p.current.map (·.nStates)).getD 0), (16, b2n ((p.current.map (·.shared)).getD false)), (17, b2n held)] ++
  word [(0, (p.current.map (·.nsid)).getD 0)]

/-- Time (18 Table 18.13). -/
def State.timeBlock (s : State) : Bytes :=
  let t := s.time
  word [(0, s.settings.timeSource), (8, s.settings.ptpPort)] ++
  word [(0, b2n t.disciplined), (1, b2n t.holdover), (2, b2n t.ptpLocked), (3, b2n t.ppsOk), (4, b2n t.todSet)] ++
  toLe 8 t.now ++ zeros 8 ++ toLe 4 (signed32 t.offset) ++ toLe 4 t.ppsRejected

/-- A measured value that no command of the model brings: what a sensor shows now. -/
def State.sensed (s : State) (k : Nat) : Nat := (Config.sensor k s.time.now).toNat

/-- Power input and thermal (18 Table 18.14). Feed currents, input power and the coolant outlet are free values. -/
def State.powerBlock (s : State) : Bytes :=
  let latched := fun (f : Feed) => b2n (f.chan == .latched)
  word [(0, b2n s.feeds.a.inRange), (1, b2n s.feeds.b.inRange), (2, latched s.feeds.a), (3, latched s.feeds.b)] ++
  word [(0, s.feeds.a.volt), (16, s.feeds.b.volt)] ++ word [(0, s.sensed 0), (16, s.sensed 1)] ++
  word [(0, s.sensed 2)] ++ word [(0, signed16 s.thermal.inlet), (16, s.sensed 3)] ++
  word [(0, s.pins.short.toNat), (24, b2n s.pins.contention)]

/-- STAGE_SEQ, APPLY and APPLY_STATUS (18 Table 18.15). -/
def StageWords.bytes (w : StageWords) : Bytes := word [(0, w.seq)] ++ word [] ++ word [(0, w.result), (16, w.applies)]

/-- Bootstrap credential; SECRET reads as 0 (18 Table 18.20). -/
def State.bootBlock (s : State) : Bytes :=
  let b := s.creds.boot
  word [(0, b.cred)] ++ zeros 32 ++ StageWords.bytes { seq := b.stageSeq, result := b.result, applies := b.applies } ++
  word [(0, b2n (s.creds.list.any (·.role == 1)))]

/-- A host port (18 Table 18.17). -/
def State.hostBlock (s : State) (n : Nat) : Bytes :=
  let h := s.host n
  word [(0, s.stagedBreakout n), (2, b2n h.stage.pfcEn)] ++ word [(0, h.stage.dscp)] ++ word [(0, h.stage.pcp)] ++ h.words.bytes ++
  word [(0, h.linkUp), (4, h.failed), (8, h.laneLock), (12, h.live.breakout)] ++ word [(0, h.eyeMin)]

/-- A logical port (18 Table 18.18). -/
def State.logicalBlock (s : State) (l : Nat) : Bytes := fit 96 (s.logical l).stage ++ (s.logical l).words.bytes

/-- The counter window of a path (18 Table 18.19, R662). -/
def State.windowOf (s : State) (p : Path) : Bytes :=
  match s.ports.windows.find? fun w => decide (w.path = p) with
  | some w => word [] ++ word [(0, w.selected), (31, b2n w.valid)] ++ w.counters.flatMap (toLe 8)
  | none => []

/-- A session's own block (18 Table 18.21). -/
def Session.setupBytes (x : Session) : Bytes :=
  let b := x.setup
  word [(0, x.setupState), (16, if x.setupState = 2 then b.invalidAt else 0)] ++ word [] ++ toLe 8 b.sqBase ++ toLe 8 b.cqBase ++
  toLe 8 b.dbAddr ++ toLe 4 b.rkey ++ word [(0, b.sqLog2), (8, b.cqLog2)] ++ word [(0, b.idleTime)] ++
  word [(0, b.eventIvl), (16, b.event), (18, b2n b.ordered)] ++ toLe 8 b.reportAddr ++ toLe 4 b.reportRkey ++ toLe 4 b.resume ++
  toLe 4 x.handle ++ word [(0, x.role), (2, b2n b.window)] ++ toLe 4 (((x.ring? 0).map (·.resetSeq.toNat)).getD 0)

/-- The bytes of the block at an offset, with the block's base (18 Table 18.1); an offset outside every block reads as 0
(R646). -/
def State.regBlock (s : State) (p : Path) (off : Nat) : Nat × Bytes :=
  if off < 0x100 then (0, s.identityBlock)
  else if off < 0x200 then (0x100, s.controlBlock)
  else if off < 0x300 then (0x200, s.serviceBlock)
  else if off < 0x400 then (0x300, s.windowBlock)
  else if off < 0x500 then (0x400, toLe 4 s.attn.causes.toNat ++ zeros 4 ++ toLe 4 s.attn.warnings.toNat)
  else if off < 0x600 then (0x500, s.mediaBlock)
  else if off < 0x700 then (0x600, s.asu.repairs.flatMap (toLe 4))
  else if 0x800 ≤ off ∧ off < 0xA00 then (off / 32 * 32, s.slotBlock ((off - 0x800) / 32))
  else if 0xA00 ≤ off ∧ off < 0xB00 then (0xA00, s.timeBlock)
  else if 0xB00 ≤ off ∧ off < 0xC00 then (0xB00, s.powerBlock)
  else if 0xC00 ≤ off ∧ off < 0xD00 then (0xC00, if sideband p then s.bootBlock else [])
  else if 0x1000 ≤ off ∧ off < 0x1800 then (off / 64 * 64, s.hostBlock ((off - 0x1000) / 64))
  else if 0x1C00 ≤ off ∧ off < 0x1D00 then (0x1C00, s.windowOf p)
  else if 0x2000 ≤ off ∧ off < 0x6000 then (off / 128 * 128, s.logicalBlock ((off - 0x2000) / 128))
  else if 0xF000 ≤ off ∧ off < 0xF100 then
    (0xF000, match p with
      | .inband sid => ((s.session? sid).map Session.setupBytes).getD []
      | _ => [])
  else (off, [])

/-- What a register word reads as on a path (18 R646, R651). -/
def State.regRead (s : State) (p : Path) (off : Nat) : Nat :=
  let b := s.regBlock p off
  u32At b.2 (off - b.1)

/-! ### Registers with behaviour of their own -/

/-- ATTN_ACK (16 R609, 18 Table 18.9). -/
def execAttnAck (p : Path) (mask : Word) (s : State) : Result := .next (s.onPath p fun s => s.acknowledge mask.toNat)

/-- The counters of a link, and whether it is in use (17 R637, 18 R662). -/
def State.linkCounters (s : State) : LinkId → Option (List Nat)
  | .port l => if s.portExists l then (s.ports.logical[l]?).map (·.counters) else none
  | .pair n => (s.ports.links[n]?).map (·.counters)

/-- SELECT and PAIR of a link (18 Table 18.19). -/
def selectOf : LinkId → Nat
  | .port l => l % 128
  | .pair n => n % 128 + 128

/-- The counters that no command of the model moves: frames and bytes sent, FEC codewords and gear times (17 Table 17.5). Each
snapshot reads free values for them. -/
def uncounted : List Nat := [2, 3, 17, 18, 19, 20, 21]

/-- What a snapshot reads of a link's counters. -/
def readCounters (n : Nat) (l : List Nat) : List Nat :=
  ((List.range 22).zip l).map fun p => if p.1 ∈ uncounted then (Config.linkCounter n p.1).toNat else p.2

/-- A snapshot into the writer's window (18 R662). -/
def State.snap (s0 : State) (p : Path) (link : LinkId) : State :=
  let s := s0.draw
  let others := s.ports.windows.filter fun w => decide (w.path ≠ p)
  let taken := (s.linkCounters link).map (readCounters s0.fresh)
  let w : CounterWin := { path := p, selected := selectOf link, valid := taken.isSome, counters := taken.getD (List.replicate 22 0) }
  { s with ports := { s.ports with windows := others ++ [w] } }

/-- COUNTER_SNAP (18 R662). -/
def execCounterSnap (p : Path) (link : LinkId) (s : State) : Result := .next (s.onPath p fun s => s.snap p link)

/-- A write of PPS_SECONDS takes effect at the next accepted edge; ignored unless SOURCE is 2 (17 R645, 18 Table 18.13). -/
def State.setPpsSeconds (s : State) (seconds : Nat) : State :=
  if s.settings.timeSource = 2 then { s with time := { s.time with ppsSeconds := some seconds } } else s

/-- PPS_SECONDS_WRITE. -/
def execPpsSecondsWrite (p : Path) (seconds : Nat) (s : State) : Result :=
  .next (s.onPath p fun s => s.setPpsSeconds (seconds % 2 ^ 64))

/-- A write of SOURCE and PTP_PORT (18 R658). -/
def State.setTimeSource (s : State) (source port : Nat) : State :=
  if source = s.settings.timeSource ∧ port = s.settings.ptpPort then s
  else ({ s with settings := { s.settings with timeSource := source, ptpPort := port } }).holdOver

/-- TIME_SOURCE_WRITE (18 R658). -/
def execTimeSourceWrite (p : Path) (source port : Nat) (s : State) : Result :=
  .next (s.onPath p fun s => s.setTimeSource (bitsOf source 0 2) (bitsOf port 0 7))

/-! ### Plain registers (18 R649, R650) -/

/-- A value in its stated range is written; one outside it is ignored and recorded (18 R649). -/
def State.putReg (s : State) (p : Path) (off : Nat) (ok : Bool) (f : Settings → Settings) : State :=
  if ok then { s with settings := f s.settings } else s.reject p off

/-- 0, or a value in a range (18 Table 18.5). -/
def zeroOr (lo hi v : Nat) : Bool := v == 0 || inRange lo hi v

/-- A write of the APPLY word of a staged group: GO applies, no GO discards (18 R659). -/
def State.writeApply (s : State) (p : Path) (g : StageGroup) (w : Nat) : State :=
  if !bitOf w 31 then s.discard p g
  else match g with
    | .hostPort n =>
      let r := s.portCheck n (bitsOf w 0 16)
      (if r = .applied then s.applyPort n else s).modHost n fun h => { h with words := h.words.apply r }
    | .logicalPort l =>
      let r := s.addressCheck l (bitsOf w 0 16)
      (if r = .applied then s.applyAddress l else s).modLogical l fun q => { q with words := q.words.apply r }
    | .bootstrap => if sideband p then s.bootApply (bitsOf w 0 16) else s

/-- A write of SELECT with SNAP (18 Table 18.19). -/
def State.writeSelect (s : State) (p : Path) (w : Nat) : State :=
  if bitOf w 31 then s.snap p (if bitOf w 7 then .pair (bitsOf w 0 7) else .port (bitsOf w 0 7)) else s

/-- A write of one word, whatever its register (18 R646 to R650). Read-only words and offsets outside every block ignore
it. -/
def State.writeWord (s : State) (p : Path) (off : Nat) (w : Word) : State :=
  let v := w.toNat
  if 0xF000 ≤ off then
    match p with
    | .inband sid => s.writeSetup sid (off - 0xF000) v
    | _ => s
  else if 0x2000 ≤ off ∧ off < 0x6000 ∧ off % 128 = 0x64 then s.writeApply p (.logicalPort ((off - 0x2000) / 128)) v
  else if 0x1000 ≤ off ∧ off < 0x1800 ∧ off % 64 = 0x10 then s.writeApply p (.hostPort ((off - 0x1000) / 64)) v
  else match off with
    | 0x0018 => if s.pair.paired then s else { s with ident := { s.ident with moduleId := bitsOf v 0 10 } }
    | 0x0100 => s.writeControl p v
    | 0x0110 => s.putReg p off (zeroOr 10 10000 (bitsOf v 0 24)) fun g => { g with idleP0P1 := bitsOf v 0 24 }
    | 0x0114 => s.putReg p off (zeroOr 100 3600000 (bitsOf v 0 22)) fun g => { g with idleP1P2 := bitsOf v 0 22 }
    | 0x0118 => s.putReg p off (zeroOr 60 86400 (bitsOf v 0 17)) fun g => { g with idleP2P3 := bitsOf v 0 17 }
    | 0x0200 => s.putReg p off true fun g => { g with serviceId := setHalf false g.serviceId v }
    | 0x0204 => s.putReg p off true fun g => { g with serviceId := setHalf true g.serviceId v }
    | 0x0208 => s.putReg p off (inRange 1 300 (bitsOf v 0 9)) fun g => { g with orphanHold := bitsOf v 0 9 }
    | 0x020C => s.putReg p off (zeroOr 1 10080 (bitsOf v 0 14)) fun g => { g with idleLimit := bitsOf v 0 14 }
    | 0x0210 => s.putReg p off (inRange 1 10080 (bitsOf v 0 14)) fun g => { g with pinLife := bitsOf v 0 14 }
    | 0x0214 => s.putReg p off (inRange 0 3600 (bitsOf v 0 12)) fun g => { g with pinLinger := bitsOf v 0 12 }
    | 0x0300 => s.putReg p off (inRange 0 128 (bitsOf v 0 8)) fun g => { g with winLimit := bitsOf v 0 8 }
    | 0x0404 => s.acknowledge v
    | 0x0A00 => s.setTimeSource (bitsOf v 0 2) (bitsOf v 8 7)
    | 0x0A10 => s.setPpsSeconds (setHalf false (s.time.ppsSeconds.getD 0) v)
    | 0x0A14 => s.setPpsSeconds (setHalf true (s.time.ppsSeconds.getD 0) v)
    | 0x0C28 => s.writeApply p .bootstrap v
    | 0x1C00 => s.writeSelect p v
    | _ => s.writeStaged p off w

/-- The words of a transfer take effect in ascending address order (18 R647). -/
def State.writeWords (s : State) (p : Path) : Nat → List Word → State
  | _, [] => s
  | off, w :: ws => State.writeWords (s.writeWord p off w) p (off + 4) ws

/-- Words per transfer (18 Table 18.2). -/
def maxWords : Path → Nat
  | .i3c => 16
  | _ => 64

/-- The shape of a transfer (18 R646, R653, R654; 19 Table 19.1). -/
def transferOk (p : Path) (off n : Nat) : Bool :=
  aligned off 4 && decide (0 < n) && decide (n ≤ maxWords p) && decide (off + 4 * n ≤ 65536)

/-- A transfer lies in the session's own block, which needs no window (18 R651, R654). -/
def inSetup (off n : Nat) : Bool := decide (0xF000 ≤ off) && decide (off + 4 * n ≤ 0xF100)

/-- A read transfer on a path: what its words read as, all at one moment (18 R647, R653); none when it is refused. In-band it reaches
the session's own block, and the rest only through the window of a Custodian (03 R94, 18 R651, R667); any other RDMA READ is the
row INVALID_HOST_OPERATION (03 R92, 18 R654). -/
def State.readTransfer (s : State) (p : Path) (off n : Nat) : Option (List Nat) :=
  let own := match p with
    | .inband sid => inSetup off n && s.setupOpen sid
    | _ => false
  if transferOk p off n && (own || s.pathOpen p) then some ((List.range n).map fun k => s.regRead p (off + 4 * k)) else none

/-- A transfer that is not well formed: ignored on I3C, stalled on the service port, a NAK in-band (18 R653, R654; 19
R669). -/
def State.badTransfer (s : State) : Path → State
  | .i3c => s
  | .usb => if s.pathOpen .usb then s.emit .usbStall else s.pathRefuses .usb
  | .inband sid => s.pathRefuses (.inband sid)

/-- REGISTER_WRITE: one transfer of words (18 R647 to R654). -/
def execRegisterWrite (p : Path) (offset : Nat) (words : List Word) (s : State) : Result :=
  .next (if !transferOk p offset words.length then s.badTransfer p
    else match p with
      | .inband sid =>
        if inSetup offset words.length && s.setupOpen sid then s.writeWords p offset words
        else s.onPath p fun s => s.writeWords p offset words
      | _ => s.onPath p fun s => s.writeWords p offset words)

end Sys2Proof.Machine
end

