-- ==== Sys2Proof/Machine/Mgmt.lean ====
section
/-! DEFINITION. Failure and restart of the management island and of the time island (16 R603, R604; 19 R672, R677). -/

namespace Sys2Proof.Machine

/-- The service port, the I3C target and the SPDM responder without the management island: detached, REQ_SEQ to restart
from 0 (18 R651, 19 R668, R672). -/
def UsbPart.down (u : UsbPart) : UsbPart := { ({} : UsbPart) with vbus := u.vbus }

/-- The management island does not run (16 R603): window 0, no sideband path. One more restart is under way. -/
def State.mgmtStop (s : State) : State :=
  let s1 : State := { s with feeds := { s.feeds with mgmtUp := false, mgmtFails := s.feeds.mgmtFails + 1 }
                             win := { s.win with window := 0, noResult := true }
                             usb := s.usb.down }
  if s.usb.pullUp then s1.emit (.usbPullUp false) else s1

/-- MGMT_WATCHDOG (16 Table 16.1, R603): the island has failed, or a restart of it has. -/
def execMgmtWatchdog (s : State) : Result :=
  .next (if s.feeds.mgmtUp then s.mgmtStop
    else if 0 < s.feeds.mgmtFails && s.feeds.mgmtFails ≤ 3 then
      { s with feeds := { s.feeds with mgmtFails := s.feeds.mgmtFails + 1 } }
    else s)

/-- The management island runs again from its bank (16 R603, 19 R668, R672, R679). -/
def State.mgmtBack (s : State) : State :=
  let n := s.feeds.mgmtFails
  let s1 : State := { s with feeds := { s.feeds with mgmtUp := true, mgmtFails := 0 }, usb := { s.usb with pullUp := s.usb.vbus } }
  let s2 := (s1.sampleSlot.trialOver 0).raise cMgmt 0x0802 0x22 0 [(0, toLe 1 n)]
  if s.usb.vbus then s2.emit (.usbPullUp true) else s2

/-- MGMT_RESTART_DONE (16 R603): after three failed restarts the island stays down. -/
def execMgmtRestartDone (s : State) : Result :=
  .next (if !s.feeds.mgmtUp && 0 < s.feeds.mgmtFails && s.feeds.mgmtFails ≤ 3 then s.mgmtBack else s)

/-- TIME_ISLAND_FAIL (16 Table 16.1, R604): module time stands and discipline is lost. -/
def execTimeIslandFail (s : State) : Result :=
  .next s.timeLost

/-- TIME_ISLAND_RESTARTED (16 R604): discipline resumes once the source qualifies again. One that failed to wake is not tried
again before the next cold start (02 R88). -/
def execTimeIslandRestarted (s : State) : Result :=
  .next (if s.time.up || !s.feeds.mgmtUp || decide (unitCode .time ∈ s.attn.islands) then s
    else ({ s with time := { s.time with up := true } }).logEvent 0x0803 0x25 0 [])

end Sys2Proof.Machine
end

