-- ==== Sys2Proof/Machine/WindowEv.lean ====
section
/-! DEFINITION. The computation of the commit window and what it reports (07 R297 to R303, R316, R317; 20 R702, R707 to
R710). -/

namespace Sys2Proof.Machine

/-! ### Throttle (20 Table 20.8) -/

/-- Share of die-sequencer issue slots skipped at a level, in percent (20 Table 20.8). -/
def slotsSkipped (level : Nat) : Nat := if level = 0 then 0 else if level ≤ 2 then 25 else if level ≤ 4 then 50 else 75

/-- The highest level among the channel islands in service (20 R710). -/
def State.channelLevel (s : State) : Nat :=
  maxNat (((List.range 8).zip s.media.moons).flatMap fun p =>
    if p.2.inService then (List.range 8).map fun k => s.levelAt (.channel p.1 k) else [])

/-! ### The window (07 R297 to R301) -/

/-- Twice the energy of the strings in service down to 40 V, in 10^-12 J: µF times mV² (07 R299). -/
def Win.energy2 (w : Win) : Int :=
  (w.strings.filter (·.inService)).foldl (fun e t => e + (t.cap : Int) * ((t.volt : Int) * t.volt - 1600000000)) 0

/-- Flush power in W and flush rate in GB/s of the configuration in service (07 Table 7.2). -/
def State.flushParams (s : State) : Nat × Nat :=
  let moon := s.media.moons.any (!·.inService)
  let front := s.media.fronts.any (!·.inService)
  if moon && front then (660, 525) else if front then (760, 600) else if moon then (800, 525) else (900, 600)

/-- The window of 07 R299 in units of 256 MiB, without WINDOW_LIMIT and before it is forced to 0. -/
def State.rawWindow (s : State) : Nat :=
  let p := s.flushParams
  let share := 100 - slotsSkipped s.channelLevel
  let num := (4 * s.win.energy2 - 40000000000 * p.1) * (p.2 * 1000000000 * share : Nat)
  min 128 (num / (1000000000000000 * p.1 * 268435456 : Nat)).toNat

/-- The window is forced to 0 (07 R300). -/
def State.windowForced (s : State) : Bool := s.forceCause != 0

/-- The window in bytes, ignoring WINDOW_LIMIT (07 R317). -/
def State.unlimitedWindow (s : State) : Nat := if s.windowForced then 0 else 268435456 * s.rawWindow

/-- A computation of the window (07 R299, R316): the result, the energy in mJ, and the end of the conditions of R317. -/
def State.computeWindow (s : State) : State :=
  let s1 : State := { s with win := { s.win with noResult := false } }
  let w := if s1.windowForced then 0 else 268435456 * min s1.rawWindow s1.settings.winLimit
  let s2 : State := { s1 with win := { s1.win with window := w, energy := (s1.win.energy2 / 2000000000).toNat, occ := s1.occupancy }
                              attn := { s1.attn with writeThru := s1.attn.writeThru && w == 0 } }
  if s2.attn.windowLow && 8589934592 ≤ s2.unlimitedWindow then
    ({ s2 with attn := { s2.attn with windowLow := false } }).setWarning 0 false
  else s2

/-! ### Strings (07 R297, R303; 20 R702) -/

/-- Changes a string. -/
def State.modString (s : State) (i : Nat) (f : HoldString → HoldString) : State :=
  { s with win := { s.win with strings := s.win.strings.modify i f } }

/-- A string is taken out of service until the next cold start (20 R702, 16 Table 16.3, Table 16.7). -/
def State.stringOut (s : State) (i : Nat) : State :=
  match s.win.strings[i]? with
  | none => s
  | some t =>
    if !t.inService then s
    else (s.modString i fun t => { t with inService := false }).raise cString 0x0204 0x21 i [(0, toLe 4 t.cap)]

/-- A string in service whose voltage differs from the mean of the others by more than 5 V (20 R702). -/
def Win.strays (w : Win) (i : Nat) : Bool :=
  match w.strings[i]? with
  | none => false
  | some t =>
    let others := ((List.range 4).zip w.strings).filter fun p => p.1 != i && p.2.inService
    let n := others.length
    let sum := sumNat (others.map (·.2.volt))
    t.inService && n != 0 && (decide (sum + 5000 * n < n * t.volt) || decide (n * t.volt + 5000 * n < sum))

/-- Measures strings in service. -/
def State.measure (s : State) (f : Nat → HoldString → HoldString) : State :=
  (List.range 4).foldl (fun s i => s.modString i fun t => if t.inService then f i t else t) s

/-- Takes out the strings that `p` selects. -/
def State.stringsOut (s : State) (p : Nat → Bool) : State := ((List.range 4).filter p).foldl State.stringOut s

/-- The management island measures and computes: the bulk rail is up and the island runs. -/
def State.measures (s : State) : Bool := s.feeds.mgmtUp && s.power.step != 0 && s.feeds.bulkUp

/-- WINDOW_COMPUTE (07 R297, R299): string voltages in mV. -/
def execWindowCompute (volts : List Nat) (s : State) : Result :=
  .next (if !s.measures then s
    else
      let s1 := s.measure fun i t => { t with volt := volts.getD i t.volt }
      (s1.stringsOut s1.win.strays).computeWindow)

/-- CAPACITANCE_STEP (07 R297, 20 R702): string capacitances in µF. -/
def execCapacitanceStep (caps : List Nat) (s : State) : Result :=
  .next (if !s.measures then s
    else
      let s1 := s.measure fun i t => { t with cap := caps.getD i t.cap }
      let weak := fun (i : Nat) => ((s1.win.strings[i]?).map fun t => decide (t.cap < 2000)).getD false
      let lost := (List.range 4).any fun i => weak i && ((s1.win.strings[i]?).map (·.inService)).getD false
      if lost then (s1.stringsOut weak).computeWindow else s1)

/-- STRING_LOSS (07 R303): a new computation starts at once. -/
def execStringLoss (i : Nat) (s : State) : Result :=
  .next (if s.measures then (s.stringOut i).computeWindow else s)

/-- WINDOW_RESULT_TIMEOUT (07 R300): the sequencer has received no result for 3 ms. -/
def execWindowResultTimeout (s : State) : Result :=
  .next (if s.power.step = 12 then { s with win := { s.win with noResult := true, window := 0 } } else s)

/-! ### Reports (07 R317) -/

/-- WRITE_THROUGH_TIMEOUT (07 R317): not while WINDOW_LIMIT or the cold condition forces the window to 0. -/
def execWriteThroughTimeout (s : State) : Result :=
  .next (if s.win.window ≠ 0 || s.settings.winLimit = 0 || s.win.cold || s.attn.writeThru || decide (s.power.step < 8) then s
    else
      let s1 : State := { s with attn := { s.attn with writeThru := true } }
      s1.raise cWriteThru 0x0206 0xFF 0 [(0, toLe 1 (b2n (!s.feeds.mgmtUp)))])

/-- WINDOW_LOW_TIMEOUT (07 R317): the computed window, ignoring WINDOW_LIMIT, has been below 8 GiB for 10 s. -/
def execWindowLowTimeout (s : State) : Result :=
  .next (if 8589934592 ≤ s.unlimitedWindow || s.attn.windowLow || decide (s.power.step < 8) then s
    else
      let s1 : State := { s with attn := { s.attn with windowLow := true } }
      (s1.setWarning 0 true).logEvent 0x0205 0xFF 0 [(0, toLe 8 s.unlimitedWindow)])

end Sys2Proof.Machine
end

