-- ==== Sys2Proof/Machine/PowerLoss.lean ====
section
/-! DEFINITION. Feeds, hot-swap channels, PRESENT# and the power-loss sequence (07 R307 to R315; 20 R693 to R703). -/

namespace Sys2Proof.Machine

/-! ### Declaration (07 R307 to R309) -/

/-- Power loss is declared (07 R308 steps 1 and 2): fetching and grants stop, the window is 0, fetched commands end. With
nothing running, the islands that were up are off. -/
def State.declareLoss (s : State) : State :=
  if s.feeds.loss ≠ .none then s
  else if s.power.step = 0 then s
  else if s.power.shutDone then
    { s with feeds := { s.feeds with loss := .off, bulkUp := false }
             power := { s.power with step := 0, shutDone := false } }
  else
    let kind := if s.power.step < 5 then s.power.start else .unclean
    let s1 : State := { s with feeds := { s.feeds with loss := .deciding }
                               win := { s.win with window := 0 }
                               power := { s.power with start := kind, shutdown := none, wanted := none, returnTo := none } }
    s1.commitOrDiscard 0x04 []

/-- UNIT of a feed (16 Table 16.6). -/
def feedUnit (f : Front) : Nat := 0x23 + frontIdx f

/-- A feed is lost (07 R307, 16 Table 16.3); the loss of the second is power loss. -/
def State.loseFeed (s : State) (f : Front) : State :=
  if (s.feed f).lost then s
  else
    let s1 := s.modFeed f fun q => { q with lost := true }
    let s2 := s1.raise cFeed 0x0201 (feedUnit f) 0 [(0, toLe 2 ((s.feed f).volt / 10))]
    if s2.feeds.a.lost && s2.feeds.b.lost then s2.declareLoss else s2

/-- A channel that is neither latched nor waiting for its retry is off. -/
def Feed.gateOff (q : Feed) : Feed := if q.chan = .latched ∨ q.chan = .waiting then q else { q with chan := .off }

/-- FEED_LOST (07 R307): below 39 V for 50 µs, or the channel off. `volt` in 10 mV. -/
def execFeedLost (f : Front) (volt : Nat) (s : State) : Result :=
  .next ((s.modFeed f fun q => { q.gateOff with volt := volt, inRange := q.inRange && decide (3900 ≤ volt) }).loseFeed f)

/-! ### The sequence (07 Table 7.6, R310 to R315) -/

/-- COMMIT_OR_DISCARD_DONE (07 Table 7.6 step 2, R310): host ports and pair links go down. -/
def execCommitOrDiscardDone (s : State) : Result :=
  .next (if s.feeds.loss ≠ .deciding then s
    else
      let hosts := s.ports.hosts.map fun p => { p with linkUp := 0, laneLock := 0 }
      let links := s.ports.links.map fun l => { l with up := false, trained := false }
      { s with feeds := { s.feeds with loss := .flushing }, ports := { s.ports with hosts := hosts, links := links } })

/-- Steps 3 to 5: every version staged is programmed, open stripes are closed (08 R334), the log tail is written on every moon
with every high-water mark and the journals, the gasp is sent. A WARMING module programs nothing (02 R63). -/
def State.flushed (s : State) : State :=
  let s1 := if s.warm then s else s.programAll.closeStripes.checkpointLogs
  State.gasp { s1 with feeds := { s1.feeds with loss := .gasped } }

/-- FLUSH_DONE (07 Table 7.6 steps 3 to 5). -/
def execFlushDone (s : State) : Result := .next (if s.feeds.loss ≠ .flushing then s else s.flushed)

/-- A version left short by a flush shortfall (07 R315, 16 Table 16.3, Table 16.7). -/
def State.leaveShort (s : State) (v : Version) : State :=
  let mine := fun (u : Version) => u.csn == v.csn && u.nsid == v.nsid && u.key == v.key
  let s1 : State := { s with kv := { s.kv with versions := mapWhere mine (fun u => { u with lost := true }) s.kv.versions } }
  s1.raise cUnrecovered 0x030B 0x41 v.nsid [(0, toLe 8 v.csn ++ toLe 2 v.nsid)]

/-- The extents that step 3 has to program, with the CSNs of their charges. -/
def State.toFlush (s : State) : List (Nat × Extent) :=
  s.seq.charges.flatMap fun q => (q.extents.filter (!·.progd)).map fun e => (q.csn, e)

/-- The CSNs left short are, on each moon, the newest of those it staged (07 R314, R731): each of them has an extent on a moon
that programs nothing of a later CSN, or of its own, any more. -/
def State.newestShort (s : State) (short : List Nat) : Bool :=
  let on := fun (m : Nat) (e : Extent) => e.home == m || e.shadow == m
  short.all fun n => s.toFlush.any fun x => x.1 == n && [x.2.home, x.2.shadow].any fun m =>
    s.toFlush.all fun y => decide (y.1 ≤ n) || !on m y.2 || decide (y.1 ∈ short)

/-- The energy of the bank down to 40 V is no more than steps 4 to 6 need at the flush power: 3 ms (07 R314, Table 7.2, Table
7.6). Twice the energy is in 10^-12 J. -/
def State.bankSpent (s : State) : Bool := decide (s.win.energy2 ≤ (2 * 3 * s.flushParams.1 * 1000000000 : Nat))

/-- FLUSH_SHORTFALL (07 R314, R315): the energy left, at the voltages measured, ends step 3; the versions of these CSNs are not
programmed twice. -/
def execFlushShortfall (x : Shortfall) (s : State) : Result :=
  .next (let s1 := s.measure fun i t => { t with volt := x.volts.getD i t.volt }
    if s.feeds.loss ≠ .flushing || !s1.bankSpent || !s.newestShort x.csns then s
    else
      let short := s1.kv.versions.filter fun v => v.place == .staged && v.value.isSome && decide (v.csn ∈ x.csns)
      (short.foldl State.leaveShort s1).flushed)

/-- POWER_LOSS_END (07 Table 7.6 step 6, R313): with a feed back, a start from step 5; else Fronts and moons are off and the
management and time islands run from the bank. -/
def execPowerLossEnd (feedBack : Bool) (s : State) : Result :=
  .next (if s.feeds.loss ≠ .gasped then s
    else if feedBack then
      let s1 := s.islandsOff.beginStart .unclean 4 false
      { s1 with feeds := { s1.feeds with loss := .none } }
    else
      let s1 := s.islandsOff
      { s1 with feeds := { s1.feeds with loss := .off, bulkUp := false }
                power := { s1.power with step := 0 } })

/-- HOLD_UP_BANK_EXHAUSTED (07 Table 7.6, R311; 20 R703): the bank is bled; the management and time islands stop and the log
is lost, unless a feed is within its range (01 R20). -/
def execHoldUpBankExhausted (s : State) : Result :=
  .next (let empty := { s.win with strings := s.win.strings.map fun t => { t with volt := 0 } }
    if s.feeds.loss ≠ .off then s
    else if s.feeds.a.inRange || s.feeds.b.inRange then { s with win := empty }
    else { s with feeds := { s.feeds with loss := .none, mgmtUp := false }
                  attn := { s.attn with log := [], nextSeq := 1 }
                  usb := s.usb.down
                  tag := { s.tag with todo := [], labelJob := false }
                  time := { s.time with up := false }
                  win := empty
                  power := { s.power with pstate := .p4 } })

/-! ### Hot-swap channels (20 R693 to R697) -/

/-- A channel that is off starts a ramp while its feed is in range and PRESENT# is asserted (20 R693, R699). -/
def Feed.ramp (q : Feed) (present : Bool) : Feed :=
  if q.chan = .off && q.inRange && present then { q with chan := .ramping } else q

/-- FEED_REQUALIFIED (20 R693): 100 ms continuously in range. `volt` in 10 mV. A module that was left with its management island
running from the bank starts (21 R721); one whose PRESENT# is off has its management and time islands powered, no more (01
R20). -/
def execFeedRequalified (f : Front) (volt : Nat) (s : State) : Result :=
  .next (let s1 := s.modFeed f fun q => Feed.ramp { q with inRange := true, volt := volt } s.feeds.present
    if !s.feeds.present then (if s.feeds.mgmtUp then s1 else s1.powerIslands)
    else if s.feeds.mgmtUp && s.power.step == 0 then s1.startFromBank else s1)

/-- EFUSE_POWER_GOOD (20 R694): the channel carries its feed; the bulk converters run. -/
def execEfusePowerGood (f : Front) (s : State) : Result :=
  .next (if (s.feed f).chan ≠ .ramping then s
    else
      let s1 := s.modFeed f fun q => { q with chan := .on, retries := 0, lost := false }
      let s2 : State := { s1 with feeds := { s1.feeds with bulkUp := true } }
      if (s.feed f).lost then s2.logEvent 0x0202 (feedUnit f) 0 [(0, toLe 2 ((s.feed f).volt / 10))] else s2)

/-- A turn-off that counts as a retry (20 Table 20.2). -/
def efuseRetries : EfuseCond → Bool
  | .reverse | .overvoltage => false
  | _ => true

/-- The phase in which a condition turns the gate off (20 Table 20.2). -/
def efuseApplies (c : EfuseCond) (q : Channel) : Bool := match c with
  | .rampOver | .rampLimit => q == .ramping
  | .runOver | .runLimit => q == .on
  | _ => q == .ramping || q == .on

/-- EFUSE_TRIP (20 R695, R696): the gate turns off; after the third retry the channel latches. -/
def execEfuseTrip (f : Front) (c : EfuseCond) (s : State) : Result :=
  .next (if !efuseApplies c (s.feed f).chan then s
    else if !efuseRetries c then
      (s.modFeed f fun q => { q with chan := .off, inRange := q.inRange && c != .overvoltage }).loseFeed f
    else if 3 ≤ (s.feed f).retries then
      let s1 := (s.modFeed f fun q => { q with chan := .latched }).loseFeed f
      s1.raise cEfuse 0x0203 (feedUnit f) 0 [(0, toLe 1 (s.feed f).retries)]
    else (s.modFeed f fun q => { q with chan := .waiting }).loseFeed f)

/-- EFUSE_RETRY (20 R696, R699): 1 s after the turn-off. -/
def execEfuseRetry (f : Front) (s : State) : Result :=
  .next (if (s.feed f).chan ≠ .waiting || !s.feeds.present then s
    else s.modFeed f fun q => { q with chan := .ramping, retries := q.retries + 1 })

/-- PRESENT_DEASSERT (20 R699): both gates off, both feeds lost. A shorted PRESENT# counts as asserted (20 Table 20.12). -/
def execPresentDeassert (s : State) : Result :=
  .next (if s.shorted pinPresent || !s.feeds.present then s
    else
      let off := fun (q : Feed) => if q.chan = .latched then q else { q with chan := .off }
      let s1 : State := { s with feeds := { s.feeds with present := false, a := off s.feeds.a, b := off s.feeds.b } }
      (s1.loseFeed .a).loseFeed .b)

/-- PRESENT_ASSERT (20 R696, R699): after 100 ms deasserted, latched channels are clear. -/
def execPresentAssert (offHundredMs : Bool) (s : State) : Result :=
  .next (if s.feeds.present then s
    else
      let clear := fun (q : Feed) => if q.chan = .latched && offHundredMs then { q with chan := .off, retries := 0 } else q
      { s with feeds := { s.feeds with present := true, a := Feed.ramp (clear s.feeds.a) true, b := Feed.ramp (clear s.feeds.b) true } })

end Sys2Proof.Machine
end

