-- ==== Sys2Proof/Machine/ThermalEv.lean ====
section
/-! DEFINITION. Throttle levels, trips, sensors and inlet derating (20 R705 to R713, Table 20.7 to Table 20.9). Readings are in
units of 0.25 °C. -/

namespace Sys2Proof.Machine

/-! ### Levels (20 Table 20.8, R708) -/

/-- A channel island is governed by a media sensor; moons and Fronts by controller sensors. -/
def islandMedia : Island → Bool
  | .channel _ _ => true
  | _ => false

/-- The reading from which a level is demanded (20 Table 20.8). -/
def levelStart (media : Bool) (level : Nat) : Int := if media then 540 + 5 * ((level : Int) - 1) else 440 + 8 * ((level : Int) - 1)

/-- The trip point (20 Table 20.8). -/
def tripPoint (media : Bool) : Int := if media then 580 else 500

/-- The level that a reading demands. -/
def levelFor (media : Bool) (reading : Int) : Nat :=
  ((List.range 8).filter fun k => k != 0 && decide (levelStart media k ≤ reading)).length

/-- A broken sensor governs an island: it counts as one step above the throttle start, level T2 (20 R706). -/
def State.brokenGoverns (s : State) (i : Island) : Bool :=
  s.thermal.broken.any fun q => match q, i with
    | .die m d, .channel n k => m == n && d / 64 == k
    | .moon m _, .moon n => m == n
    | .front f _, .front g => f == g
    | _, _ => false

/-- THROTTLE_RAISE (20 R708). -/
def execThrottleRaise (i : Island) (reading : Int) (s : State) : Result :=
  .next (let n := levelFor (islandMedia i) reading
    if (s.islandState i).level < n && !s.mode.warming then s.setLevel i n else s)

/-- THROTTLE_LOWER (20 R706, R708): 2 K below the threshold of the current level for 100 ms; a broken sensor holds T2. -/
def execThrottleLower (i : Island) (reading : Int) (s : State) : Result :=
  .next (let n := (s.islandState i).level
    if n = 0 || levelStart (islandMedia i) n - 8 < reading || (n ≤ 2 && s.brokenGoverns i) then s else s.setLevel i (n - 1))

/-! ### Trips (20 R711, R712, Table 20.9) -/

/-- UNIT of an island in the log (16 Table 16.6). -/
def islandUnit : Island → Nat
  | .channel m _ => m
  | .moon m => m
  | .front f => 0x10 + frontIdx f

/-- Channels of a moon are lost (16 Table 16.1, Table 16.3, Table 16.7). -/
def State.channelsOut (s : State) (m : Nat) (cs : List Nat) : State :=
  match s.media.moons[m]? with
  | none => s
  | some q =>
    let new := cs.filter fun c => decide (c < 64 ∧ c ∉ q.chansLost)
    if new.isEmpty then s
    else
      let s1 := s.modMoon m fun x => { x with chansLost := x.chansLost ++ new, degraded := true }
      s1.raise cPart 0x0302 m 0 [(0, toLe 2 (q.chansLost.length + new.length))]

/-- The channels of a channel island. -/
def islandChannels (idx : Nat) : List Nat := (List.range 8).map fun k => 8 * idx + k

/-- An island is there to trip. -/
def State.hasIsland (s : State) : Island → Bool
  | .channel m k => decide (m < 8 ∧ k < 8) && ((s.media.moons[m]?).map (·.inService)).getD false
  | .moon m => ((s.media.moons[m]?).map (·.inService)).getD false
  | .front f => ((s.media.fronts[frontIdx f]?).map (·.inService)).getD false

/-- The loss that a trip is handled as (20 Table 20.9). -/
def State.tripLoss (s : State) (unacked : List (Nat × Nat)) : Island → State
  | .channel m k => s.channelsOut m (islandChannels k)
  | .moon m => s.moonOut m 3 5 false
  | .front f => s.frontOut f 3 5 unacked

/-- THERMAL_TRIP (20 R711). A broken sensor never causes a trip (R706): its row is not applied. -/
def execThermalTrip (i : Island) (x : TripReading) (s : State) : Result :=
  .next (if x.reading < tripPoint (islandMedia i) || (s.islandState i).tripped || !s.hasIsland i then s
    else
      let s1 := s.modIsland i fun t => { t with tripped := true, rebuilt := false }
      (s1.raise cThermal 0x0702 (islandUnit i) 0 [(0, toLe 2 (signed16 x.reading))]).tripLoss x.unacked i)

/-- A unit returns to service after a trip (20 R712): its pages are read directly again; a rebuild that has started runs to
its end. -/
def State.tripBack (s : State) : Island → State
  | .channel m k =>
    let s1 := s.modMoon m fun x => { x with chansLost := x.chansLost.filter fun c => decide (c ∉ islandChannels k) }
    s1.modMoon m fun x => { x with degraded := s1.lostBlocks m }
  | .moon m => (s.moonUp m).checkReserve
  | .front f => s.frontBack f

/-- TRIP_RECOVERY (20 R712): every governing reading has been 10 K below the throttle start for 10 s. -/
def execTripRecovery (i : Island) (s : State) : Result :=
  .next (if !(s.islandState i).tripped || s.mode.fatal then s
    else (s.modIsland i fun t => { t with tripped := false, level := 0 }).tripBack i)

/-- TRIP_REBUILD_TIMEOUT (20 R712): the unit has been down for 10 min. A Front has nothing to rebuild. -/
def execTripRebuildTimeout (i : Island) (s : State) : Result :=
  .next (if !(s.islandState i).tripped || (s.islandState i).rebuilt then s
    else
      let s1 := s.modIsland i fun t => { t with rebuilt := true }
      match i with
      | .channel m k => (islandChannels k).foldl (fun s c => s.startRebuild m none (some c)) s1
      | .moon m => s1.startRebuild m none none
      | .front _ => s1)

/-! ### Broken sensors (20 R706; 16 Table 16.4, Table 16.7) -/

/-- The sensors of 20 Table 20.7. -/
def sensorExists : Sensor → Bool
  | .die m d => decide (m < 8 ∧ d < 512)
  | .moon m i => decide (m < 8 ∧ i < 4)
  | .front _ i => decide (i < 8)
  | .bank i => decide (i < 4)
  | .ambient i => decide (i < 2)
  | _ => true

/-- UNIT, INDEX and sensor index within the unit; a die sensor shows as the one after its moon's four (00 R4). -/
def sensorUnit : Sensor → Nat × Nat × Nat
  | .die m _ => (m, 0, 4)
  | .moon m i => (m, 0, i)
  | .front f i => (0x10 + frontIdx f, 0, i)
  | .bank i => (0x21, i, 0)
  | .inlet => (0xFF, 0, 0)
  | .outlet => (0xFF, 0, 1)
  | .ambient i => (0xFF, 0, 2 + i)

/-- The island that a sensor throttles (20 Table 20.7). -/
def sensorIsland : Sensor → Option Island
  | .die m d => some (.channel m (d / 64))
  | .moon m _ => some (.moon m)
  | .front f _ => some (.front f)
  | _ => none

/-- f of 20 R713 in thousandths. -/
def derating (inlet : Int) : Nat :=
  if inlet ≤ 240 then 1000 else if 500 ≤ inlet then 250 else ((260000 - 750 * (inlet - 240)) / 260).toNat

/-- SENSOR_BROKEN (20 R706): until the next cold start. -/
def execSensorBroken (q : Sensor) (s : State) : Result :=
  .next (if decide (q ∈ s.thermal.broken) || !sensorExists q then s
    else
      let u := sensorUnit q
      let derate := if q = .inlet then derating 260 else s.thermal.derate
      let s1 : State := { s with thermal := { s.thermal with broken := s.thermal.broken ++ [q], derate := derate } }
      let s2 := (s1.setWarning 6 true).logEvent 0x0703 u.1 u.2.1 [(0, toLe 1 u.2.2)]
      match sensorIsland q with
      | some i => if (s2.islandState i).level < 2 && !s.mode.warming then s2.setLevel i 2 else s2
      | none => s2)

/-- COOLANT_INLET_READING (20 R713). A broken inlet sensor counts as 65 °C (R706). -/
def execCoolantInletReading (reading : Int) (s : State) : Result :=
  .next (if decide (Sensor.inlet ∈ s.thermal.broken) then s
    else { s with thermal := { s.thermal with inlet := reading, inletMax := max s.thermal.inletMax reading,
                                              derate := derating reading } })

end Sys2Proof.Machine
end

