-- ==== Sys2Proof/Machine/MediaOps.lean ====
section
/-! DEFINITION. Bands, stripes and blocks as operations: free blocks, retirement, erasure and relocation (08 R324, R330, R337,
R343, R344; 09 R357 to R361, R368, R379 to R384; 14 R543). -/

namespace Sys2Proof.Machine

/-- The media runs: the module has started, is not shutting down and has power (09 R372, 07 R308). -/
def State.mediaRuns (s : State) : Bool :=
  s.power.step == 12 && !s.power.shutDone && s.power.shutdown.isNone && decide (s.feeds.loss = .none)

/-- The media may be programmed: not while WARMING (02 R63, 09 R385). -/
def State.mayProgram (s : State) : Bool := s.mediaRuns && !s.mode.warming

/-! ### Spare blocks (09 R360, R361) -/

/-- Blocks taken so far from the spare pool of a die. -/
def State.dieSparesUsed (s : State) (moon die : Nat) : Nat :=
  (s.media.blocks.filter fun b => b.id.moon == moon && b.id.die == die && decide (18312 ≤ b.id.block) && b.mode != .spare).length +
    ((s.die? moon die).map (·.bulk)).getD 0

/-- What is left of the spare pool of a die; nothing on a lost one. -/
def State.sparesOn (s : State) (moon die : Nat) : Nat := match s.media.moons[moon]? with
  | some m => if m.dieGone die then 0 else m.dieSpares die - s.dieSparesUsed moon die
  | none => 0

/-- The die of a moon with the largest spare pool, ties to the lower index (09 R361). -/
def State.richestDie (s : State) (moon : Nat) : Option Nat :=
  let pools := (List.range 512).map fun d => (s.sparesOn moon d, d)
  match pools.foldl (fun (best : Nat × Nat) p => if best.1 < p.1 then p else best) (0, 0) with
  | (0, _) => none
  | (_, d) => some d

/-- The die whose spare pool replaces a block: its own, else the one of the moon with the largest pool, ties to the lower
index (09 R361). -/
def State.spareDie (s : State) (moon die : Nat) : Option Nat :=
  if 0 < s.sparesOn moon die then some die else s.richestDie moon

/-- The lowest levelling count among the blocks in service of a moon: a moon has 9,375,744 of them (09 R379). -/
def State.lowestLevel (s : State) (moon : Nat) : Nat :=
  let listed := s.media.blocks.filter fun b => b.id.moon == moon && b.inService
  if listed.length < 9375744 then 0 else listed.foldl (fun n b => min n b.level) 1000000

/-- The next block of the spare pool of a die as it enters service (09 R379). -/
def State.spareOf (s : State) (moon die : Nat) (mode : BlockMode) : Block :=
  { id := { moon := moon, die := die, block := 18312 + s.dieSparesUsed moon die }, mode := mode, level := s.lowestLevel moon }

/-- The block that takes the place of a retired one, from the spare pool (09 R361, R379). -/
def State.replacement (s : State) (b : Block) : Option Block :=
  (s.spareDie b.id.moon b.id.die).map fun d => s.spareOf b.id.moon d b.mode

/-- What is taken from pools (size, die) when `k` blocks are taken one after the other, each from the largest pool, ties to the
lower index: the pools end level at a height, or one below it (09 R361). -/
def levelTakes (pools : List (Nat × Nat)) (k : Nat) : List (Nat × Nat) :=
  let h := ((List.range 2200).find? fun h => decide (sumNat (pools.map fun p => p.1 - h) ≤ k)).getD 0
  let rest := k - sumNat (pools.map fun p => p.1 - h)
  let last := if h = 0 then [] else ((pools.filter fun p => h ≤ p.1).map (·.2)).take rest
  (pools.map fun p => (p.2, p.1 - h + b2n (decide (p.2 ∈ last)))).filter (·.2 != 0)

/-- The blocks of lost dies that no band holds are retired, and blocks of the other dies' spare pools take their places in the
SLC and the QLC pool (09 R359, R361); `s` is the state before the loss. -/
def State.retireFree (s t : State) (moon : Nat) (dies : List Nat) : State :=
  let gone := fun (i : BlockId) => i.moon == moon && decide (i.die ∈ dies)
  let banded := ((t.media.bands.flatMap (·.blocks)).filter gone).length
  let takes := levelTakes ((List.range 512).map fun d => (t.sparesOn moon d, d))
    (sumNat (dies.map fun d => s.inServiceOn moon d) - banded)
  let t1 := takes.foldl (fun t x => t.modDie moon x.1 fun d => { d with bulk := d.bulk + x.2 }) t
  let held := t.media.bands.flatMap (·.blocks)
  let retire := mapWhere (fun (b : Block) => gone b.id && b.inService && decide (b.id ∉ held)) fun b => { b with mode := .retired }
  let t2 := t1.modMoon moon fun m => { m with sparesUsed := m.sparesUsed + sumNat (takes.map (·.2)) }
  { t2 with media := { t2.media with blocks := retire t2.media.blocks } }

/-- The header of a page that is written again in a substitute block (08 R343): it is kept, with RELOCATED where the data
was rebuilt; a page without valid data, but for a pad or parity page, carries only its place in its stripe. -/
def State.substituteHeader (s : State) (p : Page) (rebuilt : Bool) : PageHeader :=
  if p.header.pad then p.header
  else if p.header.kind == .parity || s.pageValid p then { p.header with relocated := p.header.relocated || rebuilt }
  else { kind := .qlcPack, relocated := true, stripe := p.header.stripe, position := p.header.position,
         narrow := p.header.narrow, partner := p.header.partner }

/-- A page that holds valid data has a new place: the map log records it (08 R343, R347, R352). -/
def State.notePlace (s : State) (p : Page) : State :=
  if p.header.kind == .map then s.logMap p.chunk p.header.laddr (.mapPage p.header.laddr p.header.stripe)
  else (s.versionsIn p).foldl (fun s v =>
    s.logMap (s.lookupMoon v.home) (mapPageOf v.objId) (.move v.objId p.chunk p.header.stripe (v.gens.getD p.chunk 1))) s

/-- A page of a retired block is written in its replacement (08 R343, 09 R384): what it held, rebuilt from the other seven pages
of its stripe where its block is lost. A page whose stripe has lost another page holds no data any more (R341). -/
def State.writeAgain (s : State) (target : BlockId) (rebuilt : Bool) (p : Page) : State :=
  let twice := rebuilt && (s.besides p).any fun q => s.partOut q.block
  let read := if rebuilt then s.readAround p [0, 1, 2, 3] else s
  let page := { p with block := target, area := if rebuilt then s.rebuiltArea p else p.area }
  if twice then
    let lost := (s.versionsIn p).foldl (fun s v => s.markLost v (v.chunkPart p.chunk)) read
    lost.addPage { page with obj := 0, also := [], header := s.substituteHeader { p with obj := 0, also := [] } rebuilt }
  else
    let s1 := read.addPage { page with header := s.substituteHeader p rebuilt }
    if s.pageValid p then s1.notePlace p else s1

/-- The pages of a retired block go to its replacement, from parity or from their staged or SLC copies (09 Table 9.1). -/
def State.movePlaces (s : State) (b r : BlockId) (rebuilt : Bool) : State :=
  let here := fun (p : Page) => p.block == b
  let s1 : State := { s with media := { s.media with pages := s.media.pages.filter fun p => !here p } }
  (s.media.pages.filter here).foldl (fun s p => s.writeAgain r rebuilt p) s1

/-- A block is retired and replaced from the spare pool (09 R359, R361 to R365, 16 Table 16.7). With `inBand` the
replacement takes its place in its band as well, and its pages are written there. -/
def State.retire (s : State) (b : Block) (row : Nat) (inBand : Bool) : State :=
  let s1 := s.setBlock { b with mode := .retired }
  let s2 := match s.replacement b with
    | none => s1
    | some r =>
      let swap := fun (i : BlockId) => if i == b.id then r.id else i
      let bands := s1.media.bands.map fun (q : Band) => { q with blocks := if inBand then q.blocks.map swap else q.blocks }
      let s2 := State.setBlock { s1 with media := { s1.media with bands := bands } } r
      if inBand then (s2.startBlock r.id).movePlaces b.id r.id (row == 4) else s2
  let s3 := s2.modMoon b.id.moon fun m => { m with sparesUsed := m.sparesUsed + 1 }
  (s3.logEvent 0x0307 b.id.moon 0 [(0, toLe 1 row)]).checkReserve

/-! ### Erasure (09 R357, R369, R379; 08 R324) -/

/-- A block after an erase. Erasing adds 1.00 in QLC mode and 0.05 in SLC mode to its counts. -/
def Block.erase (b : Block) : Block :=
  let n := if b.mode = .slc then 1 else 20
  { b with count := b.count + n, level := b.level + n, slcCyc := if b.mode = .slc then b.slcCyc + 1 else b.slcCyc,
           reads := 0, logged := false, due := false }

/-- Erases the blocks of a list; a retired block is never erased again (09 R359). -/
def State.eraseBlocks (s : State) (ids : List BlockId) : State :=
  ids.foldl (fun s i => let b := s.block i
    if b.inService then s.setBlock b.erase else s) s

/-- Equivalent erase count at which a block is retired (09 Table 9.1). -/
def wornOut : Nat := 60000

/-! ### Free blocks and new bands (08 R330, R344; 09 R381) -/

/-- The blocks that some band holds. -/
def State.bandBlocks (s : State) : List BlockId := s.media.bands.flatMap (·.blocks)

/-- The first QLC block of a moon that differs in nothing from a fresh one and is in no band; blocks count from the lower
die on. -/
def State.freshBlock (s : State) (moon : Nat) : Option BlockId :=
  let used := ((s.media.blocks.map (·.id)) ++ s.bandBlocks).filter fun i => i.moon == moon
  let alive := (List.range 512).filter fun d => !((s.media.moons[moon]?).map fun m => m.dieGone d).getD true
  let ids := (List.range (used.length + 1)).filterMap fun k =>
    (alive[k / 17702]?).map fun d => { moon := moon, die := d, block := 610 + k % 17702 : BlockId }
  ids.find? fun i => decide (i ∉ used)

/-- The free QLC blocks of a moon among which a new band chooses. -/
def State.freeBlocks (s : State) (moon : Nat) : List Block :=
  let gone := fun (i : BlockId) => ((s.media.moons[moon]?).map fun m => m.dieGone i.die).getD true
  let taken := s.bandBlocks
  (s.media.blocks.filter fun b => b.id.moon == moon && b.mode == .qlc && decide (b.count < wornOut) && !gone b.id &&
    decide (b.id ∉ taken)) ++
  ((s.freshBlock moon).map s.block).toList

/-- The free block that a new band takes from a moon: the lowest levelling count, ties to the lower die index (09 R381). -/
def State.pickBlock (s : State) (moon : Nat) : Option Block :=
  (s.freeBlocks moon).foldl (fun best b => match best with
    | none => some b
    | some a => if b.level < a.level || (b.level == a.level && decide (b.id.die < a.id.die)) then some b else some a) none

/-- When a new band takes blocks from the spare pool: never for new data; for a refresh when a moon has no free block (09
R368); first for the rebuild of a moon (R361). -/
inductive SpareUse where
  | never | last | first
  deriving DecidableEq, Repr

/-- A block of a moon's spare pools enters the QLC pool, from the die with the largest one (09 R361). -/
def State.takeSpare (s : State) (moon : Nat) : Option (State × BlockId) := (s.richestDie moon).map fun d =>
  let b := s.spareOf moon d .qlc
  (((s.setBlock b).modMoon moon fun m => { m with sparesUsed := m.sparesUsed + 1 }).checkReserve, b.id)

/-- The block that a new band takes from a moon. -/
def State.bandTakes (use : SpareUse) (s : State) (moon : Nat) : Option (State × BlockId) :=
  let free := (s.pickBlock moon).map fun b => (s, b.id)
  match use with
  | .never => free
  | .last => free.or (s.takeSpare moon)
  | .first => (s.takeSpare moon).or free

/-- A band opens: a block of each moon in service; seven make a narrow band (08 R330, R344). None when a moon has no free
block (09 R368). -/
def State.openBand (s : State) (use : SpareUse) (n : Nat) : Option State :=
  (s.moonsIn.foldlM (fun (st : State × List BlockId) m =>
    (State.bandTakes use st.1 m).map fun r => (r.1, st.2 ++ [r.2])) (s, [])).map fun st =>
      let s1 := st.2.foldl State.startBlock st.1
      let q : Band := { num := n, blocks := st.2, narrow := decide (st.2.length < 8) }
      { s1 with media := { s1.media with bands := s1.media.bands ++ [q], filling := n } }

/-- A band number above all in use. -/
def State.nextBand (s : State) : Nat := maxNat (s.media.filling :: s.media.bands.map (·.num)) + 1

/-- Every moon of a band is in service: it takes new pages. While only seven moons are, folding uses narrow bands (08
R344). -/
def State.usable (s : State) (b : Band) : Bool := b.blocks.all fun i => decide (i.moon ∈ s.moonsIn)

/-- The band that new pages go into, with the state in which it is open: the one being filled, or a new one where that is
the band `avoid` or cannot be used any more. -/
def State.targetBand (s : State) (use : SpareUse) (avoid : Option Nat) : Option State :=
  match s.band? s.media.filling with
  | none => s.openBand use s.media.filling
  | some b => if avoid = some b.num || !s.usable b then s.openBand use s.nextBand else some s

/-- The first stripe of the band being filled with a place for a page of one of the moons, and that moon. -/
def State.freePlace (s : State) (moons : List Nat) : Option (Nat × Nat) :=
  (List.range 1536).findSome? fun k =>
    let n := s.media.filling * 1536 + k
    (moons.find? fun m => s.positionFree n m).map fun m => (n, m)

/-- A place for a page of a moon in a stripe being folded, in another band than `avoid` (08 R337): on that moon, or when it is
lost on any moon in service. A band without a place for it makes room for the next. -/
def State.placeFor (s : State) (use : SpareUse) (avoid : Option Nat) (home : Nat) : Option (State × Nat × Nat) :=
  let moons := if home ∈ s.moonsIn then [home] else s.moonsIn
  (s.targetBand use avoid).bind fun s1 => match s1.freePlace moons with
    | some d => some (s1, d)
    | none => (s1.openBand use s1.nextBand).bind fun s2 => (s2.freePlace moons).map fun d => (s2, d)

/-- Stripes whose pages are all there are complete; a band of 1,536 complete stripes is closed, and the next one has
another number (08 R330, R333). -/
def State.settleStripes (s : State) : State :=
  let s1 := (s.media.stripes.map (·.num)).foldl State.sealStripe s
  let full := fun (n : Nat) => decide (1536 ≤ (s1.media.stripes.filter fun t => t.complete && bandOf t.num == n).length)
  let s2 : State := { s1 with media := { s1.media with stripes := s1.media.stripes.filter fun t => !full (bandOf t.num) } }
  if full s.media.filling then { s2 with media := { s2.media with filling := s2.nextBand } } else s2

/-! ### Relocation (08 R337; 09 R368, R383, R384; 14 R543) -/

/-- A moon without a free block stops relocating: logged once (09 R368). -/
def State.noFreeBlock (s : State) : State :=
  if s.attn.noFree then s else ({ s with attn := { s.attn with noFree := true } }).raise cNoFree 0x0308 0xFF 0 []

/-- Pages of a version that move are encrypted again when their generation is not the current one and the slot is
LOADED; the home moon's blocks count as used (14 R539, R543). -/
def State.recrypt (s : State) (v : Version) (pages : List Nat) : State × Version :=
  if s.vault.slots.any fun k => k.slot == v.slot && decide (k.st = .loaded) then
    pages.foldl (fun (p : State × Version) k =>
      if p.2.gens[k]? = some (p.1.genOf v.slot) then p
      else
        let s1 := p.1.useBlocks v.home v.slot (pageBlocks v.key (v.value.getD []).length k)
        (s1, { p.2 with gens := p.2.gens.set k (s1.genOf v.slot) })) (s, v)
  else (s, v)

/-- Where a version's pages lie now, and under which generations, is written back to the store; its key, CSN and value stay. -/
def State.setVersion (s : State) (v : Version) : State :=
  let same := fun (u : Version) => u.csn == v.csn && u.nsid == v.nsid && u.key == v.key
  let move := fun (u : Version) => { u with folded := v.folded, gens := v.gens, place := v.place }
  { s with kv := { s.kv with versions := mapWhere same move s.kv.versions } }

/-- A page of a version has a new location: the map log records it on flash, and the Map Cache follows (08 R333, R350, R352). -/
def State.noteMove (s : State) (v : Version) (k : Nat) : State :=
  let m := s.lookupMoon v.home
  ((s.logMap m (mapPageOf v.objId) (.move v.objId k (v.folded.getD k 0) (v.gens.getD k 1))).programLog m).mapChanged v

/-- The versions whose records a page of a version holds, encrypted again under the current generation where 14 R543 asks for
it; and the page's data area: the ciphertext read, or what was encrypted anew. -/
def State.recryptAll (s : State) (us : List Version) (k : Nat) (area : Bytes) : State × List Version × Bytes :=
  let r := us.foldl (fun (st : State × List Version) u => let q := st.1.recrypt u [k]
    (q.1, st.2 ++ [q.2])) (s, [])
  if r.2 = us then (r.1, r.2, area) else (r.1, r.2, r.2.flatMap fun u => r.1.storedBytes u.owner (u.gens.getD k 1) k)

/-- The header of a data page that is written in QLC: its LADDR, NSID and KEY_SLOT stay; it has the records that are valid (08
R323, R337). -/
def qlcHeader (h : PageHeader) (us : List Version) : PageHeader :=
  { h with kind := h.kind.toQlc, provisional := false, token := 0, csn := maxNat (us.map (·.csn)),
           records := if h.kind.toQlc == .qlcPack then us.length else 0,
           valid := if h.kind.toQlc == .qlcPack then sumNat (us.map fun u => validBytes u.key (u.value.getD []).length 0) else h.valid }

/-- What a page of versions holds when it is written in a stripe. -/
def qlcImage (h : PageHeader) (us : List Version) (k : Nat) (area : Bytes) : Image :=
  { obj := (us.head?.map (·.objId)).getD 0, also := us.tail.map (·.objId), chunk := k, header := qlcHeader h us, area := area }

/-- Versions whose page has gone to another place are written back to the store, and the map log records it. -/
def State.noteMoves (s : State) (us : List Version) (k : Nat) : State :=
  us.foldl (fun s u => (s.setVersion u).noteMove u k) s

/-- One page of a version moves into a stripe being folded, with every valid record on it (08 R337, 09 R383, R384): it is read,
through its stripe where its block is lost, encrypted again where 14 R543 asks for it, and written with RELOCATED. -/
def State.movePage (s : State) (use : SpareUse) (avoid : Option Nat) (v : Version) (k : Nat) : Option State :=
  let old := s.pageOf v k
  (s.placeFor use avoid ((old.map (·.block.moon)).getD v.home)).map fun d =>
    let us := (old.map s.versionsIn).getD [v]
    let read := match old with
      | some p => d.1.readPage p [0, 1, 2, 3]
      | none => d.1
    let area := match old with
      | some p => if s.partOut p.block then s.rebuiltArea p else p.area
      | none => []
    let r := read.recryptAll us k area
    let h := (old.map (·.header)).getD (dataHeader v.owner k none false 0)
    let moved := r.2.1.map fun u => { u with folded := u.folded.set k d.2.1 }
    (r.1.programData d.2.1 d.2.2 (qlcImage { h with relocated := true } moved k r.2.2)).noteMoves moved k

/-- A map page moves like a data page (08 R347). -/
def State.moveMap (s : State) (use : SpareUse) (avoid : Option Nat) (p : Page) : Option State :=
  (s.placeFor use avoid p.block.moon).map fun d =>
    let q := { p with header := { p.header with relocated := true, stripe := d.2.1 },
                      area := if s.partOut p.block then s.rebuiltArea p else p.area }
    ((d.1.readPage p [0, 1, 2, 3]).programData d.2.1 d.2.2 q.image).notePlace q

/-- Steps of a relocation in turn, until one finds no free block; whether none did. -/
def moveEach {α : Type} (step : State → α → Option State) (s : State) (work : List α) : State × Bool :=
  work.foldl (fun st w => if !st.2 then st else match step st.1 w with
    | some s1 => (s1, true)
    | none => (st.1, false)) (s, true)

/-- The pages of versions that lie in a band. -/
def State.bandWork (s : State) (n : Nat) : List (Version × Nat) :=
  s.kv.versions.flatMap fun v =>
    ((List.range v.folded.length).filter fun k => bandOf (v.folded.getD k 0) == n && v.folded[k]?.isSome).map fun k => (v, k)

/-- The map pages that lie in a band. -/
def State.bandMaps (s : State) (n : Nat) : List Page :=
  s.media.pages.filter fun p => p.header.kind == .map && bandOf p.header.stripe == n && s.pageValid p

/-- One page of the work of a band, unless it has gone with another record of its page. -/
def State.moveFrom (use : SpareUse) (n : Nat) (s : State) (w : Version × Nat) : Option State :=
  let u := s.stored w.1
  if bandOf (u.folded.getD w.2 0) = n then s.movePage use (some n) u w.2 else some s

/-- Every page of a band that holds valid data goes into stripes being folded (08 R337). -/
def State.emptyBand (s : State) (use : SpareUse) (n : Nat) : State × Bool :=
  let r := moveEach (State.moveFrom use n) s (s.bandWork n)
  if r.2 then moveEach (fun s p => s.moveMap use (some n) p) r.1 (s.bandMaps n) else r

/-- A read in progress has located a page of a band: its pages are being read, or it waits for a key or for room (09 R384). -/
def State.bandRead (s : State) (n : Nat) : Bool :=
  s.cmds.list.any fun c => decide (c.phase ∈ [.pageRead, .keyWait, .readWait]) &&
    (c.version.map fun v => v.folded.any fun t => bandOf t == n).getD false

/-- A band whose pages have moved is erased: it is no band any more (08 R337). -/
def State.eraseBand (s : State) (b : Band) : State :=
  let here := fun (p : Page) => !p.header.kind.isSlc && bandOf p.header.stripe == b.num
  let s1 : State := { s with media := { s.media with bands := s.media.bands.filter (·.num != b.num)
                                                     pages := s.media.pages.filter fun p => !here p
                                                     stripes := s.media.stripes.filter fun t => bandOf t.num != b.num } }
  s1.eraseBlocks b.blocks

/-- Old bands are erased once no read uses their pages (09 R384). -/
def State.eraseLeft (s : State) : State :=
  (s.media.bands.filter fun b => b.left && !s.bandRead b.num).foldl State.eraseBand s

/-- A band is relocated (08 R337, 09 R383, R384): its pages move, then it is erased when no read uses it. -/
def State.relocate (s : State) (use : SpareUse) (b : Band) : State :=
  if b.left then s
  else
    let r := s.emptyBand use b.num
    if !r.2 then r.1.settleStripes.noFreeBlock
    else
      let s1 : State := { r.1 with attn := { r.1.attn with noFree := false } }
      (s1.settleStripes.modBand b.num fun q => { q with left := true, due := 0 }).eraseLeft

/-- Which of the pages of a read failed or was read again is not stated. -/
def State.whichPage (s : State) (v : Version) (chunks : List Nat) : Option (Nat × Page) :=
  let k := chunks.getD ((Config.lostPage s.fresh).toNat % chunks.length) 0
  if chunks.isEmpty then none else (s.pageOf (s.stored v) k).map fun p => (k, p)

/-- The codewords of a chunk that a range of the value covers (08 R320). -/
def rangeCodewords (v : Version) (off n k : Nat) : List Nat :=
  let r := pageRange v.key (v.value.getD []).length off n k
  codewords r.1 r.2

/-- The page of a version in QLC that failed LDPC decoding is read again seven times, rebuilt through its stripe from the same
codewords, and relocated, encrypted again as in 14 R543 (08 R339, R340). While WARMING nothing is programmed (02 R63). -/
def State.rescuePage (s : State) (v : Version) (off n : Nat) : State :=
  match s.whichPage v (s.qlcChunks v off n) with
  | none => s
  | some (k, p) =>
    let s1 := s.draw.retryPage p (rangeCodewords v off n k)
    if s.mayProgram then match s1.movePage .last none (s1.stored v) k with
      | some s2 => s2.settleStripes
      | none => s1.noFreeBlock
    else s1

/-- A page of a read decoded after `times` further reads (08 R339, 09 R369). -/
def State.rereadPage (s : State) (v : Version) (off n times : Nat) : State :=
  match s.whichPage v (v.chunksOf off n) with
  | none => s
  | some (k, p) => (List.range (min 7 times)).foldl (fun s _ => s.readFlash p (rangeCodewords v off n k) true) s.draw

/-- Relocates several bands, by their numbers. -/
def State.relocateAll (s : State) (use : SpareUse) (ns : List Nat) : State :=
  ns.foldl (fun s n => match s.band? n with
    | some b => s.relocate use b
    | none => s) s

/-- Rank 3 to 6 work on a band is suspended while a channel island of one of its blocks is at T7 (20 R709). -/
def State.suspended (s : State) (b : Band) : Bool :=
  b.blocks.any s.atT7

end Sys2Proof.Machine
end

