-- ==== Sys2Proof/Machine/MediaEv.lean ====
section
/-! DEFINITION. Media background work (08 R324, R331 to R338, R352; 09 R357 to R385), the end of a rebuild (08 R343, R344) and
the daily health sample (16 R617 to R619). -/

namespace Sys2Proof.Machine

/-! ### Reads (08 R339) -/

/-- The map page of a version is in its moon's DRAM (08 R347). -/
def State.holdsMapPage (s : State) (v : Version) : Bool :=
  ((s.media.moons[s.lookupMoon v.home]?).map fun m => decide (mapPageOf v.objId ∈ m.hotMap)).getD false

/-- The pages of a read as they were read: with retries, or rebuilt and relocated (08 R339). -/
def State.pagesTried (s : State) (c : Cmd) (v : Version) : PageOutcome → State
  | .degraded => s.rescuePage v (readSpan c.desc v).1 (readSpan c.desc v).2
  | .retried n => s.rereadPage v (readSpan c.desc v).1 (readSpan c.desc v).2 n
  | _ => s

/-- The map page of a version as it was read: one that was rebuilt is relocated (08 R339, R347). -/
def State.mapPageTried (s : State) (v : Version) (o : PageOutcome) : State :=
  match s.mapPage? v.home (mapPageOf v.objId) with
  | none => s
  | some p =>
    let cws := codewords (64 * ((Config.mapRef v.objId).toNat % 256)) 64
    match o with
    | .retried n => (List.range (min 7 n)).foldl (fun s _ => s.readFlash p cws true) s
    | .degraded =>
      let s1 := s.retryPage p cws
      if s.mayProgram then match s1.moveMap .last none p with
        | some s2 => s2.settleStripes
        | none => s1.noFreeBlock
      else s1
    | _ => s

/-- PAGE_READ_DONE (08 R339): the pages of a read are read, with retry or rebuild; `w` answers the write of the value. For a read
that waits for its map record, the map page is in DRAM now (R349), or it could be neither read nor rebuilt (05 R208). -/
def execPageReadDone (ref : Nat) (o : PageOutcome) (w : HostWrite) (s : State) : Result :=
  .next (match s.cmd? ref with
    | some c => match c.phase, c.version with
      | .pageRead, some v =>
        ((s.pagesTried c v o).pagesRead c v o w).eraseLeft
      | .mapWait, some v =>
        if s.holdsMapPage v then s
        else match o with
          | .lost _ _ => s.loseMeta c v
          | _ => (s.mapPageTried v o).mapPageRead v
      | _, _ => s
    | none => s)

/-- The version that a comet reads for a result record, and whether a page of it was rebuilt; an export has read it to send it. -/
def State.resultVersion (s : State) (k : Comet) : ResultBody → Option (Version × Bool)
  | .version key degraded lost _ _ _ =>
    if key ∈ k.seen || k.kind == .export_ then none
    else ((s.visibleTo k.nsid k.snapshot k.low k.high).find? (·.key == key)).map fun v => (v, degraded && lost.isNone)
  | _ => none

/-- A comet's reads of a version are suspended: a page of it lies on an island at T7 (20 R709). -/
def State.resultHeld (s : State) (k : Comet) (r : ResultBody) : Bool := ((s.resultVersion k r).map fun x => s.tooHot k x.1).getD false

/-- A comet reads the pages of a version; a page that could not be decoded is relocated (08 R339). -/
def State.readResult (s : State) (k : Comet) (r : ResultBody) : State :=
  match s.resultVersion k r with
  | none => s
  | some (v, degraded) =>
    let s1 := s.readRange v 0 (k.span v)
    if degraded then s1.rescuePage v 0 (k.span v) else s1

/-- RESULT_RECORD_WRITE (12 R473): the moons have examined a version, or a self-test has an outcome. While the comet waits
for credit it reads nothing (R471). -/
def execResultRecordWrite (num : Nat) (r : ResultBody) (w : HostWrite) (s : State) : Result :=
  .next (match s.comet? num with
    | some k => if s.mayRead k && !k.creditWait && !s.resultHeld k r then (s.readResult k r).resultOf k r w else s
    | none => s)

/-! ### Programming (07 R295; 14 R518) -/

/-- An extent is placed anew (14 R518, 01 R40): it leaves its pair, and the placement rule chooses another, which encrypts and
stages it again while its mutation is in flight. -/
def State.placeAnew (s : State) (e : Extent) : State :=
  let s1 := s.unstageAll [e]
  let pair := (s1.pickPair e.len).getD (e.home, e.shadow)
  let stage := fun (m : Moon) => { m with staged := m.staged + e.len }
  ((s1.modMoon pair.1 stage).modMoon pair.2 stage).modExtent e fun x =>
    { x with home := pair.1, shadow := pair.2, staged := false, early := [] }

/-- The two moons of an extent found different CRCs of a page and encrypted the extent again (14 R518, R516, R539). -/
def State.exchange (s : State) (p : PageOwner) (e : Extent) (x : CrcExchange) : State :=
  let n := extentBlocks p.key p.len e
  let s1 := (s.useBlocks e.home e.slot n).useBlocks e.shadow e.slot n
  match x with
  | .agreed => s1
  | .fault shadow => s1.moonOut (if shadow then e.shadow else e.home) 2 2 true
  | .unexplained => s1.placeAnew e

/-- An extent can be programmed: it is staged, not programmed, and in its turn on its moons (07 R731). -/
def State.mayDo (s : State) (j : SlcJob) : Bool := j.ext.staged && !j.ext.progd && s.inSlcTurn j

/-- The jobs of the other records of a pack page, with their mutations; none when one of them is no extent that can be
programmed. -/
def State.besideJobs (s : State) (k : SlcProgram) : Option (List (Nat × SlcJob)) :=
  k.beside.mapM fun x => (s.extentAt x.what.1 x.what.2).bind fun r =>
    let j := (s.jobAt x.what.1 x.what.2 r.1 r.2).2
    if s.mayDo j then some (x.what.1, j) else none

/-- The moons of an extent have exchanged the CRC-32C of its pages (14 R518) and, in agreement, programmed both copies, in
the order of 07 R731; `js` are the jobs of the other records of its pack page (08 R323). -/
def State.programAt (s : State) (k : SlcProgram) (p : PageOwner) (e : Extent) (js : List (Nat × SlcJob)) : State :=
  let s1 := match k.crc with
    | some x => s.exchange p e x
    | none => s
  if (k.crc.map (· == .agreed)).getD true then
    let r := s1.jobAt k.ref k.extent p e
    let turn := (r.2 :: js.map (·.2)).foldl State.passTurn r.1
    let done := (if js.isEmpty then turn.doJob k.ref r.2 else turn.doPack ((k.ref, r.2) :: js)).tryDurable k.ref k.w
    k.beside.foldl (fun s x => s.tryDurable x.what.1 x.w) done
  else s1

/-- SLC_PROGRAM_DONE (07 R286, R295, R731, 08 R323, 14 R518): both SLC copies of a staged extent are programmed and its bytes
leave the occupancy; of a mutation without an extent to program, its map log record is. A WARMING module programs nothing (02
R63), and an extent that is not in its turn, or a pack page that cannot be, leaves the state as it is. -/
def execSlcProgramDone (p : SlcProgram) (s : State) : Result :=
  .next (if s.warm then s
    else match s.extentAt p.ref p.extent, s.besideJobs p with
      | none, _ => s.recordProgrammed p.ref p.w
      | some (o, e), js =>
        let j := (s.jobAt p.ref p.extent o e).2
        if e.progd then s.recordProgrammed p.ref p.w
        else match js with
          | some js => if s.mayDo j && packTogether j (js.map (·.2)) then s.programAt p o e js else s
          | none => s)

/-! ### SLC blocks (08 R324, R329, R333) -/

/-- The QLC block of a die that enters its SLC pool: free, of the lowest levelling count among those listed, else one that
differs in nothing from a fresh one (08 R324). Which one it is the manual does not say: notes/assumptions/31.md. -/
def State.slcEntrant (s : State) (moon die : Nat) : Option Block :=
  let taken := s.bandBlocks
  let mine := s.media.blocks.filter fun b => b.id.moon == moon && b.id.die == die
  let used := (mine.map (·.id)) ++ taken
  let fresh := (((List.range (used.length + 1)).map fun k => { moon := moon, die := die, block := 610 + k : BlockId }).find? fun i =>
    i.block < 18312 && decide (i ∉ used)).map s.block
  let free := mine.filter fun b => b.mode == .qlc && decide (b.count < wornOut) && decide (b.id ∉ taken)
  (free ++ fresh.toList).foldl (fun best b => match best with
    | none => some b
    | some a => if b.level < a.level then some b else some a) none

/-- An SLC block is erased; after 2,000 cycles in SLC mode it returns to the QLC pool and another of its die takes its place (08
R324, 09 R357). -/
def State.eraseSlc (s : State) (i : BlockId) : State :=
  let e := (s.block i).erase
  let s1 := s.modMoon i.moon fun m => { m with slcFreed := m.slcFreed - 6291456 }
  if e.slcCyc < 2000 then s1.setBlock e
  else
    let s2 := s1.setBlock { e with mode := .qlc, slcCyc := 0 }
    match s1.slcEntrant i.moon i.die with
    | some q => s2.setBlock { q with mode := .slc, slcCyc := 0 }
    | none => s2

/-- An SLC block is still being written. -/
def State.slcOpenAt (s : State) (i : BlockId) : Bool :=
  ((s.media.moons[i.moon]?).map fun m => m.openSlc.any fun o => o.1 == i && decide (o.2 < slcPages)).getD false

/-- An SLC block that is full and holds nothing any more is erased, unless it is retired (09 R359). -/
def State.eraseEmpty (s : State) (i : BlockId) : State :=
  if s.media.pages.any (·.block == i) || s.slcOpenAt i || (s.block i).mode != .slc then s
  else
    let s1 := s.eraseSlc i
    let shut := fun (o : Option (BlockId × Nat)) => if o.map (·.1) = some i then none else o
    s1.modMoon i.moon fun m => { m with slcOpen := shut m.slcOpen, logOpen := m.logOpen.map shut }

/-- SLC pages are released: their data is in QLC, or no data any more (08 R329, R333, R338). -/
def State.releaseSlc (s : State) (gone : Page → Bool) : State :=
  let out := s.media.pages.filter fun p => p.header.kind.isSlc && gone p
  let s1 : State := { s with media := { s.media with pages := s.media.pages.filter fun p => !(p.header.kind.isSlc && gone p) } }
  let s2 := out.foldl (fun s p => s.modMoon p.block.moon fun m => { m with slcFreed := m.slcFreed + 16384 }) s1
  (out.map (·.block)).eraseDups.foldl State.eraseEmpty s2

/-! ### Folding (08 R330 to R334) -/

/-- QLC pages of a version: one in a pack page, or one for each chunk (08 R323). -/
def Version.pages (v : Version) : Nat := match v.value with
  | none => 0
  | some b => pageCount v.key b.length

/-- The next page of a version stands in stripe `n`; with all of them in stripes the version is in QLC (08 R333). -/
def Version.fold (n : Nat) (v : Version) : Version :=
  let f := v.folded ++ [n]
  { v with folded := f, place := if v.pages ≤ f.length then .qlc else v.place }

/-- A version that a page of a stripe may come from. -/
def Version.folds (obj : Nat) (v : Version) : Bool := v.objId == obj && v.place == .slc && v.value.isSome

/-- The band that a stripe belongs to, opened with its first stripe; none when it is closed, or for new data when a moon of it
is lost (08 R344). -/
def State.bandFor (s : State) (n : Nat) : Option State :=
  match s.band? n with
  | some b => if (s.media.filling = n || s.media.stripes.any fun t => bandOf t.num == n) && s.usable b then some s else none
  | none => s.openBand .never n

/-- The moon that folds the next page of a version: the one its SLC copy is read on (08 R332). -/
def State.foldMoon (s : State) (v : Version) : Nat := ((s.pageOf v v.folded.length).map (·.block.moon)).getD v.home

/-- An SLC block that holds pages of a version is to be folded ahead of its turn (09 R370, R374, R375). -/
def State.foldDue (s : State) (v : Version) : Bool :=
  s.media.pages.any fun p => p.header.kind.isSlc && p.holds v.objId && (s.block p.block).due

/-- The order of folding: what is due ahead of its turn, then the data staged first (08 R333). -/
def State.foldsBefore (s : State) (a b : Version) : Bool :=
  (s.foldDue a && !s.foldDue b) || (s.foldDue a == s.foldDue b && decide (a.stagedAt ≤ b.stagedAt))

/-- The version whose page a moon folds next (08 R333). -/
def State.nextToFold (s : State) (moon : Nat) : Option Version :=
  (s.kv.versions.filter fun v => v.place == .slc && v.value.isSome && s.foldMoon v == moon).foldl (fun best v => match best with
    | none => some v
    | some a => if s.foldsBefore a v then some a else some v) none

/-- The next page of an object is folded into a stripe, with every valid record on it, from its home copy in SLC, or from the
shadow copy where that is lost (08 R332). Folding moves the page, so it is encrypted again when its generation is not the
current one (14 R543). With the stripe complete both SLC copies are released and the map log records the new location (R333).
None where its moon has no place in the stripe, or another page to fold first. -/
def State.foldPage (n : Nat) (s : State) (obj : Nat) : Option State :=
  (s.kv.versions.find? (Version.folds obj)).bind fun v =>
    let k := v.folded.length
    let src := s.pageOf v k
    let m := s.foldMoon v
    let us := (src.map s.versionsIn).getD [v]
    if !s.positionFree n m || !(s.nextToFold m).any (fun u => decide (u ∈ us)) then none
    else
      let read := match src with
        | some p => s.readPage p [0, 1, 2, 3]
        | none => s
      let area := (src.map (·.area)).getD (s.storedBytes v.owner (v.gens.getD k 1) k)
      let r := read.recryptAll us k area
      let moved := r.2.1.map (Version.fold n)
      let h := (src.map (·.header)).getD (dataHeader v.owner k none false 0)
      let s1 := (r.1.programData n m (qlcImage h moved k r.2.2)).noteMoves moved k
      some (s1.releaseSlc fun p => p.holds obj && p.chunk == k && (p.header.kind == .slcChunk || p.header.kind == .slcPack))

/-- The highest CSN of the map records of a map page of a moon (08 Table 8.2). -/
def State.mapCsn (s : State) (moon page : Nat) : Nat :=
  maxNat ((s.kv.versions.filter fun v => v.home == moon && mapPageOf v.objId == page).map (·.csn))

/-- A map page has been written back: its records hold no log tail any more; the tail begins at the oldest record whose page
has not been (08 R352). -/
def Moon.wroteBack (page : Nat) (m : Moon) : Moon :=
  let tail := (mapWhere (·.page == page) (fun (r : MapRec) => { r with done := true }) m.tail).dropWhile (·.done)
  { m with tail := tail, logTail := sumNat (tail.map (·.len)) }

/-- A map page is written into a stripe (08 R347). -/
def State.writeMap (s : State) (n moon page : Nat) : State :=
  let g : Image := { chunk := moon, header := { kind := .map, csn := s.mapCsn moon page, laddr := page, valid := pageData },
                     area := toLe pageData (Config.metaArea s.fresh).toNat }
  (s.draw.programData n moon g).modMoon moon (Moon.wroteBack page)

/-- A moon holds a map page in its DRAM with changes that are not written back. -/
def Moon.dirty (m : Moon) (page : Nat) : Bool := m.tail.any fun r => r.page == page && !r.done

/-- One data page of a stripe is written; none where the moon has no place in it or nothing to write. -/
def State.fillStripe (n : Nat) (s : State) : StripeFill → Option State
  | .object obj => s.foldPage n obj
  | .mapPage moon page =>
    if s.positionFree n moon && ((s.media.moons[moon]?).map (·.dirty page)).getD false then some (s.writeMap n moon page) else none

/-- Journal entries that recovery still needs: of a bound token whose pages stand, or with a map record that is not written
back (08 R353, R355). -/
def State.needsEntry (s : State) (j : JournalRec) : Bool :=
  (s.media.pages.any fun p => p.header.provisional && p.obj != 0 && decide (p.header.token ∈ j.tokens)) ||
    s.media.moons.any fun m => m.tail.any fun r => match r.change with
      | .put _ _ csn _ => !r.done && csn == j.csn
      | _ => false

/-- FRONT_CKPT pages that recovery does not need any more are reclaimed, but for the latest of each Front. -/
def State.pruneCkpts (s : State) : State :=
  let slim := fun (k : Ckpt) => { k with entries := k.entries.filter s.needsEntry }
  let last := s.media.ckpts.foldl (fun n k => max n k.seq) 0
  { s with media := { s.media with ckpts := (s.media.ckpts.map slim).filter fun k => !k.entries.isEmpty || k.seq == last } }

/-- STRIPE_COMPLETE (08 R331 to R333): all pages of a stripe are programmed. `fills` names the data pages that are neither
pads nor relocated pages, which stand in the stripe already; a page that does not fit leaves the state as it is. -/
def execStripeComplete (stripe : Nat) (fills : List StripeFill) (s : State) : Result :=
  .next (if !s.mayProgram then s
    else match s.bandFor (bandOf stripe) with
      | none => if (s.band? (bandOf stripe)).isSome then s else s.noFreeBlock
      | some s1 =>
        if (s1.stripe stripe).complete || s1.stripeUse stripe + fills.length != s1.dataPages (bandOf stripe) then s
        else match fills.foldlM (State.fillStripe stripe) s1 with
          | none => s
          | some s2 => (s2.sealStripe stripe).settleStripes.pruneCkpts.placeWaiting)

/-- The first stripe of the band being filled that is not complete. -/
def State.openStripe (s : State) : Nat :=
  let first := s.media.filling * 1536
  first + ((List.range 1536).find? fun k => !(s.stripe (first + k)).complete).getD 0

/-- Some other moon has folded its page into a stripe, or has a page to fold (08 R334). -/
def State.othersWait (s : State) (n moon : Nat) : Bool :=
  !(s.stripePages n).isEmpty || (List.range 8).any fun q => q != moon && (s.nextToFold q).isSome

/-- STRIPE_PAD_TIMEOUT (08 R334): a moon has had nothing to fold while others wait: its position is a pad page. -/
def execStripePadTimeout (moon : Nat) (s : State) : Result :=
  .next (let t := s.stripe s.openStripe
    if !s.mayProgram || 8 ≤ moon || (s.nextToFold moon).isSome || !s.othersWait t.num moon || decide (moon ∈ t.pads) ||
        s.parityMoon t.num = moon ||
        (s.stripePages t.num).any (·.header.position == moon) then s
    else s.setStripe { t with pads := t.pads ++ [moon] })

/-! ### Garbage collection, refresh and levelling (08 R337; 09 R370, R375, R380, Table 9.7) -/

/-- A band takes new pages: it is being filled, or some of its stripes are not complete. -/
def State.bandOpen (s : State) (n : Nat) : Bool := n == s.media.filling || s.media.stripes.any fun t => bandOf t.num == n

/-- No other closed band holds less valid data (08 R337). -/
def State.isVictim (s : State) (b : Band) : Bool :=
  !s.bandOpen b.num && s.media.bands.all fun q => s.bandOpen q.num || q.left || decide (s.bandPages b.num ≤ s.bandPages q.num)

/-- GARBAGE_COLLECTION (08 R337, 09 R366, R370, R374, R382): a band queued by read disturb or by a sample goes first. SLC pages
without valid data, void tokens among them, are reclaimed (08 R329, R338). -/
def execGarbageCollection (band : Nat) (s : State) : Result :=
  .next (match s.band? band with
    | none => s
    | some b =>
      if !s.mayProgram || (b.due = 0 && !s.isVictim b) || (b.due != 2 && s.suspended b) then s
      else (s.relocate (if b.due = 0 then .never else .last) b).releaseSlc fun p => !s.pageValid p)

/-- The band that holds a block. -/
def State.bandWith (s : State) (i : BlockId) : Option Band := s.media.bands.find? fun b => decide (i ∈ b.blocks)

/-- A block's data is queued for relocation: its band, or for an SLC block the block by itself (09 R370, R374). The queue
keeps the lower rank. -/
def State.queueBlock (s : State) (b : Block) (rank : Nat) : State :=
  if b.mode = .slc then s.setBlock { b with due := true }
  else match s.bandWith b.id with
    | some q => (s.setBlock b).modBand q.num fun q => { q with due := if q.due = 0 then rank else min q.due rank }
    | none => s.setBlock b

/-- READ_DISTURB_REFRESH (09 R370, R385): the counter has reached its threshold; while WARMING the refresh is deferred, and a
counter that has passed twice its threshold is logged once. -/
def execReadDisturbRefresh (i : BlockId) (s : State) : Result :=
  .next (let b := s.block i
    let past := s.mode.warming && !b.logged && decide (2 * b.threshold < b.reads)
    if !s.mediaRuns || !b.inService then s
    else
      let s1 := s.queueBlock { b with reads := max b.reads b.threshold, logged := b.logged || past } 2
      if past then s1.logEvent 0x0309 i.moon 0 [(0, toLe 4 b.reads)] else s1)

/-- READ_COUNTER_SAVE (09 R371): each moon saves its counters every 10 min while it runs. -/
def execReadCounterSave (moon : Nat) (s : State) : Result :=
  .next (if !s.mayProgram then s
    else
      let f := fun (b : Block) => { b with saved := b.reads }
      { s with media := { s.media with blocks := mapWhere (·.id.moon == moon) f s.media.blocks } })

/-- A band has reached 25 % of its retention (09 R375). -/
def State.isAged (s : State) (b : Band) : Bool :=
  decide (retention (s.bandWear b) * milliDay ≤ 4 * s.bandAge b) && decide (0 < s.bandPages b.num)

/-- An SLC block that holds valid data has reached 25 % of its retention (09 R375). -/
def State.slcAged (s : State) (i : BlockId) : Bool :=
  (s.block i).mode == .slc && decide (i ∈ s.slcData) && decide (retention (s.block i).wear * milliDay ≤ 4 * s.blockAge i)

/-- AGE_REFRESH (09 R375): a band is relocated; an SLC block is folded ahead of its turn. -/
def execAgeRefresh (data : AgedData) (s : State) : Result :=
  .next (if !s.mayProgram then s
    else match data with
      | .band n => match s.band? n with
        | none => s
        | some b => if !s.isAged b || s.suspended b then s else s.relocate .last b
      | .slc i => if s.slcAged i then s.queueBlock (s.block i) 5 else s)

/-- Levelling counts of the blocks that hold valid data (09 R379). -/
def State.dataLevels (s : State) : List Nat :=
  (((s.dataBands.flatMap (·.blocks) ++ s.slcData).map s.block).filter (·.inService)).map (·.level)

/-- The least of a list; 0 of none. -/
def leastNat : List Nat → Nat
  | [] => 0
  | n :: ns => ns.foldl min n

/-- The spread, in units of 0.05 (09 R379). -/
def State.spread (s : State) : Nat := maxNat s.dataLevels - leastNat s.dataLevels

/-- Levelling goes on from a spread above 200 to one of 150 or less (09 R380). -/
def State.levels (s : State) : Bool := decide (4000 < s.spread) || (s.media.levelling && decide (3000 < s.spread))

/-- The lowest levelling count of a band's blocks. -/
def State.bandLevel (s : State) (b : Band) : Nat := leastNat (b.blocks.map fun i => (s.block i).level)

/-- When the data of a band was first programmed. -/
def State.bandTime (s : State) (b : Band) : Nat := leastNat (b.blocks.map fun i => (s.block i).progTime)

/-- The band that levelling moves: the lowest levelling count, among equals the data programmed longest ago (09 R380). -/
def State.levelsNext (s : State) (b : Band) : Bool :=
  s.dataBands.all fun q => decide (s.bandLevel b < s.bandLevel q) ||
    (s.bandLevel b == s.bandLevel q && decide (s.bandTime b ≤ s.bandTime q))

/-- WEAR_LEVELLING (09 R380): not in CUSTODY (R366). -/
def execWearLevelling (band : Nat) (s : State) : Result :=
  .next (match s.band? band with
    | none => s
    | some b =>
      let s1 : State := { s with media := { s.media with levelling := s.levels } }
      if !s.mayProgram || s.mode.mode = .custody then s
      else if !s.levels || s.bandPages band = 0 || !s.levelsNext b || s.suspended b then s1
      else s1.relocate .never b)

/-- A moon writes map pages back, the page of its oldest record first, until its log tail is below 2 GiB; `fuel` bounds the
pages (08 R352). -/
def State.writeBack (moon : Nat) : Nat → State → State
  | 0, s => s
  | fuel + 1, s =>
    if sumNat ((s.tailOf moon).map (·.len)) < 2147483648 then s
    else match (s.tailOf moon).head? with
      | none => s
      | some r => match s.placeFor .never none moon with
        | none => s.noFreeBlock
        | some d => State.writeBack moon fuel (d.1.writeMap d.2.1 moon r.page).settleStripes

/-- MAP_WRITEBACK (08 R352): from 4 GiB of log tail the moon writes map pages back until it is below 2 GiB. -/
def execMapWriteback (moon : Nat) (s : State) : Result :=
  .next (if !s.mayProgram || decide (moon ∉ s.moonsIn) || decide (sumNat ((s.tailOf moon).map (·.len)) < 4294967296) then s
    else (s.writeBack moon (s.tailOf moon).length).pruneCkpts)

/-! ### Clocks and samples (09 R372 to R376) -/

/-- A die's sensor reading of this second: its clock advances (09 R372). -/
def State.tickDie (s : State) (t : Nat × Nat × Int) : State :=
  if t.1 < 8 && t.2.1 < 512 then s.modDie t.1 t.2.1 fun d => { d with age := d.age + ageFactor t.2.2, temp := some t.2.2 } else s

/-- The hottest reading of each moon that has one. -/
def State.hottest (s : State) (temps : List (Nat × Nat × Int)) (m : Nat) : State :=
  match (temps.filter fun t => t.1 == m).map (·.2.2) with
  | [] => s
  | t :: ts => s.modMoon m fun x => { x with maxTemp := ts.foldl max t }

/-- A die's reading: that of a broken sensor counts as one step above the throttle start (20 R706). -/
def State.dieReading (s : State) (t : Nat × Nat × Int) : Nat × Nat × Int :=
  if Sensor.die t.1 t.2.1 ∈ s.thermal.broken then (t.1, t.2.1, 545) else t

/-- The readings that decide the coldest die: those of broken sensors are left out (20 R706). -/
def State.soundReadings (s : State) (temps : List (Nat × Nat × Int)) : List (Nat × Nat × Int) :=
  temps.filter fun t => decide (Sensor.die t.1 t.2.1 ∉ s.thermal.broken)

/-- The moons of the lowest reading. -/
def coldMoons (temps : List (Nat × Nat × Int)) (c : Int) : List Nat := ((temps.filter fun t => t.2.2 == c).map (·.1)).eraseDups

/-- A WARMING module heats itself with reads of its own across its coldest moons (02 R65): they count as reads of the blocks
that hold data. -/
def State.heat (s : State) (moons : List Nat) : State :=
  if !s.mode.warming then s
  else ((s.dataBands.flatMap (·.blocks)).filter fun i => decide (i.moon ∈ moons)).foldl (fun s i =>
    let b := s.block i
    s.setBlock { b with reads := b.reads + (Config.heatReads i.moon i.die i.block s.time.now).toNat }) s

/-- The coldest die has been read: it wakes the module from -22 °C down (02 R73), and a WARMING module heats its moon (R65). -/
def State.coldReading (s : State) (sound : List (Nat × Nat × Int)) : State := match leastInt (sound.map (·.2.2)) with
  | none => s
  | some c =>
    let s1 : State := { s with thermal := { s.thermal with coldest := c }, win := s.win.chill c }
    (if c ≤ -88 then s1.wake else s1).heat (coldMoons sound c)

/-- AGE_CLOCK_TICK (09 R372; 02 R64, R65, R73, R80; 18 Table 18.10): a second has passed; the clocks stop in P4 and after a clean
shutdown. The window is computed normally again once the coldest die reads -20 °C or warmer; after step 12 the metadata on the
media goes to the format of the firmware. -/
def execAgeClockTick (temps : List (Nat × Nat × Int)) (s : State) : Result :=
  .next (if s.power.step = 0 || s.power.shutDone then s
    else
      let read := temps.map s.dieReading
      let s0 := (List.range 8).foldl (fun s m => s.hottest read m) (read.foldl State.tickDie s)
      (if s0.mayProgram then s0.migrateMedia else s0).coldReading (s.soundReadings temps))

/-- The age of a retention finding or of an undecodable sample that still counts: 30 days of the die clock. -/
def thirtyDays : Nat := 2592000000

/-- Seven days of a die clock, in ms. -/
def sevenDays : Nat := 604800000

/-- The pages of a block in the order of their numbers. -/
def State.blockPages (s : State) (i : BlockId) : List Page :=
  sortBy (fun (p q : Page) => decide (p.index ≤ q.index)) (s.media.pages.filter (·.block == i))

/-- A sample of a block is due: it holds valid data, and the pass of this start has not sampled it, or seven days have passed
on its die's clock or in real time (09 R373, R376). -/
def State.sampleDue (s : State) (b : Block) : Bool :=
  (s.media.pages.any fun p => p.block == b.id && s.pageValid p) &&
    (b.pass != s.media.starts || decide (b.sampleAge + sevenDays ≤ s.dieClock b.id.moon b.id.die) ||
      decide (b.sampleTime + sevenDays * 1000000 ≤ s.time.now))

/-- The pages of a sample: the first, the middle and the last programmed one (09 R373). -/
def samplePages (ps : List Page) : List Page :=
  (([0, ps.length / 2, ps.length - 1].filterMap fun k => ps[k]?)).eraseDups

/-- The reads of a sample: codeword 0 of its pages, its retries, seven of a page that stays undecodable, and of an undecodable
block every page (09 R369, R373, R374). -/
def State.readSample (s : State) (i : BlockId) (x : Sample) : State :=
  let ps := s.blockPages i
  let s1 := (samplePages ps).foldl (fun s p => s.readFlash p headerCodewords false) s
  let retried := (List.range (if x.cls = .undecodable then max 7 x.retries else x.retries)).foldl (fun s _ => match ps.head? with
    | some p => s.readFlash p headerCodewords true
    | none => s) s1
  if x.cls = .undecodable then ps.foldl (fun s p => s.readFlash p [0, 1, 2, 3] false) retried else retried

/-- A page that could be neither read nor rebuilt: what it held is lost (08 R341, 05 R205). -/
def State.losePage (s : State) (p : Page) : State :=
  (s.versionsIn p).foldl (fun s v => s.markLost v (v.chunkPart p.chunk)) s

/-- A page of a sampled block is lost: a QLC page is rebuilt from its stripe (08 R340), of a page in SLC the other copy is read;
where that fails too, what it held is lost. -/
def State.rebuildPage (s : State) (p : Page) : State :=
  if p.header.kind.isSlc then
    match s.media.pages.find? fun q => q.header.kind.isSlc && q.obj == p.obj && q.chunk == p.chunk && q.block != p.block &&
        !s.partOut q.block with
    | some q => s.readFlash q [0, 1, 2, 3] false
    | none => s.losePage p
  else if (s.besides p).any fun q => s.partOut q.block then (s.readAround p [0, 1, 2, 3]).losePage p
  else s.readAround p [0, 1, 2, 3]

/-- The sampling pass of a start is over when every block that holds valid data has been sampled (09 R376). -/
def State.passDone (s : State) : Bool :=
  (s.dataBands.flatMap (·.blocks) ++ s.slcData).all fun i => (s.block i).pass == s.media.starts || !(s.block i).inService

/-- A sample is taken: the marks of the block (09 R373, R374). -/
def State.sampleBlock (s : State) (b : Block) (c : SampleClass) : Block :=
  let clock := s.dieClock b.id.moon b.id.die
  let again := match b.undec with
    | some t => decide (clock ≤ t + thirtyDays)
    | none => false
  { b with pass := s.media.starts, sampleAge := clock, sampleTime := s.time.now,
           undec := if c = .undecodable then some clock else b.undec, twice := b.twice || (c == .undecodable && again) }

/-- A finding is counted and logged (09 Table 9.6, 16 Table 16.7). -/
def State.finding (s : State) (i : BlockId) (c : SampleClass) : State :=
  let clock := s.dieClock i.moon i.die
  (s.modMoon i.moon fun m => { m with findings := m.findings ++ [(i.die, clock)] }).logEvent 0x0306 i.moon 0
    [(0, toLe 1 (if c = .finding then 1 else 2))]

/-- RETENTION_SAMPLE (09 R369, R373, R374, R376; 02 R73, R74; 16 Table 16.3 LATE_START): the pages of `x.lost` are those that an
undecodable sample could not read. -/
def execRetentionSample (i : BlockId) (x : Sample) (s : State) : Result :=
  .next (let b := s.block i
    if !s.mediaRuns || !b.inService || s.partOut i || !s.sampleDue b then s
    else
      let s1 := s.wakeForWork.readSample i x
      let b1 := s1.sampleBlock (s1.block i) x.cls
      let lost := if x.cls = .undecodable then (s.blockPages i).filter fun p => decide (p.index ∈ x.lost) else []
      let s2 := if x.cls = .clean then s1.setBlock b1
        else (lost.foldl State.rebuildPage (s1.queueBlock b1 3)).finding i x.cls
      let s3 : State := { s2 with media := { s2.media with shelfAge := false } }
      if s3.passDone then { s3 with attn := { s3.attn with lateStart := false } } else s3)

/-! ### Retirement and the end of a rebuild (09 R359, R361; 08 R343, R344) -/

/-- Row of 09 Table 9.1, from 0. -/
def retireRow : RetireCause → Nat
  | .eraseFail => 0
  | .programFail => 1
  | .wornOut => 2
  | .sampleTwice => 3
  | .partLost => 4

/-- The conditions that State shows for a cause of 09 Table 9.1. -/
def State.mayRetire (s : State) (b : Block) : RetireCause → Bool
  | .eraseFail => true
  | .programFail => s.mayProgram
  | .wornOut => decide (wornOut ≤ b.count)
  | .sampleTwice => b.twice
  | .partLost => s.mayProgram && ((s.media.moons[b.id.moon]?).map fun m => m.dieGone b.id.die).getD false

/-- BLOCK_RETIRE (09 R359, R361 to R365): after a failed program or a lost part the replacement takes the block's place in
its band (R384, 08 R343). -/
def execBlockRetire (i : BlockId) (cause : RetireCause) (s : State) : Result :=
  .next (let b := s.block i
    if !s.mediaRuns || !b.inService || 8 ≤ i.moon || 512 ≤ i.die || !s.mayRetire b cause then s
    else s.retire b (retireRow cause) (decide (cause = .programFail ∨ cause = .partLost)))

/-- The lost blocks of bands are replaced by blocks of the spare pool, rebuilt from parity (08 R343). -/
def State.substituteAll (s : State) (moon : Nat) (die channel : Option Nat) : State :=
  ((s.bandsOn moon die channel).flatMap fun b => b.blocks.filter (onPart moon die channel)).foldl
    (fun s i => s.retire (s.block i) 4 true) s

/-- Samples of a moon whose parts are rebuilt start afresh (16 R619). -/
def State.dropMoonSamples (s : State) (moon : Nat) : State :=
  { s with health := { s.health with monitors := s.health.monitors.filter fun m =>
      !(m.unit == moon && decide (m.monitor ∈ [0, 1, 4])) } }

/-- What a rebuild has done at its end: substitutes for a die or a channel, narrow bands for a moon. -/
def State.rebuilt (s : State) (k : Comet) : State :=
  if k.rebuildKind = 2 then (s.relocateAll .first ((s.bandsOn k.moon none none).map (·.num))).dropMoonSamples k.moon
  else s.substituteAll k.moon k.die k.channel

/-- REBUILD_DONE (08 R343, R344, R346; 12 R484; 16 Table 16.3, Table 16.4, Table 16.7). -/
def execRebuildDone (num : Nat) (s : State) : Result :=
  .next (match s.comet? num with
    | none => s
    | some k =>
      if k.kind != .rebuild || !k.isRunning || !s.mayProgram then s
      else
        let s1 := s.rebuilt k
        let s2 : State := { s1 with comets := { list := s1.comets.list.filter (·.num != num) } }
        let more := s2.comets.list.any fun q => q.isRunning && q.kind == .rebuild && q.moon == k.moon
        let s3 := s2.modMoon k.moon fun m => { m with degraded := more || s2.lostBlocks k.moon }
        (s3.logEvent 0x0305 k.moon 0 [(0, toLe 8 num ++ toLe 1 k.rebuildKind)]).rebuildWarning)

/-! ### The daily health sample (16 R617 to R619) -/

/-- Adds a day's sample of a unit; the latest 4,096 are kept. -/
def addSample (day monitor unit idx : Nat) (value : Int) (l : List Monitor) : List Monitor :=
  let mine := fun (m : Monitor) => m.monitor == monitor && m.unit == unit && m.idx == idx
  let add := fun (m : Monitor) => { m with samples := (m.samples ++ [(day, value)]).drop (m.samples.length + 1 - 4096) }
  if l.any mine then mapWhere mine add l else l ++ [add { monitor := monitor, unit := unit, idx := idx }]

/-- The samples that State itself shows: the highest die wear and the spare reserve of each moon in service. -/
def State.moonSamples (s : State) : List (Nat × Nat × Nat × Int) :=
  s.moonsIn.flatMap fun m =>
    [(0, m, 0, (s.maxWear m : Int)), (1, m, 0, 100 * (((s.media.moons[m]?).map (·.reserve)).getD 0 : Int))]

/-- The monitors whose prediction has the state ATTENTION. -/
def State.endOfLife (s : State) : List (Nat × Monitor × Prediction) :=
  (List.range 5).filterMap fun n => match s.reported n with
    | some (m, p) => if p.state = 3 then some (n, m, p) else none
    | none => none

/-- A host port's eye margin is the latest sample of its link (16 Table 16.9, 18 Table 18.17). -/
def State.eyeSample (s : State) (v : Nat × Nat × Nat × Int) : State :=
  if v.1 = 3 && v.2.1 = 0x30 then s.modHost v.2.2.1 fun h => { h with eyeMin := v.2.2.2.toNat % 65536 } else s

/-- HEALTH_DAILY_SAMPLE (16 R617 to R619): `values` holds the samples of monitors 2 to 4. -/
def execHealthDailySample (values : List (Nat × Nat × Nat × Int)) (s : State) : Result :=
  .next (if s.power.step != 12 || s.power.shutDone then s
    else
      let day := s.health.days + 1
      let all := s.moonSamples ++ values.filter fun v => decide (2 ≤ v.1 ∧ v.1 ≤ 4)
      let monitors := all.foldl (fun l v => addSample day v.1 v.2.1 v.2.2.1 v.2.2.2 l) s.health.monitors
      let s0 : State := { s with health := { monitors := monitors, days := day } }
      let s1 := values.foldl State.eyeSample s0
      let before := s.endOfLife.map (·.1)
      let new := s1.endOfLife.filter fun (e : Nat × Monitor × Prediction) => decide (e.1 ∉ before)
      let s2 := new.foldl (fun s e => s.raise cEol 0x0801 e.2.1.unit e.2.1.idx [(0, toLe 1 e.1), (4, toLe 4 (e.2.2.days.getD 0))]) s1
      s2.setWarning 2 s2.endNear)

end Sys2Proof.Machine
end

