-- ==== Sys2Proof/Machine/FaultEv.lean ====
section
/-! DEFINITION. The faults of 16 Table 16.1: media parts, moons, Fronts, DRAM devices, host ports, cipher engines, vault alarms
(14 R544 to R547), the associative search units (10 R422 to R424), and the fatal fault (16 R606, R607). -/

namespace Sys2Proof.Machine

/-! ### Dies, channels, moons (16 Table 16.1; 08 R340 to R344) -/

/-- DIE_LOST (16 R600, Table 16.7; 08 R343; 09 Table 9.1): its spare blocks are lost with it. -/
def execDieLost (moon die : Nat) (s : State) : Result :=
  .next (match s.media.moons[moon]? with
    | none => s
    | some q =>
      if !s.powered || !q.inService || 512 ≤ die || q.dieGone die then s
      else
        let s1 := s.modMoon moon fun m => { m with diesLost := m.diesLost ++ [die], degraded := true,
                                                   sparesUsed := m.sparesUsed + s.sparesOn moon die }
        let s2 := s1.raise cPart 0x0301 moon 0 [(0, toLe 2 (q.diesLost.length + 1))]
        ((s.retireFree s2 moon [die]).startRebuild moon (some die) none).checkReserve)

/-- CHANNEL_LOST (16 R600; 08 R343). -/
def execChannelLost (moon channel : Nat) (s : State) : Result :=
  .next (match s.media.moons[moon]? with
    | none => s
    | some q =>
      if !s.powered || !q.inService || 64 ≤ channel || decide (channel ∈ q.chansLost) then s
      else
        let dies := (List.range 8).map fun k => 8 * channel + k
        let spares := sumNat (dies.map fun d => s.sparesOn moon d)
        let s1 := (s.modMoon moon fun m => { m with sparesUsed := m.sparesUsed + spares }).channelsOut moon [channel]
        ((s.retireFree s1 moon (dies.filter fun d => !q.dieGone d)).startRebuild moon none (some channel)).checkReserve)

/-- MOON_LOST (16 Table 16.1; 06 R277; 08 R342, R344): `cause` as in 16 Table 16.7. -/
def execMoonLost (moon cause : Nat) (s : State) : Result := .next (if s.powered then s.moonOut moon 2 cause true else s)

/-! ### Fronts (16 Table 16.1; 01 R27 to R36) -/

/-- FRONT_LOST (16 Table 16.1). -/
def execFrontLost (f : Front) (loss : FrontLoss) (s : State) : Result :=
  .next (if s.powered then s.frontOut f 2 loss.cause loss.unacked else s)

/-- FRONT_RETURN (01 R35, R36): a repaired Front. One that tripped returns under 20 R712, one that failed to wake at the
next start (02 R88). -/
def execFrontReturn (f : Front) (s : State) : Result :=
  .next (match s.media.fronts[frontIdx f]? with
    | none => s
    | some q => if !s.powered || q.inService || q.lostCause = 1 || q.lostCause = 3 || s.mode.fatal then s else s.frontBack f)

/-! ### DRAM devices (16 R601) -/

/-- The owner of a channel fails. -/
def State.ownerOut (s : State) (unacked : List (Nat × Nat)) : UnitId → State
  | .moon m => s.moonOut m 2 3 true
  | .front f => s.frontOut f 2 3 unacked
  | _ => s

/-- DRAM_DEVICE_FAILED (16 R601): the first device of a channel is corrected, a second one fails the owner, and so does an
uncorrectable access whose error comes from no device declared failed. -/
def execDramDeviceFailed (u : UnitId) (x : DramChannel) (s : State) : Result :=
  .next (let isOwner : Bool := match u with
      | .moon m => decide (m < 8)
      | .front _ => true
      | _ => false
    if !isOwner || !s.powered then s
    else if x.uncorrected || decide ((unitCode u, x.channel) ∈ s.attn.drams) then s.ownerOut x.unacked u
    else State.raise { s with attn := { s.attn with drams := s.attn.drams ++ [(unitCode u, x.channel)] } } cDram 0x0404 (unitCode u) 0 [])

/-! ### Host ports (16 R602; 17 R625, R629, R642) -/

/-- PTP is lost: as the source it ends the discipline; as the source of the time of day it only stops setting it (17 R642,
R645). -/
def State.losePtp (s : State) : State :=
  if s.settings.timeSource = 1 then s.holdOver
  else if s.settings.timeSource = 3 then { s with time := { s.time with ptpLocked := false, goodSyncs := 0 } }
  else s

/-- The lanes of a logical port, as bits (17 Table 17.1). -/
def laneMask (breakout sub : Nat) : Nat :=
  if breakout = 0 then 15 else if breakout = 1 then 3 * 4 ^ sub else 2 ^ sub

/-- A logical port has failed: its twin carries its addresses and its sessions (16 R602, 17 R629, R643). -/
def State.portFails (s : State) (port : Nat) (k : Nat) : State :=
  let l := 4 * port + k
  let fail := fun (h : HostPort) =>
    { h with failed := h.failed ||| 2 ^ k, linkUp := h.linkUp - (h.linkUp &&& 2 ^ k),
             laneLock := h.laneLock - (h.laneLock &&& laneMask h.live.breakout k) }
  let s1 := s.modHost port fail
  let s2 := if (s1.logical l).away then s1 else s1.carryAway l true
  if s2.settings.ptpPort = l then s2.losePtp else s2

/-- The logical ports of a host port that fail: all of them, or the one whose own lanes failed (17 R625). -/
def State.failing (s : State) (port : Nat) (sub : Option Nat) : List Nat :=
  let h := s.host port
  let subs := match sub with
    | none => List.range (subPorts h.live.breakout)
    | some k => if k < subPorts h.live.breakout then [k] else []
  subs.filter fun k => !bitOf h.failed k

/-- HOST_PORT_FAILED (16 Table 16.1, R602, Table 16.7). -/
def execHostPortFailed (port : Nat) (sub : Option Nat) (cause : Nat) (s : State) : Result :=
  .next (let ks := s.failing port sub
    if !s.powered || 32 ≤ port || ks.isEmpty then s
    else (ks.foldl (fun s k => s.portFails port k) s).raise cPort 0x0405 0x30 port [(0, toLe 1 cause)])

/-- PORT_RETURN (16 R602): 10 s of stable link; the addresses return with their sessions. -/
def execPortReturn (lport : Nat) (s : State) : Result :=
  .next (if lport < 128 && (s.logical lport).away && bitOf (s.host (lport / 4)).linkUp (lport % 4) then s.carryAway lport false
    else s)

/-! ### Cipher engines (14 R516) -/

/-- CIPHER_MISMATCH (14 R516; 16 Table 16.4, Table 16.7): the engine leaves service; a second failure, or more than 64
engines out, fails the moon. -/
def execCipherMismatch (moon : Nat) (secondFails : Bool) (s : State) : Result :=
  .next (match s.media.moons[moon]? with
    | none => s
    | some q =>
      if !s.powered || !q.inService then s
      else
        let n := q.enginesOut + 1
        let s1 := (s.modMoon moon fun m => { m with enginesOut := n }).setWarning 5 true
        let s2 := s1.logEvent 0x0408 moon 0 [(0, toLe 1 0), (2, toLe 2 n)]
        if secondFails || 64 < n then s2.moonOut moon 2 2 true else s2)

/-! ### Fatal fault (16 R606, R607) -/

/-- FATAL_FAULT (16 R606, R607): `cause` is the CODE of the fault that led to it. -/
def execFatalFault (cause : Nat) (s : State) : Result := .next (if s.powered then s.fatalFault cause else s)

/-! ### Vault alarms (14 R544 to R547) -/

/-- A LOADED slot after an alarm (14 R545). -/
def KeySlot.alarmed (k : KeySlot) : KeySlot := if k.st = .loaded then { k with st := .erased, root := [] } else k

/-- A fetched command that an alarm ends with ST_BUSY_RETRY: a mutation with its key lock that has not committed, or a read
whose lookup has begun (14 R546). -/
def Cmd.endsAtAlarm (c : Cmd) : Bool :=
  let op := dOpcode c.desc
  let early := c.phase == .unknown || c.phase == .fenced || c.phase == .areas
  !opAdmin op && !c.isCommitted && c.phase != .finished && !early &&
    ((opMutation op && (c.locked || c.phase == .valueWait || c.phase == .csnWait || c.phase == .granted)) ||
      op == opGet || op == opHead)

/-- Slots are ERASED, the CUSTODY cause arises, and what has no key any more ends (14 R545, R546). A mutation that has its CSN
commits first, for 06 Table 6.1 lists no alarm among the causes of a missing CSN (R242): DEDUCED, notes/assumptions/46.md. -/
def State.alarmErases (s0 : State) : State :=
  let s := s0.commitForwarded
  let s1 : State := { s with vault := { s.vault with slots := s.vault.slots.map KeySlot.alarmed, pending := true }
                             mode := { s.mode with causeVault := true } }
  let s2 := s1.toCustody 0x0D
  s2.finishAll ((s2.cmds.list.filter (·.endsAtAlarm)).map fun c => (c.ref, batchComp c.desc (Comp.plain .busyRetry)))

/-- VAULT_ALARM (14 R544, R545; 16 Table 16.3, Table 16.7): `row` of 14 Table 14.7. With no slot LOADED it is counted and
logged only. -/
def execVaultAlarm (row : Nat) (s : State) : Result :=
  .next (let n := s.vault.alarms + 1
    let erases := s.vault.slots.any fun k => decide (k.st = .loaded)
    let s1 : State := { s with vault := { s.vault with alarms := n } }
    let s2 := s1.logEvent 0x0506 0x20 0 [(0, toLe 1 row), (4, toLe 4 n)]
    if erases then (s2.setCause cVault).alarmErases else s2)

/-- KEY_CACHE_ZEROIZE (14 R546): the moons' key caches are gone. -/
def execKeyCacheZeroize (s : State) : Result :=
  .next (if s.vault.pending then { s with vault := { s.vault with pending := false, cached := [], grants := [] } } else s)

/-! ### Associative search units (10 R422 to R424) -/

/-- Index of a table in the repair counters (18 Table 18.11), and its rows (10 Table 10.1). -/
def tableIdx : AsuTable → Nat
  | .range => 0 | .rule => 1 | .session => 2 | .lock => 3

def tableRows : AsuTable → Nat
  | .range => 16384 | .rule => 4096 | .session => 65536 | .lock => 32768

/-- A row is rewritten, counted and logged (10 R422, 16 Table 16.7). -/
def State.repairRow (s : State) (f : Front) (t : AsuTable) (row peer : Nat) : State :=
  let s1 : State := { s with asu := { s.asu with repairs := s.asu.repairs.modify (tableIdx t) (· + 1) } }
  s1.logEvent 0x0407 (0x10 + frontIdx f) 0 [(0, toLe 1 (tableIdx t) ++ toLe 1 peer ++ toLe 2 row)]

/-- A Front is in service. -/
def State.frontIn (s : State) (f : Front) : Bool := ((s.media.fronts[frontIdx f]?).map (·.inService)).getD false

/-- ASU_SCRUB (10 R422, R423, R425; 02 R73, R74): a pass; a faulty row is disabled, the lookups that enable its bank are held, it
is rewritten from its shadow, and they are answered, or made again, from the repaired table. -/
def execAsuScrub (f : Front) (t : AsuTable) (found : Option AsuFinding) (s : State) : Result :=
  .next (if !s.fetching || !s.frontIn f then s
    else
      let s1 := s.wakeForWork
      match found with
      | none => s1
      | some r => if decide (r.row < tableRows t) && s.rowFault t r.row r.bits r.how then s1.repairRow f t r.row 0 else s1)

/-- ASU_PEER_REPAIR (10 R424): the shadow is fetched from the peer; with the peer out of service the Front fails, and no Front is
left that could write a completion again (06 R276). -/
def execAsuPeerRepair (f : Front) (t : AsuTable) (row : Nat) (s : State) : Result :=
  .next (if !s.powered || !s.frontIn f || tableRows t ≤ row then s
    else if s.frontIn (otherFront f) then s.repairRow f t row 1
    else s.frontOut f 2 2 [])

end Sys2Proof.Machine
end

