-- ==== Sys2Proof/Machine/PairAdm.lean ====
section
/-! DEFINITION. ADM_PAIR (15 R558 to R560, R580, R586 to R589). -/

namespace Sys2Proof.Machine

/-! ### Parameters (15 Table 15.1) -/

def qpForce (d : Bytes) : Bool := bitOf (byteAt d 9) 0
def qpRkey (d : Bytes) : Nat := u32At d 12
def qpAddr (d : Bytes) : Nat := u64At d 16
def qpEpoch (d : Bytes) : Nat := u32At d 24

/-- The witness parameters of a descriptor. -/
def setWitnessOf (d : Bytes) (p : PairPart) : PairPart :=
  { p with witAddr := qpAddr d, witRkey := qpRkey d, witIp := fit 16 (slice d 32 16), witService := u64At d 48 }

/-- Every LOADED slot of this module is LOADED on the partner with the same KCV (15 R560). -/
def State.kcvsMatch (s : State) (q : PartnerInfo) : Bool :=
  s.vault.slots.all fun k => !decide (k.st = .loaded) || q.kcvs.any fun e => e.1 == k.slot && e.2 == k.kcv

/-- FORM: SOLO, the conditions of 15 R560, and the swap of the witness from 0. -/
def pairForm (q : PartnerInfo) (read cas : WitnessAnswer) (c : Cmd) (s : State) : State :=
  let d := c.desc
  if s.mode.mode != .solo then s.finish c.ref (Comp.denied 6)
  else if !aligned (qpAddr d) 8 || s.linksUp.isEmpty || !q.joinPending || q.version != 1 || !s.kcvsMatch q then
    s.finish c.ref (Comp.denied 7)
  else
    let new := witness 1 false 0 1
    let s1 := s.emit (setWitnessOf d s.pair).readWord
    if read != .value 0 then s1.finish c.ref (Comp.denied 7)
    else
      let s2 := s1.emit ((setWitnessOf d s.pair).swapWord 0 new)
      if cas != .value 0 then s2.finish c.ref (Comp.denied 7)
      else
        let s3 : State := { s2 with pair := { setWitnessOf d s2.pair with
                                      paired := true, member := 0, epoch := 1, inStep := false, partnerLost := false,
                                      partnerSerial := q.serial, joinUntil := none, lastSwap := none } }
        let s4 := (((s3.witnessOk new).leased s.time.now).setMode .primary 0x04).setCause cUnmirrored
        s4.startResync.finish c.ref (Comp.okResult 1)

/-- JOIN: SOLO without a namespace; the module waits 10 min (15 R559). -/
def pairJoin (c : Cmd) (s : State) : State :=
  if s.mode.mode != .solo then s.finish c.ref (Comp.denied 6)
  else if s.ns.any (fun n => !n.gone) then s.finish c.ref (Comp.denied 7)
  else
    ({ s with pair := { s.pair with joinUntil := some (s.time.now + 600000000000) } }).finish c.ref (Comp.okResult 0)

/-- SWAP on the PRIMARY is executed; on the MIRROR it is forwarded (15 R580, R581). -/
def pairSwap (cas : WitnessAnswer) (c : Cmd) (s : State) : State :=
  let e := qpEpoch c.desc
  match s.mode.mode with
  | .primary | .mirror | .eclipse =>
    match s.pair.swapAnswer e with
    | .busy => s.finish c.ref (Comp.plain .busyRetry)
    | .superseded => s.finish c.ref (superseded s.pair.epoch)
    | .refused => s.finish c.ref (Comp.denied 7)
    | .run =>
      if s.mode.mode = .primary then
        s.runSwap cas fun epoch s => if ((s.session? c.sid).map (·.carried)).getD false then s
          else (s.finish c.ref (Comp.okResult epoch)).releaseHeld (·.ref == c.ref)
      else
        ({ s with pair := { s.pair with swapWaits := s.pair.swapWaits ++ [c.ref] } }.modCmd c.ref fun c =>
          { c with phase := .adminWait }).sendPair 0x20 (toLe 4 e)
  | _ => s.finish c.ref (Comp.denied 6)

/-- DISSOLVE: on the primary, or on a MIRROR in step, which forwards it, both members become SOLO; any other member
refuses it (15 R586, R587). -/
def pairDissolve (c : Cmd) (s : State) : State :=
  if s.mode.mode = .primary || (s.mode.mode = .mirror && s.pair.inStep) then
    ((s.sendPair 0x20 (toLe 4 s.pair.epoch)).finish c.ref (Comp.okResult 0)).releaseHeld (·.ref == c.ref) |>.dissolve
  else s.finish c.ref (Comp.denied 6)

/-- DISSOLVE with FORCE on a MIRROR or eclipse member whose partner cannot be reached: SOLO at once with the data it
holds, logged with the highest CSN it holds (15 R587). Elsewhere FORCE changes nothing. -/
def pairDissolveForce (c : Cmd) (s : State) : State :=
  if (s.mode.mode = .mirror || s.mode.mode = .eclipse) && s.linksUp.isEmpty then
    let csn := max s.seq.committed s.pair.applied
    let s1 := s.raise cForced 0x0606 0xFF 0 [(0, toLe 8 csn)]
    let s2 : State := { s1 with seq := { s1.seq.newBlock with committed := csn } }
    s2.dissolve.finish c.ref (Comp.okResult 0)
  else pairDissolve c s

/-- SET_WITNESS on the primary in step: the new word is swapped from 0 to the current value with RENEW + 1 (15 R588). -/
def pairSetWitness (cas : WitnessAnswer) (c : Cmd) (s : State) : State :=
  if s.mode.mode != .primary || !s.pair.inStep then s.finish c.ref (Comp.denied 6)
  else if !aligned (qpAddr c.desc) 8 then s.finish c.ref (Comp.denied 7)
  else
    let new := renewed s.pair.word true
    let s1 := s.emit ((setWitnessOf c.desc s.pair).swapWord 0 new)
    if cas != .value 0 then s1.finish c.ref (Comp.denied 7)
    else
      let s2 : State := { s1 with pair := setWitnessOf c.desc s1.pair }
      (((s2.witnessOk new).leased s.time.now).config c).finish c.ref (Comp.okResult 0)

/-- Microseconds of lease remaining (15 Table 15.9). -/
def State.leaseLeft (s : State) : Nat := match s.pair.lease with
  | some t => (t - s.time.now) / 1000
  | none => 0

/-- The pair query record (15 Table 15.9). -/
def pairRecord (s : State) : Bytes :=
  let p := s.pair
  toLe 1 (modeCode s.mode.mode) ++
    toLe 1 (p.member + 2 * b2n p.inStep + 4 * b2n p.lease.isSome + 8 * b2n (p.paired && !s.attn.holdsWit) + 16 * b2n p.aliveIn) ++
    toLe 1 (sumNat (s.linksUp.map (2 ^ ·))) ++ zeros 1 ++ toLe 4 p.epoch ++ toLe 8 p.word ++ toLe 4 s.leaseLeft ++ zeros 4 ++
    toLe 8 p.resyncDone ++ toLe 8 (if p.resyncOn then p.resyncAll else 0) ++ toLe 8 p.partnerCsn ++ fit 16 p.partnerSerial

/-- QUERY (15 R589). -/
def pairQuery (w : HostWrite) (c : Cmd) (s : State) : State :=
  s.output c w (qpRkey c.desc) (qpAddr c.desc) (pairRecord s) fun s => s.finish c.ref (Comp.okResult 0)

/-- ADM_PAIR DISSOLVE without and with FORCE. -/
def isDissolve (force : Bool) (d : Bytes) : Bool := isAdm 0x50 4 d && qpForce d == force

/-- PAIR_FORM (15 R560). -/
def execPairForm (ref : Nat) (partner : PartnerInfo) (read cas : WitnessAnswer) (s : State) : Result :=
  .next (s.withReady ref (isAdm 0x50 1) (pairForm partner read cas))

/-- PAIR_JOIN (15 R559). -/
def execPairJoin (ref : Nat) (s : State) : Result := .next (s.withReady ref (isAdm 0x50 2) pairJoin)

/-- PAIR_SWAP (15 R580, R581). -/
def execPairSwap (ref : Nat) (cas : WitnessAnswer) (s : State) : Result :=
  .next (s.withReady ref (isAdm 0x50 3) (pairSwap cas))

/-- PAIR_DISSOLVE (15 R586). -/
def execPairDissolve (ref : Nat) (s : State) : Result := .next (s.withReady ref (isDissolve false) pairDissolve)

/-- PAIR_DISSOLVE_FORCE (15 R587). -/
def execPairDissolveForce (ref : Nat) (s : State) : Result :=
  .next (s.withReady ref (isDissolve true) pairDissolveForce)

/-- PAIR_SET_WITNESS (15 R588). -/
def execPairSetWitness (ref : Nat) (cas : WitnessAnswer) (s : State) : Result :=
  .next (s.withReady ref (isAdm 0x50 5) (pairSetWitness cas))

/-- PAIR_QUERY (15 R589). -/
def execPairQuery (ref : Nat) (w : HostWrite) (s : State) : Result :=
  .next (s.withReady ref (isAdm 0x50 6) (pairQuery w))

end Sys2Proof.Machine
end

