-- ==== Sys2Proof/Machine/PairEv.lean ====
section
/-! DEFINITION. Pair events (15): heartbeats and PAIR_ALIVE (R573), HELLO (R574, R583, R585), gasp and takeover (R575 to
R579), forwarding (R566 to R569), leases (R563, R564), forwarded swaps (R580, R581), resynchronisation (R582, R583). -/

namespace Sys2Proof.Machine

/-! ### Heartbeats -/

/-- Body of this member's HEARTBEAT (15 Table 15.5). -/
def State.heartbeatBody (s : State) : Bytes :=
  toLe 1 (modeCode s.mode.mode) ++
    toLe 1 (b2n s.pair.inStep + 2 * b2n s.mode.warming + 4 * b2n (s.win.window == 0)) ++ zeros 6 ++ toLe 8 s.seq.committed

/-- HEARTBEAT_SEND (15 R573): every 20 us, on every link that is up. -/
def execHeartbeatSend (s : State) : Result :=
  .next (if s.pair.paired then
      s.linksUp.foldl (fun t n => t.sendOn n 0x02 s.heartbeatBody) s
    else s)

/-- A frame's header fits this pair (15 R574). -/
def State.frameFits (s : State) (f : PairFrame) : Bool :=
  f.version == 1 && f.moduleId == s.ident.moduleId && f.member == 1 - s.pair.member

/-- A frame received in order on a link (15 Table 15.4 ACK); a pair frame ends idleness (02 R73). -/
def State.frameSeen (s : State) (n seq : Nat) : State :=
  (s.modLink n fun l => if seq == l.ack + 1 then { l with ack := seq } else l).wake

/-- What a heartbeat says of the partner. -/
def noteHeartbeat (now : Nat) (b : HeartbeatBody) (p : PairPart) : PairPart :=
  { p with partnerWarm := b.warming, partnerMode := b.mode, partnerCsn := b.highCsn, partnerZero := b.winZero,
           partnerZeroAt := if b.winZero && !p.partnerZero then now else p.partnerZeroAt }

/-- The partner is WARMING, or its window has been forced to 0 for more than 10 ms (15 R572), or it is in SERVICE, while
the primary serves unmirrored (02 Table 2.2). -/
def State.partnerUnable (s : State) : Bool :=
  s.pair.partnerWarm || s.pair.partnerMode == modeCode .service || (s.pair.partnerZero && decide (s.pair.partnerZeroAt + 10000000 < s.time.now))

/-- A member that is not the primary takes IN_STEP from the primary's heartbeat, but while it is being resynchronised. -/
def State.followStep (s : State) (b : HeartbeatBody) : State :=
  if s.mode.mode = .primary || b.mode != modeCode .primary || s.pair.resyncOn then s
  else { s with pair := { s.pair with inStep := b.inStep } }

/-- The members disagree on IN_STEP while the partner can be brought into step: the primary resynchronises it (15
R583). -/
def State.outOfStep (s : State) (inStep : Bool) : Bool :=
  s.mode.mode == .primary && (!s.pair.inStep || !inStep) && !s.partnerUnable

/-- HEARTBEAT_RECEIVE (15 R572, R573, R583). -/
def execHeartbeatReceive (link : Nat) (f : PairFrame) (b : HeartbeatBody) (s : State) : Result :=
  .next (if s.pair.paired && s.frameFits f && ((s.link? link).map (·.up)).getD false then
      let s1 := s.frameSeen link f.seq
      let s2 := State.followStep { s1 with pair := noteHeartbeat s.time.now b s1.pair } b
      if s2.partnerUnable then s2.loseMirroring
      else if s2.outOfStep b.inStep && (b.mode == modeCode .mirror || b.mode == modeCode .eclipse) then s2.startResync
      else s2
    else s)

/-- HEARTBEAT_TIMEOUT (15 Table 15.3): the link has failed. -/
def execHeartbeatTimeout (link : Nat) (s : State) : Result :=
  .next (match s.link? link with
    | some l =>
      if l.up then
        let s1 := s.modLink link fun l => { l with up := false, failed := true }
        ((s1.logEvent 0x0601 0x31 link []).linkWarning).checkPartner
      else s
    | none => s)

/-- PAIR_ALIVE_LOST (15 Table 15.3). -/
def execPairAliveLost (s : State) : Result :=
  .next (({ s with pair := { s.pair with aliveIn := false } }).checkPartner)

/-- PAIR_ALIVE_RESTORED (15 R573). -/
def execPairAliveRestored (s : State) : Result :=
  .next (if s.shorted pinAliveIn then s else { s with pair := { s.pair with aliveIn := true } })

/-! ### HELLO (15 R574) -/

/-- The joiner has been formed into a pair: it becomes MIRROR, member 1, with the identifier of member 0 (15 R555,
R560). -/
def State.joined (s : State) (f : PairFrame) (serial : Bytes) : State :=
  let s1 : State := { s with ident := { s.ident with moduleId := f.moduleId }
                             pair := { s.pair with paired := true, member := 1, epoch := f.epoch, inStep := false,
                                                   partnerSerial := serial, joinUntil := none, partnerLost := false } }
  s1.giveWay 0x04

/-- A SOLO module with a JOIN pending that hears the PRIMARY of a new pair (15 R559, R560). -/
def State.joinFits (s : State) (f : PairFrame) : Bool :=
  s.mode.mode == .solo && s.pair.joinUntil.isSome && f.role == 1 && f.member == 0 && f.version == 1

/-- The pair's members have heard each other: a primary resynchronises a member out of step (15 R583); the holder of a
restarted pair promotes when its partner reports MIRROR (15 R585). -/
def State.helloHeard (s : State) (f : PairFrame) (inStep : Bool) : State :=
  if s.outOfStep inStep then s.startResync
  else if s.mode.mode = .mirror && f.role == 2 && wHolder s.pair.word == s.pair.member && s.pair.word != 0 then
    s.issueCas .promote (reheld s.pair.word s.pair.member)
  else s

/-- HELLO_RECEIVE (15 R574): the link comes up, or stays down and is reported as failed, as it does when it is cabled to
another link than its own number of the partner (01 R22). -/
def execHelloReceive (cable : PairCable) (f : PairFrame) (serial : Bytes) (inStep : Bool) (s : State) : Result :=
  .next (match s.link? cable.near with
    | none => s
    | some q =>
      if !q.trained then s
      else
      let s1 := if cable.far == cable.near && s.joinFits f then s.joined f serial else s
      let fits := cable.far == cable.near && f.version == 1 && (!s1.pair.paired || (s1.frameFits f && s1.pair.partnerSerial == serial))
      if fits then
        let s2 := ((s1.modLink cable.near fun l => { l with up := true, failed := false }).frameSeen cable.near f.seq).linkWarning
        let s3 : State := { s2 with pair := { s2.pair with partnerLost := false, wait := .idle } }
        if s3.pair.paired then s3.helloHeard f inStep else s3
      else
        let s2 := (s1.modLink cable.near fun l => { l with up := false, failed := true }).logEvent 0x0601 0x31 cable.near []
        s2.linkWarning)

/-! ### Loss of the partner (15 R575 to R579) -/

/-- The member may promote on a value just read: it swaps; lost, it decides as `lost` says (15 R565). -/
def State.trySwap (s : State) (w : Nat) (cas : WitnessAnswer) (cause : Nat) (lost : State → State) : State :=
  let s1 := s.emit (s.pair.swapWord w (reheld w s.pair.member))
  match cas with
  | .unreachable => s1.witnessFailed
  | .value v => if v == w then s1.promoted w cause else lost (s1.witnessOk v)

/-- GASP_RECEIVE (15 R572, R576): the partner has failed; a MIRROR reads the word and swaps at once; a lost swap is
decided again at the next read. -/
def execGaspReceive (read cas : WitnessAnswer) (s : State) : Result :=
  .next (if !s.pair.paired then s
    else
      let s1 := ({ s.wake with pair := { s.pair with partnerLost := true } }).logEvent 0x0602 0xFF 0 [(0, toLe 1 1)]
      if s.mode.mode = .primary then s1.loseMirroring
      else if s.mode.mode = .mirror then
        let s2 := s1.emit s1.pair.readWord
        match read with
        | .unreachable => s2.witnessFailed
        | .value w =>
          if s.pair.maySwap w then (s2.witnessOk w).trySwap w cas 0x06 id
          else (s2.witnessOk w).enterEclipse
      else s1)

/-- One read of the witness by a MIRROR that has lost its partner silently (15 R577 to R579, R585). -/
def State.polled (s : State) (w : Nat) (same : Bool) (cas : WitnessAnswer) : State :=
  let s1 := s.witnessOk w
  if !s.pair.maySwap w then s1.enterEclipse
  else match s.pair.wait with
    | .idle => { s1 with pair := { s1.pair with wait := .waiting w } }
    | .waiting v =>
      if v != w then s1.enterEclipse
      else if same then s1.trySwap w cas 0x06 State.enterEclipse
      else s1

/-- The partner is lost silently: every pair link down, and PAIR_ALIVE lost with them (15 Table 15.3). -/
def State.partnerSilent (s : State) : Bool := s.linksUp.isEmpty && (!s.pair.aliveIn || s.pair.partnerLost)

/-- WITNESS_POLL (15 R577 to R579, Table 15.3): every 2 ms after a silent loss; with PAIR_ALIVE present the partner is alive. -/
def execWitnessPoll (read : WitnessAnswer) (sameFor505ms : Bool) (cas : WitnessAnswer) (s : State) : Result :=
  .next (if s.pair.paired && s.mode.mode = .mirror && s.partnerSilent then
      let s1 := s.emit s.pair.readWord
      match read with
      | .unreachable => s1.witnessFailed
      | .value w => s1.polled w sameFor505ms cas
    else s)

/-! ### Forwarding (15 R566 to R569) -/

/-- The version of a forwarded mutation (15 R566). -/
def State.forwardedVersion (s : State) (fw : Forwarded) : Version :=
  let n := (s.namespace? fw.nsid).getD { nsid := fw.nsid }
  { nsid := fw.nsid, key := fw.key, csn := fw.csn, value := fw.value, digest := fw.digest, suite := n.suite,
    object := fw.object, sealed := n.suite == 2 && fw.value.isSome, slot := n.slot,
    gens := if fw.value.isSome then List.replicate (pageCount fw.key (fw.value.getD []).length) fw.gen else [],
    commitTime := s.time.now, objId := fw.objId, durable := true, stagedAt := s.time.now }

/-- Growth of a namespace's use by a forwarded version (13 R509). -/
def State.forwardedGrowth (s : State) (fw : Forwarded) : Int × Int :=
  let old := s.currentValue fw.nsid fw.key
  let new : Int := match fw.value with
    | some b => (fw.key.length + b.length : Nat)
    | none => 0
  (new - (keyCharge old : Int), b2n fw.value.isSome - b2n old.isSome)

/-- The mirror's sequencer holds the primary's high-water mark, blocks being of 4,096 from a multiple of 4,096 (06 R240,
15 R570). -/
def blockTop (csn : Nat) : Nat := csn / 4096 * 4096 + 4095

/-- Bytes that a forwarded mutation charges (07 R289). -/
def forwardCharge (fw : Forwarded) : Nat := match fw.value with
  | some b => fw.key.length + b.length
  | none => 0

/-- A forwarded version is stored under this member's own placement and charged to its window; the identifiers it uses
itself later lie above (15 R566, R567, R570). -/
def State.storeForward (s : State) (fw : Forwarded) : State :=
  let v := s.forwardedVersion fw
  let cuts := if fw.value.isSome then extentCuts (fw.value.getD []).length else []
  let place := fun (st : State × List Extent) (cut : Nat × Nat) => placeExtent st
    { part := 0, obj := fw.objId, slot := v.slot, key := if cut.1 = 0 then fw.key.length else 0, off := cut.1, len := cut.2 }
  let r := cuts.foldl place (s, [])
  let stored := { v with home := (r.2.head?.map (·.home)).getD (s.moonsIn.getD 0 0),
                         shadow := (r.2.head?.map (·.shadow)).getD (s.moonsIn.getD 1 1) }
  let s1 := (r.1.putVersion stored (s.forwardedGrowth fw)).reclaim
  { s1 with
    kv := { s1.kv with nextObjId := max s.kv.nextObjId (fw.objId + 1) }
    cmds := { s1.cmds with nextRef := s1.cmds.nextRef + 1 }
    seq := { s1.seq with hwm := max s1.seq.hwm (blockTop fw.csn), next := max s1.seq.next (blockTop fw.csn + 1),
                         committed := max s1.seq.committed fw.csn,
                         charges := s1.seq.charges ++
                           [{ ref := s1.cmds.nextRef, csn := fw.csn, bytes := forwardCharge fw, extents := r.2.map fun e => { e with staged := true } }] } }

/-- A forwarded mutation is applied whole, under its one CSN, with its decision record (15 R566, R567). -/
def State.applyForward (s : State) (d : DecisionRecord) (keys : List Forwarded) : State :=
  let s1 := keys.foldl State.storeForward s
  { s1 with
    seq := { s1.seq with committed := max s1.seq.committed d.csn, hwm := max s1.seq.hwm (blockTop d.csn) }
    pair := { s1.pair with applied := d.csn, decisions := s1.pair.decisions ++ [d] } }

/-- Bytes that a forwarded mutation charges to this member's window (15 R567). -/
def forwardTotal (keys : List Forwarded) : Nat := sumNat (keys.map forwardCharge)

/-- A forwarded mutation: in CSN order; a CRC mismatch asks for the bytes again; a WARMING member cannot stage them (02
R63), and one whose window has no room for the charge does not take them yet (07 R291). -/
def State.receiveMutation (s : State) (d : DecisionRecord) (keys : List Forwarded) : State :=
  if s.mode.warming then s
  else if !keys.all (·.crcOk) then s.sendPair 0x11 (toLe 8 d.csn)
  else if d.csn ≤ s.pair.applied || (forwardTotal keys != 0 && decide (s.win.window < s.occupancy + forwardTotal keys)) then s
  else (s.applyForward d keys).sendPair 0x12 (toLe 8 d.csn)

/-- A count of a ring has completed: the lowest count without a completion record moves past those that have one; `fuel`
bounds the moves. -/
def CarriedRing.advance : Nat → CarriedRing → CarriedRing
  | 0, r => r
  | fuel + 1, r =>
    if r.next ∈ r.finished then
      CarriedRing.advance fuel { r with next := (r.next + 1) % 2 ^ 32, finished := r.finished.filter (· != r.next) }
    else r

/-- A ring of a carried session with one more completion record. -/
def CarriedRing.complete (k : CompletionRecord) (r : CarriedRing) : CarriedRing :=
  CarriedRing.advance (r.finished.length + 1)
    { r with finished := r.finished ++ [k.count], cqCount := max r.cqCount (k.slot + 1) }

/-- A completion record arrives: it ends the decision record of its descriptor (15 R569, R575). -/
def PairPart.addRecord (p : PairPart) (k : CompletionRecord) : PairPart :=
  { p with
    records := p.records ++ [k]
    decisions := p.decisions.filter fun d => !(d.handle == k.handle && d.ring == k.ring && d.count == k.count)
    carried := mapWhere (·.handle == k.handle)
      (fun x => { x with rings := mapWhere (·.idx == k.ring) (CarriedRing.complete k) x.rings }) p.carried }

/-- Acknowledged completions need no record any more, and the versions they named may go (15 R569). -/
def State.dropRecords (s : State) (refs : List Nat) : State :=
  ({ s with pair := { s.pair with records := s.pair.records.filter fun r => !decide (r.ref ∈ refs) } }).reclaim

/-- The accounts that the primary forwards: a high-water mark (06 R240), object identifiers, a key slot's generation and
usage (14 R540). -/
def State.forwardedUsage (s : State) (slot gen used : Nat) : State :=
  { s with vault := { s.vault with slots := mapWhere (·.slot == slot) (fun k => { k with gen := gen, used := used }) s.vault.slots } }

/-- Settings that the primary forwards take effect here at once; an identifier that it deleted is free (13 R498, R514). -/
def State.takeChanges (s : State) (changes : List SettingsChange) : State :=
  (changes.foldl State.afterChange (changes.foldl State.applyChange s)).reapNamespaces

/-- What a MIRROR or eclipse member does with one forwarded item (15 R566 to R570, 12 R489). -/
def State.receiveForward (s : State) (fw : PairForward) : State :=
  match fw with
  | .mutation d keys => s.receiveMutation d keys
  | .highWater mark => ({ s with seq := { s.seq with hwm := max s.seq.hwm mark } }).sendPair 0x15 (toLe 8 mark)
  | .objectIds next => { s with kv := { s.kv with nextObjId := max s.kv.nextObjId next } }
  | .usage slot gen used => s.forwardedUsage slot gen used
  | .session x => { s with pair := { s.pair with carried := s.pair.carried.filter (·.handle != x.handle) ++ [x] } }
  | .sessionEnd h => { s with pair := { s.pair with carried := s.pair.carried.filter (·.handle != h) } }
  | .completion k => ({ s with pair := s.pair.addRecord k }).sendPair 0x12 (toLe 8 k.ref)
  | .acknowledged refs => s.dropRecords refs
  | .comet k => { s with pair := { s.pair with comets := s.pair.comets.filter (·.num != k.num) ++ [k] } }
  | .cometEnd n => { s with pair := { s.pair with comets := s.pair.comets.filter (·.num != n) } }
  | .config ref changes => (s.takeChanges changes).sendPair 0x13 (toLe 8 ref)

/-- PAIR_FORWARD_RECEIVE (15 R566, R567, R570): one item that the primary forwards; a pair frame wakes the module (02
R73). -/
def execPairForwardReceive (fw : PairForward) (s : State) : Result :=
  .next (if s.mode.mode = .mirror || s.mode.mode = .eclipse then s.wake.receiveForward fw else s)

/-- COMPLETION_ACK_REPORT (15 R569): the completion records named are no longer needed; the primary tells its partner. -/
def execCompletionAckReport (refs : List Nat) (s : State) : Result :=
  .next (if s.mode.mode = .primary then (s.dropRecords refs).sendPair 0x12 (refs.flatMap (toLe 8)) else s.dropRecords refs)

/-- The partner holds a completion record: the completion is written (15 R569). -/
def State.recordHeld (s : State) (ref : Nat) : State :=
  let s1 : State := { s with pair := { s.pair with records := s.pair.records ++ [{ ref := ref }] } }
  (s1.releaseHeld (·.ref == ref)).adoptProved

/-- The partner holds a mutation's decision record with its value (15 R568); an in-step mutation may commit once the record of
its latest grant is held: one granted again after a Front failure is owed twice (06 R278, R280). -/
def State.decisionHeld (s : State) (ref : Nat) : State :=
  let owed := s.pair.owed.erase ref
  let s1 : State := { s with pair := { s.pair with owed := owed } }
  if ref ∈ owed then s1 else s1.modCmd ref fun c => { c with partner := true }

/-- A mutation's bytes are programmed twice on the partner too (15 R568): a STRICT one may complete. -/
def State.partnerMediaHeld (s : State) (x : Writing Nat) : State :=
  (s.modCmd x.what fun c => { c with partnerMedia := true }).tryDurable x.what x.w

/-- PARTNER_RECORD_HELD (15 R568, R569; 06 R240; 13 R514): the decision record and value of a mutation, the completion record
of a command or the change of settings that it makes, its bytes at MEDIA, or a high-water mark. -/
def execPartnerRecordHeld (record : PartnerRecord) (s : State) : Result :=
  .next (match record with
    | .command ref =>
      if s.forwards && (s.pair.change.map (·.ref)) == some ref then s.wake.settleChange
      else if ref ∈ s.pair.owed then s.wake.decisionHeld ref
      else match s.cmd? ref with
        | some c => if c.phase == .finished then s.wake.recordHeld ref else s
        | none => s
    | .media x => if s.mode.mode = .primary then s.wake.partnerMediaHeld x else s
    | .highWater mark => { s.wake with pair := { s.wake.pair with markHeld := max s.pair.markHeld mark } })

/-! ### Leases (15 R563, R564) -/

/-- LEASE_RENEW: a compare-and-swap from the value last written (15 R563); while mirroring is being given up it is the
swap that sets IN_STEP 0 (R572). -/
def execLeaseRenew (s : State) : Result :=
  .next (if s.mode.mode = .primary then
      if s.pair.holding then s.issueCas .unmirror (renewed s.pair.word false)
      else s.issueCas .renew (renewed s.pair.word (wInStep s.pair.word))
    else s)

/-- The swap that was outstanding has succeeded (15 R563, R572, R575, R585). -/
def State.casWon (s : State) : State :=
  match s.pair.casFor with
  | .promote => if s.mode.mode = .mirror then s.promoted s.pair.word 0x06 else s
  | .unmirror =>
    let s1 := (s.witnessOk s.pair.casNew).leased s.pair.casIssued
    if s.mode.mode = .primary then s1.setInStep false else s
  | .renew => if s.mode.mode = .primary then (s.witnessOk s.pair.casNew).leased s.pair.casIssued else s

/-- WITNESS_CAS_RESPONSE (15 R563): another value than the expected one loses the lease at once (R564). -/
def execWitnessCasResponse (ans : WitnessAnswer) (s : State) : Result :=
  .next (match ans with
    | .unreachable => if s.pair.paired then s.witnessFailed else s
    | .value v =>
      if !s.pair.paired then s
      else if v == s.pair.word then s.casWon
      else
        let s1 := s.witnessOk v
        if s.mode.mode = .primary then s1.loseLease
        else if s.pair.casFor = .promote then s1.enterEclipse
        else s1)

/-- LEASE_EXPIRE: a primary whose lease has ended becomes MIRROR (15 R564). -/
def execLeaseExpire (s : State) : Result :=
  .next (if s.mode.mode = .primary && s.pair.lease.isSome then s.loseLease else s)

/-- JOIN_EXPIRE (15 R559). -/
def execJoinExpire (s : State) : Result := .next { s with pair := { s.pair with joinUntil := none } }

/-! ### Forwarded swaps (15 R580, R581, R586) -/

/-- SWAP_REQUEST_RECEIVE: the primary executes a SWAP its MIRROR forwarded, and a DISSOLVE makes both members SOLO. -/
def execSwapRequestReceive (epoch : Nat) (dissolve : Bool) (cas : WitnessAnswer) (s0 : State) : Result :=
  let s := if s0.pair.paired then s0.wake else s0
  .next (if dissolve then (if s.pair.paired && s.mode.mode != .service then s.dissolve else s)
    else if s.mode.mode = .primary then
      match s.pair.swapAnswer epoch with
      | .run => s.runSwap cas fun _ s => s
      | .superseded | .refused | .busy => s.sendPair 0x20 (toLe 4 s.pair.epoch)
    else s)

/-- The SWAP commands of this member's sessions that were forwarded complete (15 R580, R581): the one executed ST_OK,
the others ST_OK_SUPERSEDED. -/
def State.swapsDone (s : State) (epoch : Nat) (mine : Bool) : State :=
  let first := s.pair.swapWaits.head?
  let answers := s.pair.swapWaits.map fun r =>
    (r, if mine && first == some r then Comp.okResult epoch else superseded epoch)
  ({ s with pair := { s.pair with swapWaits := [] } }).finishAll answers

/-- SWAP_DONE_RECEIVE: the MIRROR becomes PRIMARY by the steps of a takeover (15 R581). The new primary completes a SWAP of a
carried session ST_OK when it fetches it again (Table 15.8). -/
def execSwapDoneReceive (epoch word : Nat) (swap : SwapRecord) (s0 : State) : Result :=
  let s := s0.wake
  .next (if s0.mode.mode = .mirror then
      let s1 : State := { s with pair := { s.pair with
        epoch := epoch, lastSwap := some (epoch - 1), wait := .idle, decisions := s.pair.decisions ++ swap.asked.toList } }
      let s2 := s1.swapsDone epoch swap.mine
      ((s2.witnessOk word).leased s.time.now).takeover 0x05
    else s0)

/-! ### Resynchronisation (15 R582) -/

/-- Versions of a fetched stream entry replace the key's older ones. -/
def State.applyFetched (s : State) (fw : Forwarded) : State :=
  if (s.versionsOf fw.nsid fw.key).any fun v => decide (fw.csn ≤ v.csn) then s
  else s.storeForward fw

/-- Keys absent from the whole stream are deleted: those without a version above its snapshot (15 R582). -/
def State.dropAbsent (s : State) (snapshot : Nat) : State :=
  let seen := s.pair.resyncKeys
  let keep := fun (v : Version) => decide ((v.nsid, v.key) ∈ seen) ||
    (s.versionsOf v.nsid v.key).any fun u => decide (snapshot < u.csn)
  { s with kv := { s.kv with versions := s.kv.versions.filter keep } }

/-- A stream of another snapshot begins afresh (15 R582, R583). -/
def State.openStream (s : State) (snapshot : Nat) : State :=
  if s.pair.resyncPin = some snapshot then s
  else { s with pair := { s.pair with resyncPin := some snapshot, resyncKeys := [], resyncDone := 0 } }

/-- RESYNC_FRAME_RECEIVE (15 R582): a piece of the key stream, with the versions fetched for it; the last piece deletes
the keys that the stream did not name. -/
def execResyncFrameReceive (snapshot : Nat) (keys : List (Nat × Bytes × Nat)) (fetched : List Forwarded) (last : Bool)
    (s : State) : Result :=
  .next (if s.mode.mode = .mirror || s.mode.mode = .eclipse then
      let s1 := fetched.foldl State.applyFetched (s.wake.openStream snapshot)
      let seen := s1.pair.resyncKeys ++ keys.map fun k => (k.1, k.2.1)
      let s2 : State := { s1 with pair := { s1.pair with resyncOn := !last, resyncKeys := seen,
                                                         resyncDone := s1.pair.resyncDone + keys.length } }
      if last then
        let s3 := s2.dropAbsent snapshot
        { s3 with pair := { s3.pair with resyncKeys := [], applied := max s3.pair.applied snapshot }
                  seq := { s3.seq with hwm := max s3.seq.hwm (blockTop snapshot), committed := max s3.seq.committed snapshot } }
      else s2
    else s)

/-- The resynchronisation releases its pin: one that no comet has shared ends with it, any other follows 06 R266. -/
def State.releasePin (s : State) : State :=
  match s.pair.resyncPin with
  | none => s
  | some csn => if s.kv.pins.any fun p => p.csn == csn && p.resync then s.endPin csn else s

/-- The stream may end: every version of the snapshot was durable to be streamed, and the partner holds every mutation
forwarded meanwhile and the high-water mark, so that IN_STEP 1 is true (15 Table 15.2, 06 R281, R282). -/
def State.resyncSettled (s : State) : Bool :=
  s.pair.owed.isEmpty && decide (s.seq.hwm ≤ s.pair.markHeld) &&
    match s.pair.resyncPin with
    | some csn => s.settled csn
    | none => false

/-- The primary's end of a resynchronisation: IN_STEP 1 is renewed and the pin released (15 R582). -/
def State.resyncEnded (s : State) (cas : WitnessAnswer) : State :=
  let new := renewed s.pair.word true
  let s1 := s.emit (s.pair.swapWord s.pair.word new)
  match cas with
  | .unreachable => s1.witnessFailed
  | .value v =>
    if v != s.pair.word then (s1.witnessOk v).loseLease
    else
      let s2 := (s1.witnessOk new).leased s.time.now
      let s3 := s2.releasePin
      let s4 : State := { s3 with pair := { s3.pair with resyncOn := false, resyncPin := none } }
      (s4.setInStep true).sendPair 0x32 []

/-- RESYNC_DONE (15 R582): the primary renews IN_STEP 1; at that point an eclipse member becomes MIRROR. -/
def execResyncDone (cas : WitnessAnswer) (s : State) : Result :=
  .next (match s.mode.mode with
    | .primary => if s.pair.resyncOn && s.resyncSettled then s.resyncEnded cas else s
    | .eclipse => ({ s.wake with pair := { s.pair with inStep := true, resyncOn := false } }).setMode .mirror 0x09
    | .mirror => { s.wake with pair := { s.pair with inStep := true, resyncOn := false } }
    | _ => s)

end Sys2Proof.Machine
end

