-- ==== Sys2Proof/Machine/PortEv.lean ====
section
/-! DEFINITION. Links, addresses, received frames and gears (17 R620 to R640). -/

namespace Sys2Proof.Machine

/-! ### Links and announcements (17 R625, R626, R629; 15 R574) -/

/-- The body of the HELLO that a trained pair link sends: serial number, member, epoch and witness value (15 Table 15.5). -/
def State.hello (s : State) : Bytes := s.ident.serial ++ toLe 1 s.pair.member ++ toLe 4 s.pair.epoch ++ toLe 8 s.pair.word

/-- LINK_UP (17 R625, R626; 15 R574; 16 Table 16.7 PORT_UP). -/
def execLinkUp (link : LinkId) (s : State) : Result :=
  .next (if !s.onAir then s
    else match link with
    | .port l =>
      if !s.portExists l || !s.frontIn (if l < 64 then .a else .b) then s
      else
        let k := l % 4
        let was := bitOf (s.host (l / 4)).failed k
        let s1 := s.modHost (l / 4) fun h =>
          { h with linkUp := h.linkUp ||| 2 ^ k, failed := h.failed - (h.failed &&& 2 ^ k),
                   laneLock := h.laneLock ||| laneMask h.live.breakout k }
        if was then s1.logEvent 0x0406 0x30 (l / 4) [] else s1
    | .pair n =>
      match s.link? n with
      | none => s
      | some _ => (s.modLink n fun q => { q with trained := true }).sendOn n 0x01 s.hello)

/-- Adds to a counter of a link. -/
def State.count (s : State) (link : LinkId) (k n : Nat) : State := match link with
  | .port l => s.modLogical l fun q => { q with counters := q.counters.modify k (· + n) }
  | .pair m => s.modLink m fun q => { q with counters := q.counters.modify k (· + n) }

/-- Indices of 17 Table 17.5. -/
def txCnp : Nat := 14
def txDropInternal : Nat := 15
def txDropTq4 : Nat := 16

/-- A frame of a logical port goes out, once it is whole in the transmit buffer (17 R633): with an uncorrectable ECC error it is
discarded and counted; a frame of TQ4 whose queue is full is dropped and counted, one of another queue is held back at its
source until there is room (Table 17.3). -/
def State.transmit (s : State) (l : Nat) (tq4 : Bool) (tx : TxFate) (o : Output) : State := match tx with
  | .eccError => s.count (.port l) txDropInternal 1
  | .queueFull => if tq4 then s.count (.port l) txDropTq4 1 else s.emit o
  | .sent => s.emit o

/-- ANNOUNCE_REPEAT (17 R629): 1 ms and 10 ms after the takeover. -/
def execAnnounceRepeat (x : Sending LinkId) (s : State) : Result :=
  .next (match x.what with
    | .port l =>
      let q := s.logical l
      if q.announce = 0 || !s.onAir then s
      else
        let carrier := if q.away then twinOf l else l
        (s.modLogical l fun q => { q with announce := q.announce - 1 }).transmit carrier false x.tx (.announce carrier)
    | .pair _ => s)

/-! ### Addresses (17 R630) -/

/-- The IP addresses that a logical port carries now: its own, and its twin's while they are away (01 R27, 16 R602). -/
def State.carried (s : State) (l : Nat) : List Bytes :=
  (if (s.logical l).away then [] else s.carriedIps l) ++ (if (s.logical (twinOf l)).away then s.carriedIps (twinOf l) else [])

/-- ADDRESS_RESOLUTION_REQUEST (17 R630): ARP, Neighbor Solicitation or echo. -/
def execAddressResolutionRequest (lport : Nat) (target : Bytes) (x : Sending Nat) (s : State) : Result :=
  .next (if s.onAir && decide (lport < 128 ∧ target ∈ s.carried lport) then
      s.transmit lport true x.tx (.addressReply lport target x.what) else s)

/-! ### Receive (17 R635 to R637) -/

/-- More indices of 17 Table 17.5. -/
def rxFrames : Nat := 0
def rxBytes : Nat := 1
def rxNoBuf : Nat := 4
def rxFcs : Nat := 5
def rxRunt : Nat := 6
def rxOversize : Nat := 7
def rxVlan : Nat := 8
def rxUnclaimed : Nat := 9
def rxIp : Nat := 10
def rxIcrc : Nat := 11
def rxPfc : Nat := 12
def rxEcn : Nat := 13

/-- The EtherType is one that the link takes (17 Table 17.4 check 6, R623). -/
def etherOk (pair : Bool) (ether : Nat) : Bool :=
  if pair then ether == 0x88B5 else decide (ether ∈ [0x0800, 0x86DD, 0x0806, 0x88F7])

/-- The VLAN tag is the one set; with none set, no tag or identifier 0 (17 R628). -/
def vlanOk (want got : Option Nat) : Bool := match want with
  | some v => got == some v
  | none => got == none || got == some 0

/-- The counter that a received frame falls to; none when it is delivered (17 R635, Table 17.4 in its order). -/
def frameFate (pair : Bool) (want : Option Nat) (f : RxFrame) : Option Nat :=
  let ip := f.ether == 0x0800 || f.ether == 0x86DD
  if !f.bufFree then some rxNoBuf
  else if !f.fcsOk then some rxFcs
  else if f.length < 64 then some rxRunt
  else if 9216 < f.length then some rxOversize
  else if !f.dstMine then some rxUnclaimed
  else if !vlanOk want f.vlan then some rxVlan
  else if f.pfc && !pair then some rxPfc
  else if !etherOk pair f.ether then some rxUnclaimed
  else if ip && !f.ipOk then some rxIp
  else if ip && !f.udpClass then some rxUnclaimed
  else if ip && !f.udpSumOk then some rxIp
  else if ip && f.rocev2 && !f.icrcOk then some rxIcrc
  else none

/-- A frame is counted where it was dropped or delivered. -/
def State.received (s : State) (link : LinkId) (want : Option Nat) (f : RxFrame) : State :=
  let pair := match link with
    | .pair _ => true
    | .port _ => false
  match frameFate pair want f with
  | some k => s.count link k 1
  | none => (s.count link rxFrames 1).count link rxBytes f.length

/-- FRAME_RECEIVE (17 R635 to R637). What a delivered frame carries is another row of the table. -/
def execFrameReceive (link : LinkId) (f : RxFrame) (s : State) : Result :=
  .next (if !s.powered then s
    else match link with
    | .port l => if s.portExists l then s.received link (lpVlan (s.logical l).live) f else s
    | .pair _ => s.received link none f)

/-! ### Flow and congestion control (17 R634) -/

/-- PFC_FRAME: honoured when flow control is enabled for the RoCEv2 priority. -/
def execPfcFrame (lport : Nat) (paused : Bool) (s : State) : Result :=
  .next (if s.powered && s.portExists lport && (s.host (lport / 4)).live.pfcEn then
      s.modLogical lport fun q => { q with paused := paused } else s)

/-- CNP_RECEIVE: the requester rate of the port is reduced once more; by how much is Annex A17's and not stated. -/
def execCnpReceive (lport : Nat) (s : State) : Result :=
  .next (if s.powered && s.portExists lport then s.modLogical lport fun q => { q with reduced := q.reduced + 1 } else s)

/-- ECN_MARKED_PACKET: a CNP answers it; it is counted when it is sent. -/
def execEcnMarkedPacket (x : Sending Nat) (s : State) : Result :=
  .next (if s.onAir && s.portExists x.what then
      let s1 := s.count (.port x.what) rxEcn 1
      (if x.tx = .eccError then s1 else s1.count (.port x.what) txCnp 1).transmit x.what false x.tx (.cnp x.what) else s)

/-! ### Gears (17 R638, R639) -/

def Gear.up : Gear → Gear
  | .g2 => .g1
  | _ => .g0

def Gear.down : Gear → Gear
  | .g0 => .g1
  | _ => .g2

/-- A direction of a link's datapath changes gear. -/
def State.shift (s : State) (link : LinkId) (rx : Bool) (f : Gear → Gear) : State := match link with
  | .port l => s.modHost (l / 4) fun h => if rx then { h with gearRx := f h.gearRx } else { h with gearTx := f h.gearTx }
  | .pair n => s.modLink n fun q => if rx then { q with gearRx := f q.gearRx } else { q with gearTx := f q.gearTx }

/-- GEAR_UP (17 R639). -/
def execGearUp (link : LinkId) (rx : Bool) (s : State) : Result := .next (if s.powered then s.shift link rx Gear.up else s)

/-- GEAR_DOWN (17 R639). -/
def execGearDown (link : LinkId) (rx : Bool) (s : State) : Result := .next (if s.powered then s.shift link rx Gear.down else s)

end Sys2Proof.Machine
end

