-- ==== Sys2Proof/Machine/Program.lean ====
section
/-! DEFINITION. Program slots and their generations (11 R447 to R459). -/

namespace Sys2Proof.Machine

/-! ### Parameters (11 Table 11.11) -/

def ppSlot (d : Bytes) : Nat := bitsOf (byteAt d 8) 0 4
def ppShared (d : Bytes) : Bool := bitOf (byteAt d 8) 6
def ppUnload (d : Bytes) : Bool := bitOf (byteAt d 8) 7

/-- IMAGE_LEN and IMAGE_ADDR within their ranges (11 Table 11.11). -/
def loadOk (d : Bytes) : Bool :=
  let len := u32At d 24
  if ppUnload d then len == 0
  else decide (64 < len) && decide (len ≤ 139328) && (len - 64) % 34 == 0 && aligned (u64At d 16) 8

/-- The load a descriptor asks for. -/
def loadOf (c : Cmd) : ProgLoad :=
  let d := c.desc
  { ref := c.ref, gen := 0, addr := u64At d 16, rkey := u32At d 12, len := u32At d 24, nsid := dNsid d,
    shared := ppShared d, unload := ppUnload d }

/-- A load joins the queue of its slot (11 R449). Its parameters are checked here, ahead of the checks of its turn (R448), to
which the manual gives no order (DESIGN CHOICE, notes/assumptions/62.md). -/
def queueLoad (c : Cmd) (s : State) : State :=
  if !loadOk c.desc then s.finish c.ref (Comp.denied 7)
  else
    (s.modProg (ppSlot c.desc) fun p => { p with queue := p.queue ++ [loadOf c] }).modCmd c.ref fun c =>
      { c with phase := .adminWait }

/-! ### The turn of a load (11 R448 to R453) -/

/-- The slot's current generation holds no program. -/
def ProgSlot.isEmpty (p : ProgSlot) : Bool := match p.current with
  | some g => g.image.isEmpty
  | none => true

/-- A Curator's conditions (11 R448). -/
def State.curatorMayLoad (s : State) (c : Cmd) (p : ProgSlot) (l : ProgLoad) : Bool :=
  let own := match p.current with
    | some g => g.image.isEmpty || (s.mayAdminister c g.nsid && !g.shared)
    | none => true
  s.isCustodian c || (own && !l.shared && s.mayAdminister c l.nsid)

/-- A running comet still references the slot's retained generation (11 R450, R454). -/
def State.retainedUsed (s : State) (p : ProgSlot) : Bool := match p.retained with
  | some g => s.comets.list.any fun k => k.isRunning && k.refs.any fun r => r.1 == p.slot && r.2 == g.gen
  | none => false

/-- The new generation takes effect and the load completes (11 R451, R452, R459); no image makes the slot empty. -/
def State.installed (s : State) (c : Cmd) (p : ProgSlot) (l : ProgLoad) (image : Bytes) : State :=
  let gen := p.lastGen + 1
  s.configured c { status := .ok, result := gen + p.slot * 2 ^ 32, aux := imgStates image }
    [.program p.slot gen l.nsid l.shared image]

/-- The image is read once and checked (11 R434, R451, R453). -/
def State.loadImage (s : State) (c : Cmd) (p : ProgSlot) (l : ProgLoad) (r : HostRead) : State :=
  if l.unload then s.installed c p l []
  else s.operand c r l.rkey l.addr l.len fun img s =>
    if imageOk img then s.installed c p l img else s.finish c.ref (Comp.denied 7)

/-- The checks at the turn, in order (11 R448, R450), then the load. -/
def State.loadTurn (s : State) (c : Cmd) (p : ProgSlot) (l : ProgLoad) (r : HostRead) : State :=
  match s.modeOf (s.roleOf c.sid) 0x4F with
  | some k => s.finish c.ref k
  | none =>
    if !s.nsExists l.nsid then s.finish c.ref (Comp.denied 8)
    else if !s.curatorMayLoad c p l then s.finish c.ref (Comp.denied 4)
    else if s.retainedUsed p then s.finish c.ref (Comp.plain .slotBusy)
    else
      let s1 := s.modProg p.slot fun p => { p with retained := none }
      s1.loadImage c { p with retained := none } l r

/-- ADM_PROGRAM_LOAD without UNLOAD (11 R447). -/
def isLoad (d : Bytes) : Bool := dOpcode d == 0x4F && !ppUnload d

/-- ADM_PROGRAM_LOAD with UNLOAD (11 R447). -/
def isUnload (d : Bytes) : Bool := dOpcode d == 0x4F && ppUnload d

/-- ADM_PROGRAM_LOAD (11 R447, R449). -/
def execAdmProgramLoad (ref : Nat) (s : State) : Result := .next (s.withReady ref isLoad queueLoad)

/-- PROGRAM_UNLOAD (11 R447, R449). -/
def execProgramUnload (ref : Nat) (s : State) : Result := .next (s.withReady ref isUnload queueLoad)

/-- The front of a slot's queue has its turn, and leaves the queue; while the partner does not hold the new generation it stays
there (11 R459). -/
def State.takeLoad (s : State) (p : ProgSlot) (l : ProgLoad) (ls : List ProgLoad) (r : HostRead) : State :=
  let s1 := s.modProg p.slot fun p => { p with queue := ls }
  match s.cmd? l.ref with
  | some c =>
    if c.phase == .adminWait then
      let t := s1.loadTurn c { p with queue := ls } l r
      if t.pair.change.isSome then t.modProg p.slot fun p => { p with queue := l :: ls } else t
    else s1
  | none => s1

/-- PROGRAM_LOAD_TURN (11 R449, R450): the front of a slot's queue has its turn; a load whose command has ended leaves
the queue. -/
def execProgramLoadTurn (slot : Nat) (r : HostRead) (s : State) : Result :=
  .next (match s.programs.find? (·.slot == slot) with
    | none => s
    | some p => match p.queue with
      | [] => s
      | l :: ls => s.inTurn (·.takeLoad p l ls r))

end Sys2Proof.Machine
end

