-- ==== Sys2Proof/Machine/RangeMap.lean ====
section
/-! DEFINITION. ADM_RANGE_MAP (15 R591 to R594; 10 R397 to R403). -/

namespace Sys2Proof.Machine

/-! ### Parameters and list entries (15 Table 15.10, Table 15.11) -/

def mpCount (d : Bytes) : Nat := u16At d 10
def mpRkey (d : Bytes) : Nat := u32At d 12
def mpAddr (d : Bytes) : Nat := u64At d 16
def mpExpected (d : Bytes) : Nat := u32At d 24
def mpNew (d : Bytes) : Nat := u32At d 28

/-- APPLY: the list is read and checked whole before any row changes (15 R592). -/
def rangeApply (r : HostRead) (c : Cmd) (s : State) : State :=
  let d := c.desc
  let n := mpCount d
  if c.decided then s.mapApplied c.ref c.acc c.block
  else if n == 0 || decide (1024 < n) || !aligned (mpAddr d) 8 then s.finish c.ref (Comp.denied 7)
  else s.operand c r (mpRkey d) (mpAddr d) (48 * n) fun list s =>
    if mpExpected d != s.asu.epoch || decide (mpNew d ≤ mpExpected d) then s.finish c.ref (Comp.denied 7)
    else match applyList s.asu.ranges (chunks 48 n list) with
      | .inr k => s.finish c.ref k
      | .inl _ => s.configure c (.map list) [.rangeMap (mpNew d) list]

/-- A row in the layout of 15 Table 15.11 with ACTION 0. -/
def rangeBytes (r : RangeRow) : Bytes :=
  zeros 1 ++ toLe 1 r.low.length ++ toLe 2 r.nsid ++ toLe 2 r.owner ++ zeros 10 ++ fit 32 r.low

/-- What QUERY writes (15 R594). -/
def mapRecord (a : Asu) : Bytes := toLe 4 a.epoch ++ toLe 2 a.ranges.length ++ zeros 10 ++ a.ranges.flatMap rangeBytes

/-- QUERY (15 R594). -/
def rangeQuery (w : HostWrite) (c : Cmd) (s : State) : State :=
  s.output c w (mpRkey c.desc) (mpAddr c.desc) (mapRecord s.asu) fun s => s.finish c.ref (Comp.okResult 0)

/-- RANGE_MAP_APPLY (15 R592, R593). -/
def execRangeMapApply (ref : Nat) (r : HostRead) (s : State) : Result :=
  .next (s.inTurn (·.withReady ref (isAdm 0x51 1) (rangeApply r)))

/-- RANGE_MAP_QUERY (15 R594). -/
def execRangeMapQuery (ref : Nat) (w : HostWrite) (s : State) : Result :=
  .next (s.withReady ref (isAdm 0x51 2) (rangeQuery w))

end Sys2Proof.Machine
end

