-- ==== Sys2Proof/Machine/TagOps.lean ====
section
/-! DEFINITION. The shelf tag: RF commands, sessions and bursts, the wired side's turns (19 R685 to R692). Answers have the
ISO/IEC 15693 form: a flags byte, then data or an error code. -/

namespace Sys2Proof.Machine

/-! ### Commands answered at all times (19 R690) -/

/-- TAG_INVENTORY (19 R685, R690): a quiet tag is silent. -/
def execTagInventory (s : State) : Result :=
  .next (if s.tag.rf = .quiet then s else s.emit (.tagAnswer (zeros 2 ++ fit 8 s.ident.tagUid)))

/-- The RF state of the tag changes. -/
def State.tagRf (s : State) (q : TagRf) : State := { s with tag := { s.tag with rf := q } }

/-- TAG_STAY_QUIET (19 R685, R690): no answer. -/
def execTagStayQuiet (uid : Bytes) (s : State) : Result :=
  .next (if uid = fit 8 s.ident.tagUid then s.tagRf .quiet else s)

/-- TAG_SELECT (19 R685, R690): a selected tag that is not named returns to ready. -/
def execTagSelect (uid : Bytes) (s : State) : Result :=
  .next (if uid = fit 8 s.ident.tagUid then (s.tagRf .selected).emit (.tagAnswer (zeros 1))
    else if s.tag.rf = .selected then s.tagRf .ready
    else s)

/-- TAG_RESET_TO_READY (19 R685, R690). -/
def execTagResetToReady (s : State) : Result := .next ((s.tagRf .ready).emit (.tagAnswer (zeros 1)))

/-- TAG_GET_SYSTEM_INFO (19 R685, R690): the UID; the extended form also the memory size, 2,048 blocks of 4 bytes. -/
def execTagGetSystemInfo (extended : Bool) (s : State) : Result :=
  .next (s.emit (.tagAnswer (zeros 1 ++
    (if extended then toLe 1 4 ++ fit 8 s.ident.tagUid ++ toLe 2 2047 ++ toLe 1 3 else zeros 1 ++ fit 8 s.ident.tagUid))))

/-! ### RF memory commands (19 R689 to R691) -/

/-- An error response. -/
def State.tagError (s : State) (code : Nat) : State := s.emit (.tagAnswer (toLe 1 1 ++ toLe 1 code))

/-- An RF read or write command: busy during a wired burst, else it starts or extends the RF session (19 R690, R691). -/
def State.onRf (s : State) (k : State → State) : State :=
  if s.tag.holder = .wired then s.tagError 0xB0 else k { s with tag := { s.tag with holder := .rf } }

/-- TAG_READ_SINGLE_BLOCK (19 R685). -/
def execTagReadSingleBlock (block : Nat) (s : State) : Result :=
  .next (s.onRf fun s =>
    if 2047 < block then s.tagError 0x10 else s.emit (.tagAnswer (zeros 1 ++ s.tagBytes (4 * block) 4)))

/-- TAG_READ_MULTIPLE_BLOCKS (19 R685): at most 64 blocks. -/
def execTagReadMultipleBlocks (block count : Nat) (s : State) : Result :=
  .next (s.onRf fun s =>
    let n := min count 64
    if 2047 < block || 2048 < block + n then s.tagError 0x10
    else s.emit (.tagAnswer (zeros 1 ++ s.tagBytes (4 * block) (4 * n))))

/-- LABEL_CTRL bit 0 (19 R689). -/
def State.rfWrite (s : State) : Bool := bitOf (cellAt s.ident s.tag.mem 0x400).toNat 0

/-- TAG_WRITE_SINGLE_BLOCK (19 R685, R689): label blocks 0x101 to 0x2FF, while RF_WRITE is 1. -/
def execTagWriteSingleBlock (block : Nat) (data : Bytes) (s : State) : Result :=
  .next (s.onRf fun s =>
    if 2047 < block then s.tagError 0x10
    else if 0x101 ≤ block && block ≤ 0x2FF && s.rfWrite then (s.writeTagBlock block data).emit (.tagAnswer (zeros 1))
    else s.tagError 0x12)

/-- TAG_LOCK_BLOCK (19 R685): always refused. -/
def execTagLockBlock (_ : Nat) (s : State) : Result := .next (s.tagError 0x14)

/-- TAG_RF_SESSION_END (19 R690). -/
def execTagRfSessionEnd (s : State) : Result :=
  .next (if s.tag.holder = .rf then { s with tag := { s.tag with holder := .free } } else s)

/-! ### The wired side (19 R691, R692) -/

/-- Writes a list of blocks. -/
def State.writeBlocks (s : State) (ws : List (Nat × Bytes)) : State := ws.foldl (fun s w => s.writeTagBlock w.1 w.2) s

/-- The last block of a label has been written: RSP_STATUS shows DONE (19 R689). -/
def State.labelDone (s : State) : State :=
  if s.tag.todo.isEmpty && s.tag.labelJob then
    { s with tag := { s.tag with labelJob := false }
             usb := { s.usb with result := if s.usb.lastReq = 0x21 then 0 else s.usb.result } }
  else s

/-- A wired burst of at most 16 blocks (19 R691). -/
def State.wiredBurst (s : State) : State :=
  let s1 := s.writeBlocks (s.tag.todo.take 16)
  ({ s1 with tag := { s1.tag with todo := s.tag.todo.drop 16, holder := .wired } }).labelDone

/-- TAG_WIRED_RETRY (19 R690 to R692): the burst in progress ends, or the next one starts; during an RF session the wired
access gets a NAK. -/
def execTagWiredRetry (s : State) : Result :=
  .next (match s.tag.holder with
    | .wired => { s with tag := { s.tag with holder := .free } }
    | .rf => s
    | .free => if s.tag.todo.isEmpty || !s.feeds.mgmtUp then s else s.wiredBurst)

/-- TAG_HEALTH_UPDATE (19 R688): 10 min have passed, or MODE or CAUSES has changed. -/
def execTagHealthUpdate (s : State) : Result :=
  .next (if s.feeds.mgmtUp && s.power.step == 12 && !s.power.shutDone then s.writeHealth else s)

end Sys2Proof.Machine
end

