-- ==== Sys2Proof/Machine/Rsp.lean ====
section
/-! DEFINITION. The USB service port and its protocol (19 R668 to R684, R689; Table 19.1, Table 19.2). -/

namespace Sys2Proof.Machine

/-! ### The port (19 R668, R672) -/

/-- The port in the Default state: address 0, unconfigured (19 R672). -/
def UsbPart.default_ (u : UsbPart) : UsbPart := { u with addr := 0, configured := false }

/-- USB_VBUS_CHANGE (19 R668): the pull-up follows VBUS while the management island runs. -/
def execUsbVbusChange (present : Bool) (s : State) : Result :=
  .next (let up := present && s.feeds.mgmtUp
    let u := if present then s.usb else s.usb.default_
    let s1 : State := { s with usb := { u with vbus := present, pullUp := up } }
    if up != s.usb.pullUp then s1.emit (.usbPullUp up) else s1)

/-- USB_BUS_RESET (19 R672). -/
def execUsbBusReset (s : State) : Result :=
  .next (if s.usb.pullUp then { s with usb := s.usb.default_ } else s)

/-! ### Standard requests (19 R668, R669; USB 2.0 chapter 9) -/

/-- A string descriptor: length, type 3, UTF-16LE. -/
def usbString (t : Bytes) : Bytes := toLe 1 (2 + 2 * t.length) ++ toLe 1 3 ++ t.flatMap fun b => [b, 0]

/-- The device descriptor (19 R668). -/
def State.usbDevice (s : State) : Bytes :=
  toLe 1 18 ++ toLe 1 1 ++ toLe 2 0x0200 ++ toLe 1 0xFF ++ zeros 2 ++ toLe 1 64 ++ toLe 2 0x3D7E ++ toLe 2 0x1500 ++
  toLe 2 (s.imageVersion 0) ++ toLe 1 1 ++ toLe 1 2 ++ toLe 1 3 ++ toLe 1 1

/-- The configuration: self-powered, bMaxPower 0, one vendor-class interface without endpoints (19 R668). -/
def usbConfiguration : Bytes :=
  toLe 1 9 ++ toLe 1 2 ++ toLe 2 18 ++ toLe 1 1 ++ toLe 1 1 ++ zeros 1 ++ toLe 1 0xC0 ++ zeros 1 ++
  toLe 1 9 ++ toLe 1 4 ++ zeros 3 ++ toLe 1 0xFF ++ zeros 3

/-- The device qualifier of a High-Speed device (USB 2.0 chapter 9). -/
def usbQualifier : Bytes := toLe 1 10 ++ toLe 1 6 ++ toLe 2 0x0200 ++ toLe 1 0xFF ++ zeros 2 ++ toLe 1 64 ++ toLe 1 1 ++ zeros 1

/-- A descriptor by its type and index. -/
def State.usbDescriptor (s : State) (kind index : Nat) : Option Bytes := match kind, index with
  | 1, 0 => some s.usbDevice
  | 2, 0 => some usbConfiguration
  | 3, 0 => some (toLe 1 4 ++ toLe 1 3 ++ toLe 2 0x0409)
  | 3, 1 => some (usbString (ascii "Brelvoin Devices"))
  | 3, 2 => some (usbString (ascii "Psinetrum PX1500"))
  | 3, 3 => some (usbString (fit 16 s.ident.serial))
  | 6, 0 => some usbQualifier
  | _, _ => none

/-- Data for the host, at most wLength bytes. -/
def State.usbAnswer (s : State) (len : Nat) (bs : Bytes) : State := s.emit (.usbData (bs.take len))

/-- A standard request by bmRequestType, bRequest, wValue, wIndex and wLength. -/
def State.usbStandard (s : State) (kind req value index len : Nat) : State := match kind, req with
  | 0x00, 0x05 => ({ s with usb := { s.usb with addr := value % 128 } }).emit .usbStatus
  | 0x00, 0x09 => if value ≤ 1 then ({ s with usb := { s.usb with configured := value == 1 } }).emit .usbStatus else s.emit .usbStall
  | 0x80, 0x08 => s.usbAnswer len (toLe 1 (b2n s.usb.configured))
  | 0x80, 0x00 => s.usbAnswer len (toLe 2 1)
  | 0x81, 0x00 => if s.usb.configured && index == 0 then s.usbAnswer len (zeros 2) else s.emit .usbStall
  | 0x82, 0x00 => if index % 128 = 0 then s.usbAnswer len (zeros 2) else s.emit .usbStall
  | 0x81, 0x0A => if s.usb.configured && index == 0 then s.usbAnswer len (zeros 1) else s.emit .usbStall
  | 0x01, 0x0B => if s.usb.configured && index == 0 && value == 0 then s.emit .usbStatus else s.emit .usbStall
  | 0x80, 0x06 => match s.usbDescriptor (value / 256) (value % 256) with
    | some d => s.usbAnswer len d
    | none => s.emit .usbStall
  | _, _ => s.emit .usbStall

/-- Runs a request on the attached port. -/
def State.onUsb (s : State) (k : State → State) : State := if s.pathOpen .usb then k s else s.emit (.mgmtNack .usb)

/-- USB_STANDARD_REQUEST (19 R669): a SETUP packet of 8 bytes. -/
def execUsbStandardRequest (setup : Bytes) (s : State) : Result :=
  .next (s.onUsb fun s =>
    s.usbStandard (byteAt setup 0) (byteAt setup 1) (u16At setup 2) (u16At setup 4) (u16At setup 6))

/-! ### The requests of 19 Table 19.1 -/

/-- A vendor request with its direction and parameters in range (19 R669, Table 19.1). -/
def rspWellFormed (kind req value index len : Nat) : Bool :=
  let words := fun (lo hi : Nat) => aligned value 4 && index == 0 && aligned len 4 && inRange lo hi len
  match kind, req with
  | 0xC0, 0x01 => words 4 256 && decide (value + len ≤ 65536)
  | 0x40, 0x02 => words 4 256 && decide (value + len ≤ 65536)
  | 0x40, 0x10 => decide (index < 4) && inRange 1 4096 len
  | 0x40, 0x11 => value == 0 && index % 256 / 4 == 0 && decide (index < 1024) && (len == 48 || (len == 0 && bitOf index 9))
  | 0x40, 0x12 => value == 0 && decide (index < 4) && len == 0
  | 0x40, 0x13 => value == 0 && index == 0 && len == 0
  | 0xC0, 0x20 => words 4 4096 && decide (value + len ≤ tagSize)
  | 0x40, 0x21 => words 4 2048 && decide (value + len ≤ 2048)
  | 0xC0, 0x30 => value == 0 && index == 0 && len == 16
  | _, _ => false

/-- RSP_UNKNOWN_REQUEST (19 R669): STALL, no effect. -/
def execRspUnknownRequest (setup : Bytes) (s : State) : Result :=
  .next (if rspWellFormed (byteAt setup 0) (byteAt setup 1) (u16At setup 2) (u16At setup 4) (u16At setup 6) then s
    else s.onUsb fun s => s.emit .usbStall)

/-- A host-to-device request: a parameter out of range is stalled; without the ACK of its status stage it has no effect
(19 R669, R670). -/
def State.rspOut (s : State) (ok acked : Bool) (k : State → State) : State :=
  s.onUsb fun s => if !ok then s.emit .usbStall else if acked then k s else s

/-- RESULT of a refusal (19 Table 19.2). -/
def rspRefused : Nat := 2

/-- RSP_IMAGE_BLOCK (19 R674, R675). -/
def execRspImageBlock (blk comp : Nat) (data : Bytes) (acked : Bool) (s : State) : Result :=
  .next (s.rspOut (decide (comp < 4) && inRange 1 4096 data.length && decide (4096 * blk + data.length ≤ maxImage comp)) acked fun s =>
    if !s.ownsBank comp .service then s.usbExecuted 0x10 rspRefused
    else (s.modComp comp fun k => k.put .service (4096 * blk) data).usbExecuted 0x10 0)

/-- The image of a component is applied over the service port (19 R677): Front and moon images in SERVICE alone. -/
def State.rspApply (s : State) (comp : Nat) : State :=
  if comp = 0 then ((s.modComp 0 Component.switch).usbExecuted 0x11 0).mgmtStop
  else if comp = 3 then (s.modComp 3 fun k => { k with atCold := true }).usbExecuted 0x11 0
  else if s.mode.mode = .service then (s.applyLater comp).usbExecuted 0x11 0
  else s.usbExecuted 0x11 rspRefused

/-- A commit over the service port (19 R675 to R678). -/
def State.rspCommit (s : State) (comp : Nat) (apply revert : Bool) (digest : Bytes) : State :=
  if revert && !apply then s.usbExecuted 0x11 0
  else if !s.ownsBank comp .service then s.usbExecuted 0x11 rspRefused
  else if revert then
    match s.revertFailure comp with
    | some f => s.usbExecuted 0x11 f.code
    | none => s.rspApply comp
  else match s.commitImage comp .service digest with
    | (s1, .inl f) => s1.usbExecuted 0x11 f.code
    | (s1, .inr _) => if apply then s1.rspApply comp else s1.usbExecuted 0x11 0

/-- RSP_IMAGE_COMMIT (19 R676). -/
def execRspImageCommit (comp : Nat) (apply revert : Bool) (digest : Bytes) (acked : Bool) (s : State) : Result :=
  .next (s.rspOut (decide (comp < 4) && (digest.length == 48 || (digest.length == 0 && revert))) acked fun s =>
    s.rspCommit comp apply revert digest)

/-- RSP_IMAGE_DISCARD (19 R675). -/
def execRspImageDiscard (comp : Nat) (acked : Bool) (s : State) : Result :=
  .next (s.rspOut (decide (comp < 4)) acked fun s =>
    if !s.ownsBank comp .service then s.usbExecuted 0x12 rspRefused
    else (s.modComp comp (·.empty)).usbExecuted 0x12 0)

/-- RSP_MIGRATE_CONFIRM (19 R684). -/
def execRspMigrateConfirm (acked : Bool) (s : State) : Result :=
  .next (s.rspOut true acked fun s => s.migrateConfirm.usbExecuted 0x13 0)

/-- RSP_TAG_READ (19 R671, R689): STALL and TAG_BUSY while an RF session holds the tag. -/
def execRspTagRead (offset len : Nat) (s : State) : Result :=
  .next (s.onUsb fun s =>
    if !rspWellFormed 0xC0 0x20 offset 0 len then s.emit .usbStall
    else if s.tag.holder = .rf then ({ s with usb := { s.usb with result := 3 } }).emit .usbStall
    else s.emit (.usbData (s.tagBytes offset len)))

/-- The bytes of a label write: the reserved bits of LABEL_CTRL stay 0 (00 R14, 19 Table 19.7). -/
def labelBytes (offset : Nat) (data : Bytes) : Bytes :=
  if offset = 0 then toLe 4 (byteAt data 0 % 2) ++ data.drop 4 else data

/-- RSP_TAG_LABEL_WRITE (19 R689): IN_PROGRESS until the last block is written. -/
def execRspTagLabelWrite (offset : Nat) (data : Bytes) (acked : Bool) (s : State) : Result :=
  .next (s.rspOut (rspWellFormed 0x40 0x21 offset 0 data.length) acked fun s =>
    let s1 := s.queueTag (0x400 + offset) (labelBytes offset data)
    ({ s1 with tag := { s1.tag with labelJob := true } }).usbExecuted 0x21 1)

/-- BANK_STATE (19 Table 19.2). -/
def bankCode : BankState → Nat
  | .empty => 0 | .receiving => 1 | .verified => 2

/-- The RSP status record (19 Table 19.2). -/
def State.rspRecord (s : State) : Bytes :=
  toLe 4 s.usb.reqSeq ++ toLe 1 s.usb.lastReq ++ toLe 1 s.usb.result ++ zeros 2 ++
  (List.range 4).flatMap (fun c => toLe 1 (bankCode (s.comp c).stage)) ++ zeros 4

/-- RSP_STATUS (19 R671, R672). -/
def execRspStatus (s : State) : Result := .next (s.onUsb fun s => s.emit (.usbData s.rspRecord))

end Sys2Proof.Machine
end

