-- ==== Sys2Proof/Machine/RuleAdm.lean ====
section
/-! DEFINITION. Access rules (13 R504 to R506, R508). -/

namespace Sys2Proof.Machine

/-! ### Parameters (13 Table 13.6) -/

def upCred (d : Bytes) : Nat := u32At d 12
def upLen (d : Bytes) : Nat := bitsOf (byteAt d 32) 0 5
def upNsAny (d : Bytes) : Bool := bitOf (byteAt d 32) 5
def upRoles (d : Bytes) : Nat := bitsOf (byteAt d 33) 0 3
def upOps (d : Bytes) : Nat := byteAt d 34
def upRow (d : Bytes) : Nat := bitsOf (u16At d 38) 0 12
def upKey (d : Bytes) : Bytes := slice d 16 (upLen d)

/-- The row an ADD describes (10 Table 10.5). -/
def ruleOf (d : Bytes) : Rule :=
  { idx := 0, pre := upKey d, nsid := dNsid d, nsAny := upNsAny d, cred := upCred d, credAny := bitOf (byteAt d 32) 6,
    roles := upRoles d, ops := upOps d, priority := bitsOf (u16At d 36) 0 12, allow := bitOf (byteAt d 32) 7 }

/-- ADM_RULE ADD: PREFIX_LEN, existence, the Curator's limits, room (13 R504, R505, R508). -/
def ruleAdd (c : Cmd) (s : State) : State :=
  let d := c.desc
  if 16 < upLen d then s.finish c.ref (Comp.denied 7)
  else if !upNsAny d && !s.nsExists (dNsid d) then s.finish c.ref (Comp.denied 8)
  else if !s.isCustodian c && (upNsAny d || bitOf (upRoles d) 0 || !s.mayAdminister c (dNsid d)) then
    s.finish c.ref (Comp.denied 4)
  else if 4096 ≤ s.asu.rules.length then s.finish c.ref (Comp.plain .noSpace)
  else
    let idx := freeRule s.asu.rules
    s.configured c (Comp.okResult idx) [(ruleOf d).change]

/-- ADM_RULE REMOVE (13 R505, R508). -/
def ruleRemove (c : Cmd) (s : State) : State :=
  match s.asu.rules.find? (·.idx == upRow c.desc) with
  | none => s.finish c.ref (Comp.denied 7)
  | some r =>
    if !s.isCustodian c && (bitOf r.roles 0 || r.nsAny || !s.mayAdminister c r.nsid) then s.finish c.ref (Comp.denied 4)
    else s.configured c (Comp.okResult 0) [.ruleGone r.idx]

/-- The bit number of a field with exactly one bit set, below `w`. -/
def oneBit (w n : Nat) : Option Nat := (List.range w).find? fun i => n == 2 ^ i

/-- The record EVALUATE writes (13 R506). -/
def ruleRecord (rows : List Rule) : Bytes :=
  let winner := rows.head?
  toLe 2 rows.length ++ toLe 2 ((winner.map (·.idx)).getD 0xFFFF) ++
    toLe 1 (b2n (decide (2 ≤ rows.length)) + 2 * b2n ((winner.map (·.allow)).getD false)) ++ zeros 3 ++
    rows.flatMap fun r => toLe 2 r.idx

/-- ADM_RULE EVALUATE (13 R504, R506, R508). -/
def ruleEvaluate (w : HostWrite) (c : Cmd) (s : State) : State :=
  let d := c.desc
  match oneBit 3 (upRoles d), oneBit 8 (upOps d) with
  | some role, some ops =>
    if 16 < upLen d then s.finish c.ref (Comp.denied 7)
    else if !s.nsExists (dNsid d) then s.finish c.ref (Comp.denied 8)
    else if !s.mayAdminister c (dNsid d) then s.finish c.ref (Comp.denied 4)
    else
      let rows := matching s.asu.rules (dNsid d) (role + 1) (upCred d) ops (upKey d)
      s.output c w (u32At d 48) (u64At d 40) (ruleRecord rows) fun s => s.finish c.ref (Comp.okResult 0)
  | _, _ => s.finish c.ref (Comp.denied 7)

/-- RULE_ADD (13 R505). -/
def execRuleAdd (ref : Nat) (s : State) : Result := .next (s.inTurn (·.withReady ref (isAdm 0x4D 1) ruleAdd))

/-- RULE_REMOVE (13 R505). -/
def execRuleRemove (ref : Nat) (s : State) : Result := .next (s.inTurn (·.withReady ref (isAdm 0x4D 2) ruleRemove))

/-- RULE_EVALUATE (13 R506). -/
def execRuleEvaluate (ref : Nat) (w : HostWrite) (s : State) : Result :=
  .next (s.withReady ref (isAdm 0x4D 3) (ruleEvaluate w))

end Sys2Proof.Machine
end

