-- ==== Sys2Proof/Machine/Sideband.lean ====
section
/-! DEFINITION. Shorted sideband pins and contention on PAIR_ALIVE_OUT (20 R715, R716, Table 20.12; 21 Table 21.7), and the lights of
the front panel (21 R726). -/

namespace Sys2Proof.Machine

/-- Ground and RSVD pins are never reported (21 R725). -/
def signalPin (pin : Nat) : Bool := decide (pin ∈ [2, 4, 6, 7, 9, 10, 11, 12, 13, 14, 16, 18, 20])

/-- What a short does to its signal (20 Table 20.12): PAIR_ALIVE_OUT floats, PAIR_ALIVE_IN gives no edges, PPS_IN is lost. -/
def State.shortEffect (s : State) (pin : Nat) : State :=
  if pin = pinAliveOut then s.emit (.aliveDrive false)
  else if pin = pinAliveIn then ({ s with pair := { s.pair with aliveIn := false } }).checkPartner
  else if pin = pinPps && (s.settings.timeSource = 2 || s.settings.timeSource = 3) then s.holdOver
  else s

/-- SIDEBAND_SHORT_DETECT (20 R715). -/
def execSidebandShortDetect (pin : Nat) (s : State) : Result :=
  .next (if !signalPin pin || s.shorted pin then s
    else
      let s1 : State := { s with pins := { s.pins with short := s.pins.short ||| (1#24 <<< (pin - 1)) } }
      (s1.raise cSideband 0x0607 0xFF 0 [(0, toLe 1 pin ++ toLe 1 0)]).shortEffect pin)

/-- SIDEBAND_SHORT_CLEAR (20 R715). -/
def execSidebandShortClear (pin : Nat) (s : State) : Result :=
  .next (if !s.shorted pin then s
    else
      let s1 : State := { s with pins := { s.pins with short := s.pins.short &&& ~~~(1#24 <<< (pin - 1)) } }
      if pin = pinAliveOut && !s.pins.contention then s1.emit (.aliveDrive true) else s1)

/-- ALIVE_CONTENTION_DETECT (20 R716). -/
def execAliveContentionDetect (s : State) : Result :=
  .next (if !s.drivesAlive then s
    else
      let s1 : State := { s with pins := { s.pins with contention := true } }
      (s1.emit (.aliveDrive false)).raise cSideband 0x0607 0xFF 0 [(0, toLe 1 pinAliveOut ++ toLe 1 1)])

/-- ALIVE_CONTENTION_TEST (20 R716): a drive of 20 µs; without contention it resumes. -/
def execAliveContentionTest (contended : Bool) (s : State) : Result :=
  .next (if !s.pins.contention || s.shorted pinAliveOut then s
    else
      let s1 := s.emit (.aliveDrive true)
      if contended then s1.emit (.aliveDrive false) else { s1 with pins := { s1.pins with contention := false } })

/-- What a light of the front panel shows (21 Table 21.8). -/
inductive Light where
  | off | amber | amberBlink | green | greenBlink | red | blue
  deriving DecidableEq, Repr

/-- The module runs from its bank: power loss is declared (07 R308). -/
def State.onBank (s : State) : Bool := s.feeds.loss == .deciding || s.feeds.loss == .flushing || s.feeds.loss == .gasped

/-- The POWER light: the first row of Table 21.8 that holds, and off while the management island is down (21 R726). -/
def State.powerLight (s : State) : Light :=
  if !s.feeds.mgmtUp then .off
  else if s.onBank || s.startStep = 15 then .amber
  else if decide (2 ≤ s.startStep ∧ s.startStep ≤ 11) then .amberBlink
  else if s.startStep = 12 then (if s.power.pstate == .p2 || s.power.pstate == .p3 then .greenBlink else .green)
  else .off

/-- The ATTENTION light: red for FATAL, else amber with ATTN# in hardware (21 R726). -/
def State.attentionLight (s : State) : Light :=
  if s.attn.causes.getLsbD cFatal then .red
  else if s.attnAsserted && (s.feeds.bulkUp || s.feeds.mgmtUp) then .amber
  else .off

/-- The SAFE light: blue at START_STEP 0xF while the management island is up (21 R726). -/
def State.safeLight (s : State) : Light := if s.feeds.mgmtUp && s.startStep = 15 then .blue else .off

end Sys2Proof.Machine
end

