-- ==== Sys2Proof/Machine/Spdm.lean ====
section
/-! DEFINITION. I3C address assignment (18 R652) and the SPDM 1.2 responder over MCTP (14 R551, R552). The message layouts
are those of DMTF DSP0274 1.2 (notes/assumptions/34.md). -/

namespace Sys2Proof.Machine

/-- I3C_ENTDAA (18 R652): a target without an address takes the one assigned; its Provisioned ID carries SLOT_ID. -/
def execI3cEntdaa (addr : Nat) (s : State) : Result :=
  .next (if !s.feeds.mgmtUp || s.startStep < 2 then s.emit (.mgmtNack .i3c)
    else if s.usb.i3cAddr.isSome then s
    else ({ s with usb := { s.usb with i3cAddr := some (addr % 128) } }).emit
        (.i3cAddress (addr % 128) (Config.provisioned.toNat * 64 + s.ident.slotId) 0 0))

/-! ### Messages -/

/-- An SPDM message: version, code, two parameters, body. -/
def spdmMsg (ver code p1 p2 : Nat) (body : Bytes) : Bytes := toLe 1 ver ++ toLe 1 code ++ toLe 1 p1 ++ toLe 1 p2 ++ body

/-- Puts out a response of which the first 4 bytes are its header. -/
def State.spdmSend (s : State) (m : Bytes) : State := s.emit (.spdm (byteAt m 1) m)

/-- ERROR with a code of the standard: 0x01 InvalidRequest, 0x04 UnexpectedRequest, 0x07 UnsupportedRequest. -/
def State.spdmError (s : State) (code data : Nat) : State := s.spdmSend (spdmMsg 0x12 0x7F code data [])

/-- Runs a request on the I3C path (14 R551, 18 R653). -/
def State.onSpdm (s : State) (k : State → State) : State :=
  if s.pathOpen .i3c then k s else s.emit (.mgmtNack .i3c)

/-- Adds a request and its response to the transcript. -/
def UsbPart.heard (u : UsbPart) (m : Bytes) : UsbPart := { u with transcript := u.transcript ++ m }

/-- Answers with a message that joins the transcript; `mark` notes how far the negotiation has come. -/
def State.spdmAnswer (s : State) (req m : Bytes) (mark : UsbPart → UsbPart) : State :=
  ({ s with usb := mark (s.usb.heard (req ++ m)) }).spdmSend m

/-- Runs a request that needs the negotiation to have ended (DSP0274 connection model). -/
def State.onNegotiated (s : State) (k : State → State) : State :=
  s.onSpdm fun s => if s.usb.spdmAlgs then k s else s.spdmError 0x04 0

/-- SPDM_GET_VERSION (14 R551): version 1.2; the negotiation starts again. -/
def execSpdmGetVersion (s : State) : Result :=
  .next (s.onSpdm fun s =>
    let s1 : State := { s with usb := { s.usb with spdmVer := true, spdmCaps := false, spdmAlgs := false, transcript := [] } }
    s1.spdmAnswer (spdmMsg 0x10 0x84 0 0 []) (spdmMsg 0x10 0x04 0 0 (toLe 1 0 ++ toLe 1 1 ++ toLe 2 0x1200)) id)

/-- CERT_CAP, CHAL_CAP and MEAS_CAP with signatures (14 R551). -/
def spdmFlags : Nat := 0x02 + 0x04 + 0x10

/-- SPDM_GET_CAPABILITIES (14 R551). -/
def execSpdmGetCapabilities (s : State) : Result :=
  .next (s.onSpdm fun s =>
    if !s.usb.spdmVer then s.spdmError 0x04 0
    else
      let body := zeros 1 ++ toLe 1 Config.spdmTimeout.toNat ++ zeros 2 ++ toLe 4 spdmFlags ++ toLe 4 Config.spdmTransfer.toNat ++
        toLe 4 Config.spdmMessage.toNat
      s.spdmAnswer (spdmMsg 0x12 0xE1 0 0 []) (spdmMsg 0x12 0x61 0 0 body) fun u => { u with spdmCaps := true })

/-- SPDM_NEGOTIATE_ALGORITHMS (14 R551): ECDSA with P-384, SHA-384 for hashes and measurements. -/
def execSpdmNegotiateAlgorithms (s : State) : Result :=
  .next (s.onSpdm fun s =>
    if !s.usb.spdmCaps then s.spdmError 0x04 0
    else
      let body := toLe 2 36 ++ toLe 1 1 ++ zeros 1 ++ toLe 4 4 ++ toLe 4 0x80 ++ toLe 4 2 ++ zeros 16
      s.spdmAnswer (spdmMsg 0x12 0xE3 0 0 []) (spdmMsg 0x12 0x63 0 0 body) fun u => { u with spdmAlgs := true })

/-- The certificate chain of slot 0 in the SPDM format: length, the root's hash, then the certificates from the
intermediate on (14 R551, Table 14.8). -/
def spdmChain : Bytes :=
  let certs := Config.caCert ++ Config.deviceCert
  toLe 2 (52 + certs.length) ++ zeros 2 ++ toBe 48 Config.rootDigest.toNat ++ certs

/-- SPDM_GET_DIGESTS (14 R551): slot 0 alone is populated. -/
def execSpdmGetDigests (s : State) : Result :=
  .next (s.onNegotiated fun s =>
    s.spdmAnswer (spdmMsg 0x12 0x81 0 0 []) (spdmMsg 0x12 0x01 0 1 (sha384 spdmChain)) id)

/-- SPDM_GET_CERTIFICATE (14 R551). -/
def execSpdmGetCertificate (slot offset length : Nat) (s : State) : Result :=
  .next (s.onNegotiated fun s =>
    if slot ≠ 0 || spdmChain.length ≤ offset then s.spdmError 0x01 0
    else
      let part := slice spdmChain offset length
      let body := toLe 2 part.length ++ toLe 2 (spdmChain.length - offset - part.length) ++ part
      s.spdmAnswer (spdmMsg 0x12 0x82 slot 0 (toLe 2 offset ++ toLe 2 length)) (spdmMsg 0x12 0x02 slot 0 body) id)

/-- A response signed over the transcript, the request and its own bytes (14 R550); the transcript starts again. -/
def State.spdmSigned (s : State) (req m : Bytes) : State :=
  let sig := toBe 96 (Config.signature s.fresh (s.usb.transcript ++ req ++ m)).toNat
  ({ s.draw with usb := { s.usb with transcript := [] } }).spdmSend (m ++ sig)

/-- The responder's 32-byte nonce. -/
def State.spdmNonce (s : State) : Bytes := toLe 32 (Config.nonce s.fresh).toNat

/-- SPDM_CHALLENGE (14 R551): CHALLENGE_AUTH, signed. -/
def execSpdmChallenge (slot : Nat) (nonce : Bytes) (s : State) : Result :=
  .next (s.onNegotiated fun s =>
    if slot ≠ 0 then s.spdmError 0x01 0
    else
      let body := sha384 spdmChain ++ s.spdmNonce ++ toLe 2 0
      s.draw.spdmSigned (spdmMsg 0x12 0x83 slot 0 (fit 32 nonce)) (spdmMsg 0x12 0x03 0 1 body))

/-- A measurement block of the standard around one of 14 Table 14.9: DMTF specification, a digest of 48 bytes. Blocks 1 to 3
are firmware, 4 and 5 firmware configuration, 6 hardware configuration. -/
def State.spdmBlock (s : State) (i : Nat) : Bytes :=
  let kind := if i ≤ 3 then 1 else if i ≤ 5 then 3 else 2
  toLe 1 i ++ toLe 1 1 ++ toLe 2 51 ++ toLe 1 kind ++ toLe 2 48 ++ s.measurement i

/-- The blocks that an index asks for: none for 0, all for 0xFF (14 R552). -/
def spdmBlocks (index : Nat) : List Nat := if index = 0 then [] else if index = 0xFF then [1, 2, 3, 4, 5, 6] else [index]

/-- SPDM_GET_MEASUREMENTS (14 R551, R552). -/
def execSpdmGetMeasurements (index : Nat) (signed : Bool) (nonce : Bytes) (s : State) : Result :=
  .next (s.onNegotiated fun s =>
    if 6 < index && index != 0xFF then s.spdmError 0x01 0
    else
      let blocks := (spdmBlocks index).flatMap s.spdmBlock
      let head := toLe 1 (spdmBlocks index).length ++ toLe 3 blocks.length ++ blocks ++ s.spdmNonce ++ toLe 2 0
      let req := spdmMsg 0x12 0xE0 (b2n signed) index (if signed then fit 32 nonce ++ zeros 1 else [])
      let m := spdmMsg 0x12 0x60 (if index = 0 then 6 else 0) 0 head
      if signed then s.draw.spdmSigned req m else s.draw.spdmAnswer req m id)

/-- The requests that the responder supports (14 R551), by their codes. -/
def spdmSupported (code : Nat) : Bool := decide (code ∈ [0x84, 0xE1, 0xE3, 0x81, 0x82, 0x83, 0xE0])

/-- SPDM_UNSUPPORTED_REQUEST (14 R551). -/
def execSpdmUnsupportedRequest (code : Nat) (s : State) : Result :=
  .next (if spdmSupported code then s else s.onSpdm fun s => s.spdmError 0x07 (code % 256))

end Sys2Proof.Machine
end

