-- ==== Sys2Proof/Machine/TimeEv.lean ====
section
/-! DEFINITION. PTP and PPS_IN (17 R641 to R645; 01 R29 to R31). OFFSET is the module's time less the source's. -/

namespace Sys2Proof.Machine

/-- Nanoseconds in a second. -/
def second : Nat := 1000000000

/-- A source is in use. -/
def State.usesPtp (s : State) : Bool := s.settings.timeSource == 1 || s.settings.timeSource == 3
def State.usesPps (s : State) : Bool := s.settings.timeSource == 2 || s.settings.timeSource == 3

/-- The selected source disciplines the time island: PTP locked; PPS_IN accepted with the time of day set (17 R642, R645);
for source 3 with PTP locked as well. -/
def State.qualifies (s : State) : Bool :=
  if s.settings.timeSource = 1 then s.time.ptpLocked
  else if s.settings.timeSource = 2 then s.time.ppsOk && s.time.todSet
  else s.settings.timeSource == 3 && s.time.ppsOk && s.time.todSet

/-- Discipline begins or resumes when the source qualifies (01 R30; 09 R376; 16 Table 16.4). -/
def State.discipline (s : State) : State :=
  if s.time.disciplined || !s.qualifies then s
  else State.applyShelf (State.setWarning { s with time := { s.time with disciplined := true, holdover := false } } 7 false)

/-- Module time is set forward; in P0 to P3 it never steps backwards (01 R30). -/
def State.setTime (s : State) (t : Int) : State :=
  { s with time := { s.time with now := max s.time.now t.toNat, todSet := true } }

/-- The nearest whole second to an offset, in nanoseconds. -/
def wholeSeconds (i : Int) : Int := (i + 500000000) / 1000000000 * 1000000000

/-- The first offset since the cold start sets the time of day: for source 3 by whole seconds (17 R645). -/
def State.firstTime (s : State) (offset : Int) : State :=
  if s.time.todSet then s
  else s.setTime ((s.time.now : Int) - (if s.settings.timeSource = 3 then wholeSeconds offset else offset))

/-- The logical port on which PTP messages count: the source port, or its twin while it carries its addresses (17 R641,
R643). -/
def State.ptpSource (s : State) : Nat :=
  let l := s.settings.ptpPort
  if (s.logical l).away then twinOf l else l

/-- Once the time of day is set, the module's time is slewed toward its source by at most 10 µs per second, `ns` being the
most for the time since the last correction; it never steps backwards (01 R30). -/
def State.slew (s : State) (offset : Int) (ns : Nat) : State :=
  { s with time := { s.time with now := max s.time.now ((s.time.now : Int) - max (-(ns : Int)) (min (ns : Int) offset)).toNat } }

/-- The most that one Sync interval of 2^`k` s may slew (01 R30). -/
def slewLimit (k : Int) : Nat := if 0 ≤ k then 10000 * 2 ^ k.toNat else 10000 / 2 ^ (-k).toNat

/-- A Sync within its interval range (17 Table 17.7, R642): sixteen good ones in a row lock. -/
def State.synced (s : State) (offset interval : Int) : State :=
  let s1 := if s.time.todSet then (if s.settings.timeSource = 1 then s.slew offset (slewLimit interval) else s)
    else s.firstTime offset
  let n := if -100 ≤ offset && offset ≤ 100 then min 16 (s1.time.goodSyncs + 1) else 0
  State.discipline { s1 with time := { s1.time with offset := offset, goodSyncs := n, ptpLocked := s1.time.ptpLocked || n == 16 } }

/-- PTP_DOMAIN of the port that is the PTP source (18 Table 18.18). -/
def State.ptpDomain (s : State) : Nat := bitsOf (byteAt (s.logical s.settings.ptpPort).live 0x3C) 0 7

/-- A PTP message is counted and ignored (17 R641, Table 17.7). -/
def State.ptpIgnore (s : State) : State := { s with time := { s.time with ptpIgnored := s.time.ptpIgnored + 1 } }

/-- PTP_MESSAGE (17 R641, R642, Table 17.7). -/
def execPtpMessage (lport : Nat) (m : PtpMsg) (s : State) : Result :=
  .next (if !s.powered || !s.time.up || !s.usesPtp then s
    else if lport ≠ s.ptpSource then s.ptpIgnore
    else if m.domain ≠ s.ptpDomain then s
    else match m.body with
    | .sync offset interval => if -7 ≤ interval && interval ≤ 1 then s.synced offset interval else s
    | .delayResp offset => { s with time := { s.time with offset := offset } }
    | .pdelay => s.ptpIgnore
    | .announce => s)

/-- PTP_TIMEOUT (17 R642): no Announce or no Sync for three intervals. -/
def execPtpTimeout (s : State) : Result := .next (if s.time.up && s.usesPtp then s.losePtp else s)

/-- An accepted edge starts a second: seconds written before take effect (17 R644, R645). -/
def State.edge (s : State) (offset : Int) : State :=
  let s1 : State := { s with time := { s.time with ppsOk := true, offset := offset } }
  match s1.settings.timeSource == 2, s1.time.ppsSeconds with
  | true, some n => State.discipline (State.setTime { s1 with time := { s1.time with ppsSeconds := none } } ((n * second : Nat) : Int))
  | _, _ => (if s1.time.todSet then s1.slew offset 10000 else s1).discipline

/-- PPS_EDGE (17 R644, R645; 20 Table 20.12): pulses shorter than 100 ns are ignored; once accepted, an edge more than 10 µs off
is ignored and counted. -/
def execPpsEdge (offsetNs : Int) (pulseNs : Nat) (s : State) : Result :=
  .next (if !s.time.up || !s.usesPps || pulseNs < 100 || s.shorted pinPps then s
    else if s.time.ppsOk && (offsetNs < -10000 || 10000 < offsetNs) then
      { s with time := { s.time with ppsRejected := s.time.ppsRejected + 1 } }
    else s.edge offsetNs)

/-- PPS_LOSS (17 R644): three expected edges in a row are missing. -/
def execPpsLoss (s : State) : Result := .next (if s.time.up && s.usesPps && s.time.ppsOk then s.holdOver else s)

end Sys2Proof.Machine
end

