-- ==== Sys2Proof/Machine/Dispatch.lean ====
section
/-! DEFINITION. The dispatch: one arm per constructor of Instr, each a direct call of its meaning. -/

namespace Sys2Proof.Machine

open Sys2Proof

def exec (i : Instr) (s : State) : Host.Outcome State Fault Refusal :=
  match i with
  | .kvGet ref => Sys2Proof.Machine.execKvGet ref s
  | .kvPut ref => Sys2Proof.Machine.execKvPut ref s
  | .kvDelete ref => Sys2Proof.Machine.execKvDelete ref s
  | .kvCas ref => Sys2Proof.Machine.execKvCas ref s
  | .kvHead ref w => Sys2Proof.Machine.execKvHead ref w s
  | .kvBatch ref => Sys2Proof.Machine.execKvBatch ref s
  | .kvObjBegin ref => Sys2Proof.Machine.execKvObjBegin ref s
  | .kvObjAppend ref => Sys2Proof.Machine.execKvObjAppend ref s
  | .kvObjSeal ref => Sys2Proof.Machine.execKvObjSeal ref s
  | .kvDeleteRange ref => Sys2Proof.Machine.execKvDeleteRange ref s
  | .unknownOpcode ref => Sys2Proof.Machine.execUnknownOpcode ref s
  | .cometScan ref => Sys2Proof.Machine.execCometScan ref s
  | .cometSearch ref => Sys2Proof.Machine.execCometSearch ref s
  | .cometFixityAudit ref => Sys2Proof.Machine.execCometFixityAudit ref s
  | .cometShortSelfTest ref => Sys2Proof.Machine.execCometShortSelfTest ref s
  | .cometExtendedSelfTest ref => Sys2Proof.Machine.execCometExtendedSelfTest ref s
  | .cometNamespaceExport ref => Sys2Proof.Machine.execCometNamespaceExport ref s
  | .admLoginBegin ref w => Sys2Proof.Machine.execAdmLoginBegin ref w s
  | .admLoginProve ref => Sys2Proof.Machine.execAdmLoginProve ref s
  | .admRingCreate ref => Sys2Proof.Machine.execAdmRingCreate ref s
  | .admRingDestroy ref => Sys2Proof.Machine.execAdmRingDestroy ref s
  | .admRingReset x => Sys2Proof.Machine.execAdmRingReset x s
  | .admRingStart ref => Sys2Proof.Machine.execAdmRingStart ref s
  | .admRingResize ref => Sys2Proof.Machine.execAdmRingResize ref s
  | .admRingQuery ref w => Sys2Proof.Machine.execAdmRingQuery ref w s
  | .admNsCreate ref => Sys2Proof.Machine.execAdmNsCreate ref s
  | .admNsSet ref => Sys2Proof.Machine.execAdmNsSet ref s
  | .admNsDelete ref => Sys2Proof.Machine.execAdmNsDelete ref s
  | .admNsQuery ref w => Sys2Proof.Machine.execAdmNsQuery ref w s
  | .credentialCreate ref r => Sys2Proof.Machine.execCredentialCreate ref r s
  | .credentialSetSecret ref r => Sys2Proof.Machine.execCredentialSetSecret ref r s
  | .credentialGrant ref => Sys2Proof.Machine.execCredentialGrant ref s
  | .credentialRevoke ref => Sys2Proof.Machine.execCredentialRevoke ref s
  | .credentialDelete ref => Sys2Proof.Machine.execCredentialDelete ref s
  | .credentialOutboundSet ref r => Sys2Proof.Machine.execCredentialOutboundSet ref r s
  | .credentialOutboundDelete ref => Sys2Proof.Machine.execCredentialOutboundDelete ref s
  | .ruleAdd ref => Sys2Proof.Machine.execRuleAdd ref s
  | .ruleRemove ref => Sys2Proof.Machine.execRuleRemove ref s
  | .ruleEvaluate ref w => Sys2Proof.Machine.execRuleEvaluate ref w s
  | .keyslotImport ref r => Sys2Proof.Machine.execKeyslotImport ref r s
  | .keyslotErase ref => Sys2Proof.Machine.execKeyslotErase ref s
  | .keyslotSetLimit ref => Sys2Proof.Machine.execKeyslotSetLimit ref s
  | .keyslotQuery ref w => Sys2Proof.Machine.execKeyslotQuery ref w s
  | .admProgramLoad ref => Sys2Proof.Machine.execAdmProgramLoad ref s
  | .programUnload ref => Sys2Proof.Machine.execProgramUnload ref s
  | .programLoadTurn slot r => Sys2Proof.Machine.execProgramLoadTurn slot r s
  | .pairForm ref partner read cas => Sys2Proof.Machine.execPairForm ref partner read cas s
  | .pairJoin ref => Sys2Proof.Machine.execPairJoin ref s
  | .pairSwap ref cas => Sys2Proof.Machine.execPairSwap ref cas s
  | .pairDissolve ref => Sys2Proof.Machine.execPairDissolve ref s
  | .pairDissolveForce ref => Sys2Proof.Machine.execPairDissolveForce ref s
  | .pairSetWitness ref cas => Sys2Proof.Machine.execPairSetWitness ref cas s
  | .pairQuery ref w => Sys2Proof.Machine.execPairQuery ref w s
  | .rangeMapApply ref r => Sys2Proof.Machine.execRangeMapApply ref r s
  | .rangeMapQuery ref w => Sys2Proof.Machine.execRangeMapQuery ref w s
  | .admImageBlock ref r => Sys2Proof.Machine.execAdmImageBlock ref r s
  | .admImageCommit ref => Sys2Proof.Machine.execAdmImageCommit ref s
  | .imageCommitApply ref => Sys2Proof.Machine.execImageCommitApply ref s
  | .imageCommitRevert ref => Sys2Proof.Machine.execImageCommitRevert ref s
  | .applyWarmStart => Sys2Proof.Machine.execApplyWarmStart s
  | .admMigrateConfirm ref => Sys2Proof.Machine.execAdmMigrateConfirm ref s
  | .modeCommissionComplete ref => Sys2Proof.Machine.execModeCommissionComplete ref s
  | .modeServiceEnter ref => Sys2Proof.Machine.execModeServiceEnter ref s
  | .modeServiceExit ref => Sys2Proof.Machine.execModeServiceExit ref s
  | .modeArchivalLockSet ref => Sys2Proof.Machine.execModeArchivalLockSet ref s
  | .modeArchivalLockClear ref => Sys2Proof.Machine.execModeArchivalLockClear ref s
  | .powerP0 ref => Sys2Proof.Machine.execPowerP0 ref s
  | .powerP1 ref => Sys2Proof.Machine.execPowerP1 ref s
  | .powerP2 ref => Sys2Proof.Machine.execPowerP2 ref s
  | .powerP3 ref => Sys2Proof.Machine.execPowerP3 ref s
  | .powerShutdown ref => Sys2Proof.Machine.execPowerShutdown ref s
  | .powerWarmRestart ref => Sys2Proof.Machine.execPowerWarmRestart ref s
  | .admFormat ref => Sys2Proof.Machine.execAdmFormat ref s
  | .admAttest ref w => Sys2Proof.Machine.execAdmAttest ref w s
  | .healthRead ref w => Sys2Proof.Machine.execHealthRead ref w s
  | .healthAck ref => Sys2Proof.Machine.execHealthAck ref s
  | .admLogRead ref w => Sys2Proof.Machine.execAdmLogRead ref w s
  | .ctrlP0 p => Sys2Proof.Machine.execCtrlP0 p s
  | .ctrlP1 p => Sys2Proof.Machine.execCtrlP1 p s
  | .ctrlP2 p => Sys2Proof.Machine.execCtrlP2 p s
  | .ctrlP3 p => Sys2Proof.Machine.execCtrlP3 p s
  | .ctrlShutdown p => Sys2Proof.Machine.execCtrlShutdown p s
  | .ctrlWarmRestart p => Sys2Proof.Machine.execCtrlWarmRestart p s
  | .ctrlColdRestart p => Sys2Proof.Machine.execCtrlColdRestart p s
  | .ctrlServiceEnter p => Sys2Proof.Machine.execCtrlServiceEnter p s
  | .ctrlServiceExit p => Sys2Proof.Machine.execCtrlServiceExit p s
  | .ctrlCommissionComplete p => Sys2Proof.Machine.execCtrlCommissionComplete p s
  | .ctrlArchivalLockSet p => Sys2Proof.Machine.execCtrlArchivalLockSet p s
  | .ctrlArchivalLockClear p => Sys2Proof.Machine.execCtrlArchivalLockClear p s
  | .ctrlEfuseClear p arg => Sys2Proof.Machine.execCtrlEfuseClear p arg s
  | .ctrlUnknown p code => Sys2Proof.Machine.execCtrlUnknown p code s
  | .registerWrite p offset words => Sys2Proof.Machine.execRegisterWrite p offset words s
  | .stagedFieldWrite p offset w => Sys2Proof.Machine.execStagedFieldWrite p offset w s
  | .portConfigApply p port expectSeq => Sys2Proof.Machine.execPortConfigApply p port expectSeq s
  | .addressApply p lport expectSeq => Sys2Proof.Machine.execAddressApply p lport expectSeq s
  | .bootstrapApply p expectSeq => Sys2Proof.Machine.execBootstrapApply p expectSeq s
  | .stageDiscard p g => Sys2Proof.Machine.execStageDiscard p g s
  | .attnAck p mask => Sys2Proof.Machine.execAttnAck p mask s
  | .counterSnap p link => Sys2Proof.Machine.execCounterSnap p link s
  | .ppsSecondsWrite p seconds => Sys2Proof.Machine.execPpsSecondsWrite p seconds s
  | .timeSourceWrite p source port => Sys2Proof.Machine.execTimeSourceWrite p source port s
  | .setupEnable sid => Sys2Proof.Machine.execSetupEnable sid s
  | .setupEnableResume sid => Sys2Proof.Machine.execSetupEnableResume sid s
  | .setupReset sid => Sys2Proof.Machine.execSetupReset sid s
  | .windowOpen sid => Sys2Proof.Machine.execWindowOpen sid s
  | .i3cEntdaa addr => Sys2Proof.Machine.execI3cEntdaa addr s
  | .spdmGetVersion => Sys2Proof.Machine.execSpdmGetVersion s
  | .spdmGetCapabilities => Sys2Proof.Machine.execSpdmGetCapabilities s
  | .spdmNegotiateAlgorithms => Sys2Proof.Machine.execSpdmNegotiateAlgorithms s
  | .spdmGetDigests => Sys2Proof.Machine.execSpdmGetDigests s
  | .spdmGetCertificate slot offset length => Sys2Proof.Machine.execSpdmGetCertificate slot offset length s
  | .spdmChallenge slot nonce => Sys2Proof.Machine.execSpdmChallenge slot nonce s
  | .spdmGetMeasurements index signed nonce => Sys2Proof.Machine.execSpdmGetMeasurements index signed nonce s
  | .spdmUnsupportedRequest code => Sys2Proof.Machine.execSpdmUnsupportedRequest code s
  | .usbVbusChange present => Sys2Proof.Machine.execUsbVbusChange present s
  | .usbBusReset => Sys2Proof.Machine.execUsbBusReset s
  | .usbStandardRequest setup => Sys2Proof.Machine.execUsbStandardRequest setup s
  | .rspUnknownRequest setup => Sys2Proof.Machine.execRspUnknownRequest setup s
  | .rspImageBlock blk comp data acked => Sys2Proof.Machine.execRspImageBlock blk comp data acked s
  | .rspImageCommit comp apply revert digest acked => Sys2Proof.Machine.execRspImageCommit comp apply revert digest acked s
  | .rspImageDiscard comp acked => Sys2Proof.Machine.execRspImageDiscard comp acked s
  | .rspMigrateConfirm acked => Sys2Proof.Machine.execRspMigrateConfirm acked s
  | .rspTagRead offset len => Sys2Proof.Machine.execRspTagRead offset len s
  | .rspTagLabelWrite offset data acked => Sys2Proof.Machine.execRspTagLabelWrite offset data acked s
  | .rspStatus => Sys2Proof.Machine.execRspStatus s
  | .tagInventory => Sys2Proof.Machine.execTagInventory s
  | .tagStayQuiet uid => Sys2Proof.Machine.execTagStayQuiet uid s
  | .tagSelect uid => Sys2Proof.Machine.execTagSelect uid s
  | .tagResetToReady => Sys2Proof.Machine.execTagResetToReady s
  | .tagGetSystemInfo extended => Sys2Proof.Machine.execTagGetSystemInfo extended s
  | .tagReadSingleBlock block => Sys2Proof.Machine.execTagReadSingleBlock block s
  | .tagReadMultipleBlocks block count => Sys2Proof.Machine.execTagReadMultipleBlocks block count s
  | .tagWriteSingleBlock block data => Sys2Proof.Machine.execTagWriteSingleBlock block data s
  | .tagLockBlock block => Sys2Proof.Machine.execTagLockBlock block s
  | .tagRfSessionEnd => Sys2Proof.Machine.execTagRfSessionEnd s
  | .tagWiredRetry => Sys2Proof.Machine.execTagWiredRetry s
  | .tagHealthUpdate => Sys2Proof.Machine.execTagHealthUpdate s
  | .connectionRequest req => Sys2Proof.Machine.execConnectionRequest req s
  | .hostDreq sid => Sys2Proof.Machine.execHostDreq sid s
  | .invalidHostOperation sid => Sys2Proof.Machine.execInvalidHostOperation sid s
  | .qpError sid => Sys2Proof.Machine.execQpError sid s
  | .orphanHoldExpire sid => Sys2Proof.Machine.execOrphanHoldExpire sid s
  | .sessionAgeOut sid => Sys2Proof.Machine.execSessionAgeOut sid s
  | .loginLockoutExpire cred => Sys2Proof.Machine.execLoginLockoutExpire cred s
  | .doorbellPoll sid ring => Sys2Proof.Machine.execDoorbellPoll sid ring s
  | .doorbellReadResponse sid ring producer => Sys2Proof.Machine.execDoorbellReadResponse sid ring producer s
  | .descriptorFetch sid ring descs => Sys2Proof.Machine.execDescriptorFetch sid ring descs s
  | .ringIdleTimeout sid ring reread => Sys2Proof.Machine.execRingIdleTimeout sid ring reread s
  | .idleSweep seen => Sys2Proof.Machine.execIdleSweep seen s
  | .nudge sid imm seen => Sys2Proof.Machine.execNudge sid imm seen s
  | .completionEvent sid ring => Sys2Proof.Machine.execCompletionEvent sid ring s
  | .hostAreaReadDone ref areas => Sys2Proof.Machine.execHostAreaReadDone ref areas s
  | .keyLockGrant ref => Sys2Proof.Machine.execKeyLockGrant ref s
  | .valueFetchDone ref sub r => Sys2Proof.Machine.execValueFetchDone ref sub r s
  | .extentStaged ref x => Sys2Proof.Machine.execExtentStaged ref x s
  | .csnGrant ref => Sys2Proof.Machine.execCsnGrant ref s
  | .mutationCommit ref => Sys2Proof.Machine.execMutationCommit ref s
  | .journalRecorded x => Sys2Proof.Machine.execJournalRecorded x s
  | .slcProgramDone p => Sys2Proof.Machine.execSlcProgramDone p s
  | .pageReadDone ref o w => Sys2Proof.Machine.execPageReadDone ref o w s
  | .sealCheckResult ref pass w => Sys2Proof.Machine.execSealCheckResult ref pass w s
  | .mapFillDone moon => Sys2Proof.Machine.execMapFillDone moon s
  | .mapCacheInvalidationDone moon => Sys2Proof.Machine.execMapCacheInvalidationDone moon s
  | .keyFetchDone moon slot => Sys2Proof.Machine.execKeyFetchDone moon slot s
  | .appendWaitTimeout ref => Sys2Proof.Machine.execAppendWaitTimeout ref s
  | .objectSessionExpire obj => Sys2Proof.Machine.execObjectSessionExpire obj s
  | .deleteRangeCountDone ref => Sys2Proof.Machine.execDeleteRangeCountDone ref s
  | .ringResetEnd sid ring w => Sys2Proof.Machine.execRingResetEnd sid ring w s
  | .pinExpire csn => Sys2Proof.Machine.execPinExpire csn s
  | .pinLingerExpire csn => Sys2Proof.Machine.execPinLingerExpire csn s
  | .cometProgressUpdate num w => Sys2Proof.Machine.execCometProgressUpdate num w s
  | .resultRecordWrite num r w => Sys2Proof.Machine.execResultRecordWrite num r w s
  | .creditReread num r => Sys2Proof.Machine.execCreditReread num r s
  | .cometEnd num => Sys2Proof.Machine.execCometEnd num s
  | .exportPeerCompletion num key csn o => Sys2Proof.Machine.execExportPeerCompletion num key csn o s
  | .exportRetry num key csn afterThirtySeconds => Sys2Proof.Machine.execExportRetry num key csn afterThirtySeconds s
  | .exportPeerTimeout num loginStatus => Sys2Proof.Machine.execExportPeerTimeout num loginStatus s
  | .idleTimerExpire => Sys2Proof.Machine.execIdleTimerExpire s
  | .powerStateEntered => Sys2Proof.Machine.execPowerStateEntered s
  | .cleanShutdownDone => Sys2Proof.Machine.execCleanShutdownDone s
  | .coldStart f volt => Sys2Proof.Machine.execColdStart f volt s
  | .startStepReached facts => Sys2Proof.Machine.execStartStepReached facts s
  | .islandWakeFail u oscillator => Sys2Proof.Machine.execIslandWakeFail u oscillator s
  | .islandRetry u ok => Sys2Proof.Machine.execIslandRetry u ok s
  | .coldPrepare coldest => Sys2Proof.Machine.execColdPrepare coldest s
  | .warmingEnter coldest => Sys2Proof.Machine.execWarmingEnter coldest s
  | .warmingExit coldest => Sys2Proof.Machine.execWarmingExit coldest s
  | .warmingLong coldest => Sys2Proof.Machine.execWarmingLong coldest s
  | .windowCompute volts => Sys2Proof.Machine.execWindowCompute volts s
  | .windowResultTimeout => Sys2Proof.Machine.execWindowResultTimeout s
  | .capacitanceStep caps => Sys2Proof.Machine.execCapacitanceStep caps s
  | .stringLoss string => Sys2Proof.Machine.execStringLoss string s
  | .writeThroughTimeout => Sys2Proof.Machine.execWriteThroughTimeout s
  | .windowLowTimeout => Sys2Proof.Machine.execWindowLowTimeout s
  | .feedLost f volt => Sys2Proof.Machine.execFeedLost f volt s
  | .commitOrDiscardDone => Sys2Proof.Machine.execCommitOrDiscardDone s
  | .flushDone => Sys2Proof.Machine.execFlushDone s
  | .flushShortfall shortCsns => Sys2Proof.Machine.execFlushShortfall shortCsns s
  | .powerLossEnd feedBack => Sys2Proof.Machine.execPowerLossEnd feedBack s
  | .feedRequalified f volt => Sys2Proof.Machine.execFeedRequalified f volt s
  | .efusePowerGood f => Sys2Proof.Machine.execEfusePowerGood f s
  | .efuseTrip f c => Sys2Proof.Machine.execEfuseTrip f c s
  | .efuseRetry f => Sys2Proof.Machine.execEfuseRetry f s
  | .presentDeassert => Sys2Proof.Machine.execPresentDeassert s
  | .presentAssert offHundredMs => Sys2Proof.Machine.execPresentAssert offHundredMs s
  | .throttleRaise island reading => Sys2Proof.Machine.execThrottleRaise island reading s
  | .throttleLower island reading => Sys2Proof.Machine.execThrottleLower island reading s
  | .thermalTrip island reading => Sys2Proof.Machine.execThermalTrip island reading s
  | .tripRecovery island => Sys2Proof.Machine.execTripRecovery island s
  | .tripRebuildTimeout island => Sys2Proof.Machine.execTripRebuildTimeout island s
  | .sensorBroken q => Sys2Proof.Machine.execSensorBroken q s
  | .sidebandShortDetect pin => Sys2Proof.Machine.execSidebandShortDetect pin s
  | .sidebandShortClear pin => Sys2Proof.Machine.execSidebandShortClear pin s
  | .aliveContentionDetect => Sys2Proof.Machine.execAliveContentionDetect s
  | .aliveContentionTest contended => Sys2Proof.Machine.execAliveContentionTest contended s
  | .dieLost moon die => Sys2Proof.Machine.execDieLost moon die s
  | .channelLost moon channel => Sys2Proof.Machine.execChannelLost moon channel s
  | .moonLost moon cause => Sys2Proof.Machine.execMoonLost moon cause s
  | .rebuildDone num => Sys2Proof.Machine.execRebuildDone num s
  | .frontLost f loss => Sys2Proof.Machine.execFrontLost f loss s
  | .frontReturn f => Sys2Proof.Machine.execFrontReturn f s
  | .dramDeviceFailed u channel => Sys2Proof.Machine.execDramDeviceFailed u channel s
  | .hostPortFailed port sub cause => Sys2Proof.Machine.execHostPortFailed port sub cause s
  | .portReturn lport => Sys2Proof.Machine.execPortReturn lport s
  | .cipherMismatch moon secondFails => Sys2Proof.Machine.execCipherMismatch moon secondFails s
  | .mgmtWatchdog => Sys2Proof.Machine.execMgmtWatchdog s
  | .mgmtRestartDone => Sys2Proof.Machine.execMgmtRestartDone s
  | .timeIslandFail => Sys2Proof.Machine.execTimeIslandFail s
  | .fatalFault cause => Sys2Proof.Machine.execFatalFault cause s
  | .vaultAlarm row => Sys2Proof.Machine.execVaultAlarm row s
  | .keyCacheZeroize => Sys2Proof.Machine.execKeyCacheZeroize s
  | .asuScrub f t found => Sys2Proof.Machine.execAsuScrub f t found s
  | .asuPeerRepair f t row => Sys2Proof.Machine.execAsuPeerRepair f t row s
  | .blockRetire b cause => Sys2Proof.Machine.execBlockRetire b cause s
  | .stripeComplete stripe fills => Sys2Proof.Machine.execStripeComplete stripe fills s
  | .stripePadTimeout moon => Sys2Proof.Machine.execStripePadTimeout moon s
  | .garbageCollection band => Sys2Proof.Machine.execGarbageCollection band s
  | .readDisturbRefresh b => Sys2Proof.Machine.execReadDisturbRefresh b s
  | .readCounterSave moon => Sys2Proof.Machine.execReadCounterSave moon s
  | .ageClockTick temps => Sys2Proof.Machine.execAgeClockTick temps s
  | .retentionSample b c => Sys2Proof.Machine.execRetentionSample b c s
  | .ageRefresh data => Sys2Proof.Machine.execAgeRefresh data s
  | .wearLevelling band => Sys2Proof.Machine.execWearLevelling band s
  | .mapWriteback moon => Sys2Proof.Machine.execMapWriteback moon s
  | .healthDailySample values => Sys2Proof.Machine.execHealthDailySample values s
  | .heartbeatSend => Sys2Proof.Machine.execHeartbeatSend s
  | .heartbeatReceive link f b => Sys2Proof.Machine.execHeartbeatReceive link f b s
  | .heartbeatTimeout link => Sys2Proof.Machine.execHeartbeatTimeout link s
  | .pairAliveLost => Sys2Proof.Machine.execPairAliveLost s
  | .helloReceive cable f serial inStep => Sys2Proof.Machine.execHelloReceive cable f serial inStep s
  | .gaspReceive read cas => Sys2Proof.Machine.execGaspReceive read cas s
  | .pairForwardReceive fw => Sys2Proof.Machine.execPairForwardReceive fw s
  | .completionAckReport refs => Sys2Proof.Machine.execCompletionAckReport refs s
  | .swapDoneReceive epoch word swap => Sys2Proof.Machine.execSwapDoneReceive epoch word swap s
  | .leaseRenew => Sys2Proof.Machine.execLeaseRenew s
  | .witnessCasResponse ans => Sys2Proof.Machine.execWitnessCasResponse ans s
  | .leaseExpire => Sys2Proof.Machine.execLeaseExpire s
  | .witnessPoll read sameFor505ms cas => Sys2Proof.Machine.execWitnessPoll read sameFor505ms cas s
  | .joinExpire => Sys2Proof.Machine.execJoinExpire s
  | .resyncDone cas => Sys2Proof.Machine.execResyncDone cas s
  | .linkUp link => Sys2Proof.Machine.execLinkUp link s
  | .announceRepeat x => Sys2Proof.Machine.execAnnounceRepeat x s
  | .frameReceive link f => Sys2Proof.Machine.execFrameReceive link f s
  | .addressResolutionRequest lport target x => Sys2Proof.Machine.execAddressResolutionRequest lport target x s
  | .pfcFrame lport paused => Sys2Proof.Machine.execPfcFrame lport paused s
  | .cnpReceive lport => Sys2Proof.Machine.execCnpReceive lport s
  | .ecnMarkedPacket x => Sys2Proof.Machine.execEcnMarkedPacket x s
  | .gearUp link rx => Sys2Proof.Machine.execGearUp link rx s
  | .gearDown link rx => Sys2Proof.Machine.execGearDown link rx s
  | .ptpMessage lport m => Sys2Proof.Machine.execPtpMessage lport m s
  | .ptpTimeout => Sys2Proof.Machine.execPtpTimeout s
  | .ppsEdge offsetNs pulseNs => Sys2Proof.Machine.execPpsEdge offsetNs pulseNs s
  | .ppsLoss => Sys2Proof.Machine.execPpsLoss s
  | .imageBankTimeout comp => Sys2Proof.Machine.execImageBankTimeout comp s
  | .trialBankFail comp => Sys2Proof.Machine.execTrialBankFail comp s
  | .p0Reached => Sys2Proof.Machine.execP0Reached s
  | .timeIslandRestarted => Sys2Proof.Machine.execTimeIslandRestarted s
  | .holdUpBankExhausted => Sys2Proof.Machine.execHoldUpBankExhausted s
  | .coolantInletReading reading => Sys2Proof.Machine.execCoolantInletReading reading s
  | .pairAliveRestored => Sys2Proof.Machine.execPairAliveRestored s
  | .swapRequestReceive epoch dissolve cas => Sys2Proof.Machine.execSwapRequestReceive epoch dissolve cas s
  | .partnerRecordHeld record => Sys2Proof.Machine.execPartnerRecordHeld record s
  | .resyncFrameReceive snapshot keys fetched last => Sys2Proof.Machine.execResyncFrameReceive snapshot keys fetched last s

end Sys2Proof.Machine
end

