-- ==== Sys2Proof/Safety.lean ====
section
/-! DEFINITION. The terms in which claims are made: what a row leaves (`Runs`, `Completes`), when a fetched command is ready
for its row, the invariant of the tag's memory, and what a safe step is. -/

namespace Sys2Proof.Machine

/-- The row runs: exec answers a next state, and `P` holds of it. -/
def Runs (i : Instr) (s : State) (P : State → Prop) : Prop := ∃ t, exec i s = .next t ∧ P t

/-- The row's own effect leaves a state in which `P` holds, and with it the command `ref` finishes with the completion
`k`: exec answers that state after `State.finish`, whose effect is stated once, in its own statements. -/
def Completes (i : Instr) (s : State) (ref : Nat) (k : Comp) (P : State → Prop) : Prop :=
  ∃ t, exec i s = .next (t.finish ref k) ∧ P t

/-- The row changes settings by `changes` and completes the command `ref` with `k`, with `P` of the state that the change leaves.
In PRIMARY, while it forwards, the change first waits for the partner, and no setting is other than in `s0` (13 R514). -/
def Changes (i : Instr) (s s0 : State) (ref : Nat) (k : Comp) (changes : List SettingsChange) (P : State → Prop) : Prop :=
  s.pair.change = none →
    (s.forwards = false → Completes i s ref k P) ∧
    (s.forwards = true → Runs i s fun t =>
      t.pair = { s.pair with change := some { ref := ref, changes := changes, after := .done k } } ∧
        t.ns = s0.ns ∧ t.creds = s0.creds ∧ t.asu = s0.asu)

/-- A fetched command `c` of the form `p` whose checks pass: its row may execute it (04 R184, 02 R52). -/
abbrev State.Ready (s : State) (ref : Nat) (c : Cmd) (p : Bytes → Bool) : Prop :=
  s.cmd? ref = some c ∧ c.phase = .ready ∧ p c.desc = true ∧ s.checkRefusal c = none

/-- The state with the note that a command's checks have passed. -/
def State.passed (s : State) (ref : Nat) : State := s.modCmd ref fun c => { c with late := true }

/-- No object command waits for its turn (05 R223, R226). -/
abbrev State.Settled (s : State) : Prop := ∀ c ∈ s.cmds.list, c.phase ≠ .turnWait

/-- A command of `s` after an update, with what `P` says of it. -/
abbrev State.Has (s : State) (ref : Nat) (P : Cmd → Prop) : Prop := ∃ c, s.cmd? ref = some c ∧ P c

/-- The memory of the shelf tag is in its canonical form (Machine/TagMem.lean). -/
abbrev State.TagWf (s : State) : Prop := s.tag.wf s.ident = true

/-- A safe step: the module goes on. Nothing the manual describes stops it. -/
def SafeStep (s : State) : Prop := ∃ t, step s = .next t

/-! ### Which rows may change what is kept -/

/-- Rows that may change a setting of the settings store (18 R650). -/
def changesSettings : Instr → Bool
  | .timeSourceWrite _ _ _ | .registerWrite _ _ _ => true
  | _ => false

/-- Rows that may change the credentials: their own commands, the bootstrap group, for the grants the rows that make or end
namespaces, and in a pair the rows in which a forwarded change takes effect (13 R495 to R506, R514, 18 R663). -/
def changesCredentials : Instr → Bool
  | .credentialCreate _ _ | .credentialSetSecret _ _ | .credentialGrant _ | .credentialRevoke _ | .credentialDelete _ => true
  | .admNsCreate _ | .admNsDelete _ | .admFormat _ | .bootstrapApply _ _ | .registerWrite _ _ _ => true
  | .partnerRecordHeld _ | .pairForwardReceive _ => true
  | _ => false

/-- Rows that may change the key slots: their own commands, an encryption that draws on a limit, the usage that the primary
forwards or a swap settles, a vault alarm, and rows in which a primary hands over in CUSTODY, whose granted mutations then
commit (14, 15 R570, 02 R55). -/
def changesKeySlots : Instr → Bool
  | .keyslotImport _ _ | .keyslotErase _ | .keyslotSetLimit _ | .extentStaged _ _ | .mutationCommit _ => true
  | .slcProgramDone _ | .vaultAlarm _ | .pageReadDone _ _ _ | .resultRecordWrite _ _ _ => true
  | .stripeComplete _ _ | .garbageCollection _ | .ageRefresh _ | .wearLevelling _ | .rebuildDone _ => true
  | .pairSwap _ _ | .helloReceive _ _ _ _ | .pairForwardReceive _ | .swapRequestReceive _ _ _ => true
  | .modeArchivalLockSet _ | .ctrlArchivalLockSet _ | .registerWrite _ _ _ | .thermalTrip _ _ | .tripRecovery _ => true
  | .moonLost _ _ | .dieLost _ _ | .channelLost _ _ | .cipherMismatch _ _ | .dramDeviceFailed _ _ => true
  | .islandRetry _ _ | .blockRetire _ _ => true
  | _ => false

/-- Rows that may change the Rule Table or the Range Map (10, 13 R514, 15 R592). -/
def changesTables : Instr → Bool
  | .ruleAdd _ | .ruleRemove _ | .admNsCreate _ | .admNsDelete _ | .admFormat _ | .rangeMapApply _ _ => true
  | .partnerRecordHeld _ | .pairForwardReceive _ => true
  | _ => false

/-- Rows that may change a version of the store: commits and what follows them, forwarded and resynchronised versions, media work
on their pages, pins and completion records that end, deletions, faults, and the ways up and down of the module. -/
def changesVersions : Instr → Bool
  | .extentStaged _ _ | .mutationCommit _ | .journalRecorded _ | .slcProgramDone _ => true
  | .pageReadDone _ _ _ | .resultRecordWrite _ _ _ | .pinExpire _ | .pinLingerExpire _ => true
  | .modeArchivalLockSet _ | .ctrlArchivalLockSet _ | .powerShutdown _ | .powerWarmRestart _ => true
  | .ctrlShutdown _ | .ctrlWarmRestart _ | .admNsCreate _ | .admNsDelete _ | .admFormat _ => true
  | .applyWarmStart | .cleanShutdownDone | .startStepReached _ | .islandRetry _ _ | .coldPrepare _ => true
  | .registerWrite _ _ _ | .feedLost _ _ | .flushDone | .flushShortfall _ | .powerLossEnd _ => true
  | .efuseTrip _ _ | .presentDeassert | .thermalTrip _ _ | .tripRecovery _ | .retentionSample _ _ => true
  | .stripeComplete _ _ | .garbageCollection _ => true
  | .ageRefresh _ | .wearLevelling _ | .blockRetire _ _ | .rebuildDone _ | .dieLost _ _ => true
  | .channelLost _ _ | .moonLost _ _ | .frontLost _ _ | .dramDeviceFailed _ _ | .cipherMismatch _ _ => true
  | .fatalFault _ | .vaultAlarm _ | .asuPeerRepair _ _ _ | .pairSwap _ _ | .helloReceive _ _ _ _ => true
  | .gaspReceive _ _ | .witnessPoll _ _ _ | .pairForwardReceive _ | .completionAckReport _ | .partnerRecordHeld _ => true
  | .witnessCasResponse _ | .swapRequestReceive _ _ _ | .swapDoneReceive _ _ _ => true
  | .resyncFrameReceive _ _ _ _ | .resyncDone _ => true
  | _ => false

/-- Rows that may raise an anti-rollback counter (19 R680, R684). -/
def confirmsMigration : Instr → Bool
  | .admMigrateConfirm _ | .rspMigrateConfirm _ => true
  | _ => false

end Sys2Proof.Machine
end

