-- ==== Sys2Proof/Certificates/Slice0/Obligations.lean ====
section
/-! DEFINITION. The statements for the provers: what each row of the table does where it completes, the frames and invariants of
the whole module, and the module as shipped. -/

open Sys2Proof Sys2Proof.Machine

/-- one step takes the command at the front of the queue. An empty queue lets one nanosecond pass while the time island
runs, and changes nothing else, save that every millisecond the rows of the Session Table age (10 R410): each by 1, a LIVE
one not in P2 and P3, and the session of a row whose age has reached its limit ends (the model's choice,
notes/assumptions/1.md). (00_scope, 10_associative_search, 17_ports_mac) -/
def Obligations.StepRunsTheFront : Prop :=
  (∀ (i : Instr) (rest : List Instr) (s : State), s.pending = i :: rest → step s = exec i { s with pending := rest }) ∧
  (∀ s : State, s.pending = [] →
    (s.time.up = true → (s.time.now + 1) % 1000000 ≠ 0 →
      step s = .next { s with time := { s.time with now := s.time.now + 1 } }) ∧
    (s.time.up = true → (s.time.now + 1) % 1000000 = 0 → ∃ t : State, step s = .next t ∧
      (∀ x ∈ s.sess.sessions, s.agesOut x = true → t.session? x.sid = none) ∧
      ((∀ x ∈ s.sess.sessions, s.agesOut x = false) → t = { s with time := { s.time with now := s.time.now + 1 }, sess := t.sess } ∧
        t.sess = { s.sess with sessions := t.sess.sessions } ∧ t.sess.sessions.length = s.sess.sessions.length ∧
        ∀ x y : Session, (x, y) ∈ s.sess.sessions.zip t.sess.sessions → y = { x with age := y.age } ∧
          (x.cls = .live ∧ (s.power.pstate = .p2 ∨ s.power.pstate = .p3) → y.age = x.age) ∧
          (¬(x.cls = .live ∧ (s.power.pstate = .p2 ∨ s.power.pstate = .p3)) → y.age = min (x.age + 1) 0xFFFFFFFF))) ∧
    (s.time.up = false → step s = .next s))

/-- No row touches the queue: what waits stays waiting in its order. The identity that the module shows on every path is
read-only: no row changes it. (18 R646, 19 R686) -/
def Obligations.EveryRowKeepsQueueAndIdentity : Prop :=
  (∀ (i : Instr) (s t : State), exec i s = .next t → t.pending = s.pending) ∧
  (∀ (i : Instr) (s t : State), exec i s = .next t →
    t.ident.serial = s.ident.serial ∧ t.ident.certDigest = s.ident.certDigest ∧ t.ident.tagUid = s.ident.tagUid ∧
      t.ident.madeTime = s.ident.madeTime)

/-- Every step keeps the canonical form of the tag's memory. (19 R685, 19 R686, 19 R691) -/
def Obligations.TagMemoryStaysCanonical : Prop := ∀ s t : State, s.TagWf → step s = .next t → t.TagWf

/-- As shipped: COMMISSION, factory firmware in both banks, no Custodian, all key slots EMPTY, the order code in the tag's
identity record; the registers at their Reset entries; no power. The tag's memory has its canonical form and reads as the
factory image. (21 R728, 18 R650) -/
def Obligations.TheModuleAsShipped : Prop :=
  let s := State.reset
  s.mode.mode = .commission ∧ (∀ k ∈ s.fw.comps, k.facts.map (·.valid) = [true, true] ∧ k.stage = .empty ∧ k.counter = 0) ∧
    s.creds.list = [] ∧ (∀ n, (s.keySlot n).st = .empty) ∧ slice (s.tagBytes 0x200 128) 56 16 = fit 16 (ascii "BVD-PX1500-LQ") ∧
    s.ns = [] ∧ s.kv.versions = [] ∧ s.sess.sessions = [] ∧ s.pending = [] ∧ s.power.pstate = .p4 ∧ s.power.step = 0 ∧
    s.settings = { idleP0P1 := 50, idleP1P2 := 2000, idleP2P3 := 0, serviceId := 0x4B56, orphanHold := 10, idleLimit := 0,
                   pinLife := 1440, pinLinger := 60, winLimit := 128, timeSource := 0, ptpPort := 0 } ∧
    s.attn.causes = 1 ∧ s.attn.warnings = 0 ∧ s.win.window = 0 ∧ s.ctrl = {} ∧ s.TagWf ∧
    ∀ a : Nat, cellAt s.ident s.tag.mem a = tagFactory s.ident a

/-- Module time never steps backwards, whatever the row (01 R30). (01 R30) -/
def Obligations.ModuleTimeNeverStepsBack : Prop := ∀ s t : State, step s = .next t → s.time.now ≤ t.time.now

/-- The window never exceeds 32 GiB: every step keeps it. (07 R299, 07 R300) -/
def Obligations.WindowStaysWithin32GiB : Prop :=
  ∀ s t : State, s.win.window ≤ 34359738368 → step s = .next t → t.win.window ≤ 34359738368

/-- The anti-rollback counters: no row lowers one, only MIGRATE_CONFIRM changes one, to the SVN of the running image where
that is higher, and a commit whose SVN is below its counter is refused. (R680) -/
def Obligations.AntiRollbackCountersOnlyRise : Prop :=
  (∀ (i : Instr) (n : Nat) (s t : State), exec i s = .next t →
    (s.comp n).counter ≤ (t.comp n).counter ∧ (confirmsMigration i = false → (t.comp n).counter = (s.comp n).counter)) ∧
  ∀ (ref n : Nat) (c : Cmd) (digest : Bytes) (s : State), n < s.fw.comps.length →
    (s.Ready ref c (fun d => dOpcode d == 0x54) → Runs (.admMigrateConfirm ref) s fun t =>
      (t.comp n).counter = max (s.comp n).counter (s.comp n).running.svn) ∧
    (s.pathOpen .usb = true → Runs (.rspMigrateConfirm true) s fun t =>
      (t.comp n).counter = max (s.comp n).counter (s.comp n).running.svn) ∧
    (u32At (s.comp n).image 12 < (s.comp n).counter → s.ownsBank n .service = true → s.pathOpen .usb = true → n < 4 →
      digest.length = 48 → Runs (.rspImageCommit n false false digest true) s fun t =>
        t.usb.result ≠ 0 ∧ (t.comp n).stage = .empty) ∧
    (u32At (s.comp n).image 12 < (s.comp n).counter → s.ownsBank n (s.sender c) = true → n = 1 ∨ n = 2 →
      bitsOf (byteAt c.desc 8) 0 2 = n → s.Ready ref c (isCommit false false) →
        exec (.admImageCommit ref) s = .next (((s.passed ref).modComp n (·.empty)).finish ref (Comp.denied 7)))

/-- What is kept changes only by its own rows: settings, credentials, key slots, the Rule Table and the Range Map, and the
versions of the store. (18 R650, 13 R500, 14 R535, 15 R592, 06 R245) -/
def Obligations.KeptPartsChangeOnlyByTheirRows : Prop :=
  ∀ (i : Instr) (s t : State), exec i s = .next t →
    (changesSettings i = false → t.settings = s.settings) ∧
    (changesCredentials i = false → t.creds.list = s.creds.list) ∧
    (changesKeySlots i = false → t.vault.slots = s.vault.slots) ∧
    (changesTables i = false → t.asu.rules = s.asu.rules ∧ t.asu.ranges = s.asu.ranges) ∧
    (changesVersions i = false → t.kv.versions = s.kv.versions)

/-- A command alone in its ring: its outcome is written as one 32-byte completion entry into the next slot, the count
advances, and the command is gone with its locks; while mirroring its completion is held for the partner, and an orphan's is
held for its host. A primary that forwards sends its frames to the partner before the entry. What a completion leaves alone,
whatever completes: every version, object session and pin of the store, and every part of the module that is not the host
protocol's, but for the sequence numbers of the pair links. (03 R131, 03 R132, 03 R133, 06 R245, 06 R273) -/
def Obligations.FinishWritesTheEntry : Prop :=
  (∀ (ref : Nat) (k : Comp) (c : Cmd) (x : Session) (r : Ring) (s : State), s.cmd? ref = some c → s.session? c.sid = some x →
      x.ring? c.ring = some r → s.ringCmds c.sid c.ring = [c] →
    let t := s.finish ref k
    (s.mirroring = false → x.cls ≠ .orphan →
      (∃ frames, t.out = s.out ++ frames ++ [.write c.sid r.rkey (r.cqBase + 32 * (r.cqCount.toNat % 2 ^ r.cqLog2))
          (compBytes (dTag c.desc) r.fetch.toNat (phaseBit r.cqCount r.cqLog2) k)] ∧
        (∀ o ∈ frames, ∃ n b, o = .pairFrame n b) ∧ (s.forwards = false → frames = [])) ∧
      t.cmd? ref = none ∧ (c.isCommitted = false → c.phase ≠ .finished → ∀ q ∈ t.locks.rows, q.ref ≠ ref) ∧
      ∃ q, t.ring? c.sid c.ring = some q ∧ q.cqCount = r.cqCount + 1 ∧ q.fetch = r.fetch ∧ q.st = r.st) ∧
    (s.mirroring = false → x.cls = .orphan → t.cmd? ref = none ∧ (s.forwards = false → t.out = s.out) ∧
      ∃ y, t.session? c.sid = some y ∧ y.held = x.held ++ [.comp r (dTag c.desc) k]) ∧
    (s.mirroring = true → ∃ d, t.cmd? ref = some d ∧ d.phase = .finished ∧ d.done = some k ∧ d.hold = true)) ∧
  (∀ (ref : Nat) (k : Comp) (s : State),
    let t := s.finish ref k
    t.kv = s.kv ∧ t.mode = s.mode ∧ t.power = s.power ∧ t.settings = s.settings ∧ t.time = s.time ∧ t.win = s.win ∧
      t.creds = s.creds ∧ t.asu = s.asu ∧ t.vault = s.vault ∧ t.programs = s.programs ∧ t.comets = s.comets ∧
      t.attn = s.attn ∧ t.health = s.health ∧ { t.ports with links := s.ports.links } = s.ports ∧
      t.ports.links.map (fun l => { l with seq := 0 }) = s.ports.links.map (fun l => { l with seq := 0 }) ∧
      t.pair = s.pair ∧ t.fw = s.fw ∧ t.usb = s.usb ∧
      t.tag = s.tag ∧ t.feeds = s.feeds ∧ t.thermal = s.thermal ∧ t.pins = s.pins ∧ t.ctrl = s.ctrl ∧ t.ident = s.ident ∧
      t.ns.map (fun n => { n with resBytes := 0, resObjs := 0 }) = s.ns.map (fun n => { n with resBytes := 0, resObjs := 0 }))

/-- An occurrence with the CODE, UNIT and INDEX of an entry made less than 1 s earlier, of a severity other than FAULT,
increments that entry's REPEAT and keeps its DATA; any other one gets an entry with the next SEQ, which replaces the lowest
in a full log. (R612) -/
def Obligations.LogMergesAndReplaces : Prop :=
  ∀ (code unit index : Nat) (data : List (Nat × Bytes)) (s : State),
    let like := fun (e : LogEntry) => e.code = code ∧ e.unit = unit ∧ e.index = index ∧ e.severity ≠ 3 ∧
      s.time.now < e.time + 1000000000
    let t := s.logEvent code unit index data
    ((∃ e ∈ s.attn.log, like e) → t.attn.nextSeq = s.attn.nextSeq ∧ ∃ a e z, s.attn.log = a ++ e :: z ∧ like e ∧
      t.attn.log = a ++ { e with rep := min (e.rep + 1) 65535 } :: z) ∧
    ((∀ e ∈ s.attn.log, ¬ like e) → t.attn.nextSeq = s.attn.nextSeq + 1 ∧
      (s.attn.log.length < 65536 → t.attn.log = s.attn.log ++ [s.logEntry code unit index data]) ∧
      (s.attn.log.length = 65536 → t.attn.log = s.attn.log.tail ++ [s.logEntry code unit index data])) ∧
    (s.attn.log.length ≤ 65536 → (s.attn.log.map (·.seq)).Pairwise (· < ·) → (∀ e ∈ s.attn.log, e.seq < s.attn.nextSeq) →
      t.attn.log.length ≤ 65536 ∧ (t.attn.log.map (·.seq)).Pairwise (· < ·) ∧ ∀ e ∈ t.attn.log, e.seq < t.attn.nextSeq)

/-- A ready command that a check turns away completes with that check's status and has no other effect. (04 R184, 02 R50, 02
R57) -/
def Obligations.ChecksDecideFirst : Prop :=
  ∀ (ref : Nat) (c : Cmd) (k : Comp) (w : HostWrite) (s : State), s.cmd? ref = some c → c.phase = .ready →
      s.checkRefusal c = some k →
    (isOp opGet c.desc = true → exec (.kvGet ref) s = .next (s.finish ref k)) ∧
    (isOp opPut c.desc = true → exec (.kvPut ref) s = .next (s.finish ref k)) ∧
    (isOp opDelete c.desc = true → exec (.kvDelete ref) s = .next (s.finish ref k)) ∧
    (isOp opCas c.desc = true → exec (.kvCas ref) s = .next (s.finish ref k)) ∧
    (isOp opHead c.desc = true → exec (.kvHead ref w) s = .next (s.finish ref k)) ∧
    (isOp opBatch c.desc = true → exec (.kvBatch ref) s = .next (s.finish ref k)) ∧
    (isOp opDeleteRange c.desc = true → exec (.kvDeleteRange ref) s = .next (s.finish ref k)) ∧
    (dOpcode c.desc = 0x57 → exec (.admFormat ref) s = .next (s.finish ref k))

/-- A mutation's row places what it writes without a value byte, puts out the reads of its values and asks for its locks. A
mutation of one part whose key no one holds, and whose conditions, quota and space pass, obtains its lock at once, in the
row that its bank allows, is decided, and asks for its CSN when it waits for no value byte. The banks that a point lookup
enables hold every row that conflicts with it, so that a key waits behind the same commands as without pre-filtering (10
R394, R395). (05 R191, 05 R195, 05 R209, 05 R214, 10 R394, 10 R395, 10 R416, 13 R509) -/
def Obligations.MutationsStartAndDecide : Prop :=
  (∀ (ref : Nat) (c : Cmd) (s : State),
    (s.Ready ref c (isOp opPut) → exec (.kvPut ref) s =
      .next ((((s.passed ref).placeParts c).emitAll (c.parts.flatMap (valueReads c.sid))).askLocks ref)) ∧
    (s.Ready ref c (isOp opDelete) → exec (.kvDelete ref) s =
      .next ((((s.passed ref).placeParts c).emitAll (c.parts.flatMap (valueReads c.sid))).askLocks ref)) ∧
    (s.Ready ref c (isOp opCas) → exec (.kvCas ref) s =
      .next ((((s.passed ref).placeParts c).emitAll (c.parts.flatMap (valueReads c.sid))).askLocks ref)) ∧
    (s.Ready ref c (isOp opBatch) → exec (.kvBatch ref) s =
      .next ((((s.passed ref).placeParts c).emitAll (c.parts.flatMap (valueReads c.sid))).askLocks ref)) ∧
    (s.Ready ref c (isOp opDeleteRange) → exec (.kvDeleteRange ref) s =
      .next ((((s.passed ref).placeParts c).emitAll (c.parts.flatMap (valueReads c.sid))).askLocks ref))) ∧
  (∀ (ref : Nat) (c : Cmd) (p : Part) (s : State),
    s.cmd? ref = some c → c.parts = [p] → s.mayAsk c = true → s.locks.overflow = [] → s.objectEnded c = false →
    s.roomFor (s.lockRow c 0 p) = true → clearOf s.locks.rows (s.lockRow c 0 p) = true →
    s.decideFailure c = none →
    let r := s.lockRow c 0 p
    let t := s.askLocks ref
    t.locks.rows = s.locks.rows ++
        [{ r with row := (placeRow s.lockPlaces (s.lockBanks r.half) r.indexes).getD 0, granted := true }] ∧
      t.ns = ((s.growths c).map reservation).foldl reserve s.ns ∧
      t.Has ref fun d => d.locked = true ∧ d.decided = true ∧ d.order = s.cmds.nextOrd ∧
        d.phase = if c.received then .csnWait else .valueWait) ∧
  (∀ (nsid : Nat) (key : Bytes) (s : State), s.blockersOf nsid key =
      (s.locks.rows.filter fun r => r.granted && conflict r (readRow nsid key)).map (·.ref))

/-- A KV_GET on an ORDERED ring waits for the command before it; with its snapshot's pin gone it ends; while a granted
mutation holds its key it waits; otherwise it locates the newest durable version, and goes to its pages, to the fetch of its
key or to its map record (under AUTHFAIL_COMPAT it may wait for plaintext room), at once to its pages when the value is
staged and the key is at hand. A key whose slot is not LOADED is put off, a key without a value is not found, a range
without bytes completes at once, and a part known to be lost ends the read. KV_HEAD: on an ORDERED ring it waits for the
command before it, behind a granted mutation it waits; a key without a value is not found; of a staged version, or of one
that it has located, the head record is written and its length and CSN reported, or it ends as the host's answer has it;
without a buffer nothing is written; another version it looks up in the map first. Map fills, invalidations and key fetches:
the sub-block filled is valid, its line the most recent of its set; the cache is empty after its invalidation; the keys are
held, and reads that now have every key they need go to their pages. The data path of a read of which no chunk is lost
twice: with its pages read, its bytes go out and it completes ST_OK, marked when a page was rebuilt or lies on a lost part;
suite XG goes on to its seal check, with AUTHFAIL_COMPAT before any byte is out; a passed check completes ST_OK, a failed
one ST_SEAL_FAIL, with UNTRUSTED where bytes went out. (05 R193, 05 R202, 05 R208, 08 R339, 08 R349, 14 R527) -/
def Obligations.ReadsRunToTheirEnd : Prop :=
  (∀ (ref : Nat) (c : Cmd) (p : Part) (n : Namespace) (s : State),
    c.parts = [p] → p.nsid = dNsid c.desc → c.version = none → s.namespace? p.nsid = some n →
    (n.compat = true → dValueLen c.desc ≤ 67108864) → s.Ready ref c (isOp opGet) →
    let seen := (s.seenVersion c.desc p.nsid p.key).filter (·.value.isSome)
    let ends := fun (k : Comp) (t : State) => exec (.kvGet ref) s = .next ((t.finish ref k).releaseFences c.sid c.ring)
    (s.mayCommit c = false → Runs (.kvGet ref) s fun t => t.locks = s.locks ∧ t.kv = s.kv ∧ t.Has ref fun d => d.phase = .orderWait) ∧
    (s.mayCommit c = true → s.pinMissing c.desc = true →
      Completes (.kvGet ref) s ref (Comp.plain .snapshotExpired) fun t => t.kv = s.kv) ∧
    (s.mayCommit c = true → s.pinMissing c.desc = false →
      (s.blockersOf p.nsid p.key ≠ [] → Runs (.kvGet ref) s fun t => t.locks = s.locks ∧ t.kv = s.kv ∧ t.Has ref fun d =>
        d.phase = .readWait ∧ d.blockers = s.blockersOf p.nsid p.key ∧ d.version = none) ∧
      (s.blockersOf p.nsid p.key = [] → s.slotLoaded n.slot = false →
        Completes (.kvGet ref) s ref (Comp.plain .busyRetry) fun t => t.kv = s.kv) ∧
      (s.blockersOf p.nsid p.key = [] → s.slotLoaded n.slot = true →
        (seen = none → Completes (.kvGet ref) s ref (Comp.plain .notFound) fun t => t.kv = s.kv ∧ t.out = s.out) ∧
        (∀ (v : Version) (b : Bytes), seen = some v → v.value = some b →
          (getRange c.desc b = [] → ∃ t : State, ends (getComp c.desc v false) t ∧ t.kv = s.kv ∧ t.out = s.out) ∧
          (getRange c.desc b ≠ [] → lostTo c.desc v = true →
            ∃ t : State, ends (Comp.plain .mediaUnrecovered) t ∧ t.kv = s.kv ∧ t.out = s.out) ∧
          (getRange c.desc b ≠ [] → lostTo c.desc v = false → Runs (.kvGet ref) s fun t => t.kv = s.kv ∧ t.Has ref fun d =>
            (d.version.map fun u => (u.nsid, u.key, u.csn, u.value)) = some (v.nsid, v.key, v.csn, v.value) ∧
              d.segs = (c.parts.head?.map (·.segs)).getD [] ∧ (c.order = 0 → d.order = s.cmds.nextOrd) ∧
              (d.phase = .pageRead ∨ d.phase = .keyWait ∨ d.phase = .mapWait ∨ (n.compat = true ∧ d.phase = .readWait)) ∧
              (n.compat = false → v.place = .staged → s.keysAtHand c v = true →
                d.phase = .pageRead ∧ d.version = some v)))))) ∧
  (∀ (ref : Nat) (w : HostWrite) (c : Cmd) (p : Part) (n : Namespace) (s : State), s.Ready ref c (isOp opHead) → c.parts = [p] →
    (c.version = none → s.mayCommit c = false → Runs (.kvHead ref w) s fun t => t.kv = s.kv ∧ t.Has ref fun d => d.phase = .orderWait) ∧
    (c.version = none → s.mayCommit c = true → s.pinMissing c.desc = true →
      Completes (.kvHead ref w) s ref (Comp.plain .snapshotExpired) fun t => t.kv = s.kv) ∧
    let wrote := fun (v : Version) (t : State) =>
      (t.emit (.write c.sid (dValueRkey c.desc) (dValueAddr c.desc) (headRecord v))).finish ref (headComp v true)
    (∀ v : Version, c.version = some v →
      (dValueLen c.desc < 64 → exec (.kvHead ref w) s = .next ((s.passed ref).finish ref (headComp v false))) ∧
      (64 ≤ dValueLen c.desc → s.polls c.sid = true → exec (.kvHead ref .acked) s = .next (wrote v ((s.passed ref).refresh c.sid))) ∧
      (64 ≤ dValueLen c.desc → s.polls c.sid = true →
        exec (.kvHead ref .accessError) s = .next ((s.passed ref).hostAccess ref (Comp.plain .hostAccess))) ∧
      (64 ≤ dValueLen c.desc → s.polls c.sid = false →
        exec (.kvHead ref w) s = .next ((s.passed ref).finish ref (Comp.plain .busyRetry)))) ∧
    (c.version = none → p.nsid = dNsid c.desc → s.mayCommit c = true → s.pinMissing c.desc = false → s.namespace? p.nsid = some n →
      let seen := (s.seenVersion c.desc p.nsid p.key).filter (·.value.isSome)
      (s.blockersOf p.nsid p.key ≠ [] → Runs (.kvHead ref w) s fun t => t.locks = s.locks ∧ t.kv = s.kv ∧ t.Has ref fun d =>
        d.phase = .readWait ∧ d.blockers = s.blockersOf p.nsid p.key) ∧
      (s.blockersOf p.nsid p.key = [] → s.slotLoaded n.slot = false →
        Completes (.kvHead ref w) s ref (Comp.plain .busyRetry) fun t => t.kv = s.kv) ∧
      (s.blockersOf p.nsid p.key = [] → s.slotLoaded n.slot = true →
        (seen = none → ∃ t : State, exec (.kvHead ref w) s = .next (t.finish ref (Comp.plain .notFound)) ∧ t.kv = s.kv) ∧
        ∀ v : Version, seen = some v →
          (v.metaLost = true → ∃ t : State, exec (.kvHead ref w) s =
            .next ((t.finish ref (Comp.plain .mediaUnrecovered)).releaseFences c.sid c.ring) ∧ t.kv = s.kv) ∧
          (∀ m : Moon, v.metaLost = false → v.place ≠ .staged → s.media.moons[s.lookupMoon v.home]? = some m → m.mapHit v.objId = none →
            Runs (.kvHead ref w) s fun t => t.kv = s.kv ∧ t.Has ref fun d =>
              d.phase = .mapWait ∧ d.version.map (·.csn) = some v.csn) ∧
          (v.metaLost = false → v.place = .staged →
            (dValueLen c.desc < 64 → ∃ t : State, exec (.kvHead ref w) s =
              .next ((t.finish ref (headComp v false)).releaseFences c.sid c.ring) ∧ t.kv = s.kv ∧ t.out = s.out) ∧
            (64 ≤ dValueLen c.desc → s.polls c.sid = true → ∃ t : State, exec (.kvHead ref .acked) s =
              .next ((wrote v t).releaseFences c.sid c.ring) ∧ t.kv = s.kv ∧ t.out = s.out))))) ∧
  (∀ (moon slot obj : Nat) (locs : List Nat) (m : Moon) (s : State),
    (s.media.moons[moon]? = some m → m.mapFill = some (obj, locs) → m.mapLate = [] → m.mapInval = false →
      (∀ c ∈ s.cmds.list, c.phase ≠ .mapWait) → Runs (.mapFillDone moon) s fun t =>
        t = { s with media := t.media } ∧ ∃ r, t.media.moons[moon]? = some r ∧ r.mapFill = none ∧
          r.mapHit obj = some locs ∧ (r.mapLines.head?.map (·.tag)) = some (mapTag obj)) ∧
    ((∀ c ∈ s.cmds.list, c.phase ≠ .mapWait) →
      exec (.mapCacheInvalidationDone moon) s = .next (s.modMoon moon fun m =>
        { m with mapInval := false, mapLines := [] })) ∧
    (moon < 8 → s.vault.up = true → s.slotLoaded slot = true →
      let held : State := { s with vault := { s.vault with cached := ((moon, slot) :: s.vault.cached).eraseDups } }
      Runs (.keyFetchDone moon slot) s fun t =>
        (moon, slot) ∈ t.vault.cached ∧ ∀ (ref : Nat) (c : Cmd) (v : Version), s.cmd? ref = some c → c.phase = .keyWait →
          c.version = some v → v.slot = slot → held.keysAtHand c v = true → t.Has ref fun d => d.phase = .pageRead)) ∧
  (∀ (ref : Nat) (c : Cmd) (v : Version) (s : State), s.cmd? ref = some c → c.version = some v → s.polls c.sid = true →
    let u := s.pagesTried c v .degraded
    (c.phase = .pageRead → v.suite ≠ 2 →
      (s.outcomeOf c v .direct = .direct → exec (.pageReadDone ref .direct .acked) s =
          .next ((((s.refresh c.sid).deliver c v).finish ref (getComp c.desc v (s.onLostPart c v))).eraseLeft)) ∧
        (u.outcomeOf c v .degraded = .degraded → u.qlcChunks v (readSpan c.desc v).1 (readSpan c.desc v).2 ≠ [] →
          ∃ t : State, exec (.pageReadDone ref .degraded .acked) s =
            .next (((t.deliver c v).finish ref (getComp c.desc v true)).eraseLeft) ∧
          t.kv.versions.map (fun u => (u.nsid, u.key, u.csn, u.value)) =
            s.kv.versions.map fun u => (u.nsid, u.key, u.csn, u.value))) ∧
    (c.phase = .pageRead → v.suite = 2 → s.outcomeOf c v .direct = .direct →
      (c.compat = false → exec (.pageReadDone ref .direct .acked) s = .next ((((s.refresh c.sid).deliver c v).modCmd ref fun c =>
        { c with phase := .sealWait, degraded := s.onLostPart c v }).eraseLeft)) ∧
      (c.compat = true → exec (.pageReadDone ref .direct .acked) s = .next ((s.modCmd ref fun c =>
        { c with phase := .sealWait, degraded := s.onLostPart c v }).eraseLeft))) ∧
    (c.phase = .sealWait →
      ((s.stored v).badSeal = false →
        (c.compat = false → exec (.sealCheckResult ref true .acked) s = .next (s.finish ref (getComp c.desc v c.degraded))) ∧
        (c.compat = true → exec (.sealCheckResult ref true .acked) s =
          .next (((s.refresh c.sid).deliver c v).finish ref (getComp c.desc v c.degraded)))) ∧
      ∀ pass : Bool, pass = false ∨ (s.stored v).badSeal = true → ∃ t : State,
        exec (.sealCheckResult ref pass .acked) s = .next (t.finish ref (sealFailComp c.desc v c.compat c.degraded)) ∧
        (sealFailComp c.desc v c.compat c.degraded).untrusted = !c.compat ∧
        t.ns = mapWhere (·.nsid == v.nsid) (fun n => { n with sealFails := n.sealFails + 1 }) s.ns))

/-- Object commands: a handle is made, a chunk whose turn it is starts its reads, a seal starts as a mutation of the whole
object. An APPEND beyond the count that has waited 1 s is refused, and an object session with no command for it ends after
its 24 h: its bytes are gone. A descriptor whose opcode is not listed. (05 R220, 05 R223, 05 R224, 05 R226, 05 R228, 04
R171) -/
def Obligations.ObjectCommandsRun : Prop :=
  (∀ (ref : Nat) (c : Cmd) (p : Part) (o : ObjSession) (s : State), c.parts = [p] → s.mayCommit c = true →
    (s.Ready ref c (isOp opObjBegin) → (s.kv.objects.filter (·.sid == c.sid)).length < 1024 →
      s.kv.objects.length < 262144 →
      let h := unusedFrom (s.kv.objects.map (·.handle)) (2 ^ 64) (s.kv.objects.length + 1)
        (Config.objectHandle s.fresh).toNat
      Completes (.kvObjBegin ref) s ref { status := .ok, result := h } fun t =>
        t.kv = { s.kv with objects := s.kv.objects ++ [{ handle := h, sid := c.sid, nsid := dNsid c.desc, key := p.key, noDigest := fNoDigest (dFlags c.desc) }] }) ∧
    (s.object? (dArg64 c.desc) = some o → s.Settled →
      (s.Ready ref c (isOp opObjAppend) → s.receiving o.handle = false → s.sealing o.handle = false →
        dArg32 c.desc = o.bytes.length →
        s.overQuota [(o.nsid, s.appendGrowth o (dValueLen c.desc))] = false →
        s.noSpace [(o.nsid, s.appendGrowth o (dValueLen c.desc))] = false →
        Runs (.kvObjAppend ref) s fun t =>
          t.out = s.out ++ valueReads c.sid { p with nsid := o.nsid, key := o.key } ∧ t.kv = s.kv ∧
            t.Has ref fun d => d.phase = .valueWait ∧ d.obj = some o.handle) ∧
      (s.Ready ref c (isOp opObjSeal) → s.appendsBefore c = false →
        Runs (.kvObjSeal ref) s fun t => ∃ u : State,
          t = u.startMutation ref ∧ u.kv = s.kv ∧ u.out = s.out ∧ u.Has ref fun d => d.obj = some o.handle ∧
            d.parts = [sealPart o { p with nsid := o.nsid, key := o.key }] ∧ d.extents = o.extents.map fun e => { e with ofObj := true }))) ∧
  (∀ (ref obj : Nat) (c : Cmd) (o : ObjSession) (s : State),
    (s.cmd? ref = some c → c.phase = .turnWait → dOpcode c.desc = opObjAppend → c.obj.bind s.object? = some o →
      o.bytes.length < dArg32 c.desc → exec (.appendWaitTimeout ref) s = .next ((s.finish ref (Comp.denied 7)).settle)) ∧
    ((∀ d ∈ s.cmds.list, d.obj = some obj → d.phase = .finished) →
      Runs (.objectSessionExpire obj) s fun t =>
        t = { s with kv := { s.kv with objects := t.kv.objects }, media := t.media, fresh := t.fresh } ∧
          t.kv.objects = s.kv.objects.filter fun x => x.handle != obj)) ∧
  (∀ (ref : Nat) (c : Cmd) (s : State), s.cmd? ref = some c → c.phase = .unknown →
    exec (.unknownOpcode ref) s = .next (s.finish ref (Comp.denied 1)))

/-- The areas of a command that is no comet are read and its later checks pass: the further reads of a batch go out, and it
is ready for its own row. A waiting lock request is granted once nothing before it conflicts with it, and an ORDERED read
goes on once the command before it has reached its commit point. The last byte of a decided mutation's one value arrives:
its version has an object identifier, and the mutation asks for its CSN. An extent that both its moons hold is noted as
staged under the slot's current generation. (04 R184, 10 R416, 05 R209, 08 R326) -/
def Obligations.CommandsProgress : Prop :=
  (∀ (ref : Nat) (c : Cmd) (a : HostAreas) (ps : List Part) (s : State),
    s.cmd? ref = some c → c.phase = .areas → dOpcode c.desc ≠ opComet → (s.partsFrom c a).parts = .inl ps →
    s.lateCheck { c with parts := ps } = none → s.Settled →
    exec (.hostAreaReadDone ref a) s =
      .next ((s.emitAll (s.partsFrom c a).reads).modCmd ref fun c => { c with parts := ps, phase := .ready, late := true })) ∧
  (∀ (ref : Nat) (c : Cmd) (s : State), s.cmd? ref = some c →
    (c.phase = .lockWait → s.locks.overflow.any (·.ref == ref) = false → (∃ r ∈ s.locks.rows, r.ref = ref) →
      (∀ r ∈ s.locks.rows, r.ref = ref → c.lockTodo = [] ∧ r.part < c.parts.length ∧
        clearOf (s.rowsBefore ref r.part ++ s.locks.rows.filter (·.granted)) r = true) →
      (∀ i < c.parts.length, ∃ r ∈ s.locks.rows, r.ref = ref ∧ r.part = i) → s.objectEnded c = false →
      s.decideFailure c = none →
      Runs (.keyLockGrant ref) s fun t =>
        t.locks.rows = s.locks.rows.map (fun r => if r.ref = ref then { r with granted := true } else r) ∧
          t.Has ref fun d => d.locked = true ∧ d.decided = true ∧ d.phase = if c.received then .csnWait else .valueWait) ∧
    (c.phase = .orderWait → opMutation (dOpcode c.desc) = false → s.mayCommit c = true →
      exec (.keyLockGrant ref) s = .next (s.modCmd ref fun c => { c with phase := .ready }))) ∧
  (∀ (ref : Nat) (c : Cmd) (p : Part) (e : Extent) (bs : Bytes) (k : Nat) (w : HostWrite) (s : State), s.cmd? ref = some c →
    (c.parts = [p] → p.op = opPut ∨ p.op = opCas → p.wants = true → c.phase = .valueWait → c.decided = true →
      Runs (.valueFetchDone ref 0 (.data bs)) s fun t => t.Has ref fun d =>
        d.parts = [{ p with value := some (.data bs), obj := if p.obj = 0 then s.kv.nextObjId else p.obj }] ∧
          d.phase = .csnWait ∧ d.asked = s.cmds.nextAsk) ∧
    (c.extents[k]? = some e → e.staged = false → c.phase ≠ .committed → c.wantsPart e.part = false →
      Runs (.extentStaged ref ⟨.ofCommand k, w⟩) s fun t =>
        (t.Has ref fun d => d.extents[k]? = some { e with staged := true, gen := t.genOf e.slot, at_ := s.time.now }) ∧
          (e.home, e.slot) ∈ t.vault.cached ∧ (e.shadow, e.slot) ∈ t.vault.cached))

/-- The grant of a CSN and the charge are one step: the next CSN of the sequencer, the charge beside it. A primary that
forwards owes its partner the mutation from then on; otherwise nothing else changes. A mutation commits: its version stands
under its key, the versions of a batch all at once under its one CSN, and the highest committed CSN covers them; the session
of a sealed object ends. The journal entry is on both Fronts: a mutation whose bytes are staged on both moons is durable,
releases its locks and completes with its level, the digest asked for before the completion; a range deletion goes to its
count, a STRICT one waits for its programming. The extent of a mutation that is programmed before the grant, with no charged
extent to be programmed before it, has a provisional token whose bit 63 names the session Front, and charges nothing any
more; a range deletion completes with the number of its keys. (06 R239, 06 R244, 07 R284, 07 R296) -/
def Obligations.MutationsCommit : Prop :=
  (∀ (ref : Nat) (c : Cmd) (s : State), s.cmd? ref = some c → c.phase = .csnWait → s.mayGrant c = true →
    Runs (.csnGrant ref) s fun t =>
      t.seq.next = s.seq.next + 1 ∧ t.seq.charges = s.seq.charges ++
          [{ ref := ref, csn := s.seq.next, bytes := c.windowCharge, extents := if c.progd then [] else c.extents.filter (!·.progd) }] ∧
        t.occupancy = s.occupancy + c.windowCharge ∧ t.kv = s.kv ∧ t.locks = s.locks ∧
        (s.forwards = true → t.pair.owed = s.pair.owed ++ [ref]) ∧
        (s.forwards = false → t = { s with seq := t.seq, cmds := t.cmds }) ∧
        t.Has ref fun d => d.phase = .granted ∧ d.csn = s.seq.next) ∧
  (∀ (ref : Nat) (c : Cmd) (s : State),
    s.cmd? ref = some c → c.phase = .granted → (∀ p ∈ c.parts, p.op ≠ opDeleteRange) → s.warm = false →
    (s.mirroring = true → c.partner = true) → s.Settled →
    Runs (.mutationCommit ref) s fun t =>
      (∀ p, c.parts = [p] → t.kv.versions = s.kv.versions ++ [s.newVersion c p] ∧ (s.newVersion c p).csn = c.csn ∧
        (s.newVersion c p).value = p.newValue) ∧
      (∃ vs, t.kv.versions = s.kv.versions ++ vs ∧ vs.map (fun v => (v.nsid, v.key, v.csn, v.value)) =
        c.parts.map fun p => (p.nsid, p.key, c.csn, p.newValue)) ∧
      t.kv.objects = (match c.obj with
        | some h => s.kv.objects.filter (·.handle != h)
        | none => s.kv.objects) ∧
      t.seq.committed = max s.seq.committed c.csn ∧ t.Has ref fun d => d.phase = .committed ∧ d.reserved = []) ∧
  (∀ (ref : Nat) (c : Cmd) (w : HostWrite) (s : State), s.cmd? ref = some c → c.phase = .committed →
    c.progd = true ∨ c.stagedAll = true →
    let durable := fun (t : State) => (∀ r ∈ t.locks.rows, r.ref ≠ ref) ∧ ∀ v ∈ t.kv.versions, v.csn = c.csn → v.durable = true
    (fStrict (dFlags c.desc) = false ∨ s.atMedia c = true → dOpcode c.desc ≠ opDeleteRange →
      (digestBuffer c.desc = none → ∃ t : State, exec (.journalRecorded ⟨ref, w⟩) s =
        .next (t.finish ref (t.mutationComp c c.mutationResult false)) ∧ durable t) ∧
      (∀ (rkey addr : Nat) (dg : Bytes), digestBuffer c.desc = some (rkey, addr) → c.digest = some dg → s.polls c.sid = true →
        ∃ t : State, exec (.journalRecorded ⟨ref, .acked⟩) s =
          .next ((t.emit (.write c.sid rkey addr dg)).finish ref (t.mutationComp c c.mutationResult true)) ∧ durable t)) ∧
    (fStrict (dFlags c.desc) = true → s.atMedia c = false → Runs (.journalRecorded ⟨ref, w⟩) s fun t => durable t ∧ t.out = s.out ∧
      t.Has ref fun d => d.phase = .committed ∧ d.journal = true) ∧
    (fStrict (dFlags c.desc) = false → dOpcode c.desc = opDeleteRange → Runs (.journalRecorded ⟨ref, w⟩) s fun t =>
      durable t ∧ t.out = s.out ∧ t.Has ref fun d => d.phase = .counting)) ∧
  (∀ (ref : Nat) (c : Cmd) (e : Extent) (w : HostWrite) (s : State), s.cmd? ref = some c →
    (c.phase = .csnWait → c.extents = [e] → e.staged = true → e.progd = false → e.ofObj = false → c.wantsPart e.part = false →
      e.charge = sumNat ((c.parts.filter (·.writes)).map fun p => p.key.length + p.len) → c.token = none → s.warm = false →
      (∀ q ∈ s.seq.charges, ∀ x ∈ q.extents, x.staged = true → x.progd = true) →
      Runs (.slcProgramDone { ref := ref, extent := .ofCommand 0, crc := none, beside := [], w := w }) s fun t =>
        t.seq.tokens = s.seq.tokens + 1 ∧ t.kv.versions.map (fun v => (v.nsid, v.key, v.csn, v.value)) =
            s.kv.versions.map (fun v => (v.nsid, v.key, v.csn, v.value)) ∧
          t.Has ref fun d => d.windowCharge = 0 ∧ d.phase = .csnWait ∧ d.extents.map (·.progd) = [true] ∧
            d.token = some (s.seq.tokens + if ((s.session? c.sid).map (·.front)).getD .a = .b then 2 ^ 63 else 0)) ∧
    (c.phase = .counting → dOpcode c.desc = opDeleteRange →
      exec (.deleteRangeCountDone ref) s = .next (s.finish ref (s.mutationComp c c.keys false))))

/-- COMET_START of each subtype: the comet runs on its snapshot, which stays pinned, an export's versions go to the peer
once all of them are durable, and the command completes with the comet's number and its snapshot. What is refused, and what
waits for the command before it on an ORDERED ring, starts nothing. A running comet's status block is written again with the
next generation, an export that may read now sending its versions first; of an orphan's comet the block is held; an access
error ends the comet. The credit word, when it shows room, ends the wait; what an inconsistent one shows ends the comet. (12
R463, 12 R466, 12 R471, 12 R472) -/
def Obligations.CometsStartAndReport : Prop :=
  (∀ (ref : Nat) (c : Cmd) (s : State) (e : Instr × Nat × CometKind),
    e ∈ [(.cometScan ref, 1, .scan), (.cometSearch ref, 2, .search), (.cometFixityAudit ref, 3, .audit),
      (.cometShortSelfTest ref, 4, .shortTest), (.cometExtendedSelfTest ref, 5, .extTest),
      (.cometNamespaceExport ref, 6, .export_)] →
    s.Ready ref c (isComet e.2.1) →
    let num := unusedFrom (0 :: s.comets.list.map (·.num)) (2 ^ 64) (s.comets.list.length + 2)
      (Config.cometNumber s.fresh).toNat
    let k := s.newComet c e.2.2 num
    let sends := e.2.2 == .export_ && s.maySubmit k
    (s.mayCommit c = false → Runs e.1 s fun t => t.comets = s.comets ∧ t.kv = s.kv ∧ t.Has ref fun d => d.phase = .orderWait) ∧
    (∀ r : Comp, s.mayCommit c = true → s.cometRefusal c e.2.2 = some r →
      Completes e.1 s ref r fun t => t.comets = s.comets ∧ t.kv = s.kv) ∧
    (s.mayCommit c = true → s.cometRefusal c e.2.2 = none → s.comet? num = none →
      Completes e.1 s ref { status := .ok, csn := k.snapshot, result := num } fun t =>
        (∃ u rest, t.comets.list = s.comets.list ++ [u] ∧
          u = { k with submitted := sends, degraded := u.degraded, rebuilt := u.rebuilt } ∧ (sends = false → u.degraded = false) ∧
          t.out = s.out ++ rest ∧ rest.filter (·.toPeer) = if sends then s.exportSubmits k else []) ∧
          k.st = .running ∧ k.num = num ∧ k.sid = c.sid ∧
          t.kv.versions = s.kv.versions ∧ (e.2.2.hasSnapshot = true → t.pinned k.snapshot = true))) ∧
  (∀ (num : Nat) (k : Comet) (x : Session) (bs : Bytes) (s : State),
    s.comet? num = some k → k.st = .running → k.kind ≠ .rebuild → s.session? k.sid = some x →
    let block := fun (k : Comet) (held : Bool) => Output.write k.sid (u32At k.block 8) (u64At k.block 0) (statusBlock k (nextGen k.gen) held)
    let credit := s.emit (.read k.sid (u32At k.block 12) (u64At k.block 24) 8)
    let n := u64At bs 0
    let submits := k.kind == .export_ && !k.submitted && s.maySubmit k
    (x.cls = .live →
      (k.kind ≠ .extTest → submits = false → exec (.cometProgressUpdate num .acked) s = .next
        ((s.emit (block k false)).modComet num fun u => { u with gen := nextGen k.gen, shown := u.bytes })) ∧
      (submits = true → Runs (.cometProgressUpdate num .acked) s fun t =>
        ∃ u rest, t.comet? num = some u ∧ u.gen = nextGen k.gen ∧ u.submitted = true ∧
          t.out = s.out ++ rest ++ [block { k with degraded := u.degraded } false] ∧
          rest.filter (·.toPeer) = s.exportSubmits k) ∧
      (k.kind = .extTest → Runs (.cometProgressUpdate num .acked) s fun t => ∃ u, t.comet? num = some u ∧
        u.gen = nextGen k.gen ∧ u.shown = k.bytes ∧ k.unitsDone ≤ u.unitsDone ∧
          t.out = s.out ++ [block { k with unitsDone := u.unitsDone } false]) ∧
      (x.role ≠ 0 → Runs (.cometProgressUpdate num .accessError) s fun t => ∃ u, t.comet? num = some u ∧ u.st = .aborted ∧ u.endCause = 6) ∧
      (k.consumed ≤ n → n ≤ k.bytes → k.creditWait = false →
        exec (.creditReread num (.data bs)) s = .next (credit.modComet num fun k => { k with consumed := n })) ∧
      (k.consumed < n → n ≤ k.bytes → k.creditWait = true →
        Runs (.creditReread num (.data bs)) s fun t => ∃ u, t.comet? num = some u ∧ u.consumed = n ∧ u.creditWait = false ∧
          u.gen = nextGen k.gen ∧ t.out = credit.out ++ [block { k with consumed := n, creditWait := false } false]) ∧
      (n < k.consumed ∨ k.bytes < n → Runs (.creditReread num (.data bs)) s fun t =>
        ∃ u, t.comet? num = some u ∧ u.st = .aborted ∧ u.endCause = 0x0B) ∧
      (x.role ≠ 0 → Runs (.creditReread num .accessError) s fun t =>
        ∃ u, t.comet? num = some u ∧ u.st = .aborted ∧ u.endCause = 6 ∧ u.bytes = k.shown)) ∧
    (x.cls = .orphan → k.kind ≠ .extTest → Runs (.cometProgressUpdate num .acked) s fun t =>
      t.out = s.out ∧ (∃ u, t.comet? num = some u ∧ u.gen = nextGen k.gen) ∧
        ∃ y, t.session? k.sid = some y ∧ Held.out (block k true) ∈ y.held))

/-- A scan or search reads the pages of a version. A hit goes into the result buffer as a MATCH record when there is room,
and waits for room when there is none; a version that does not match is counted; one that it cannot examine gets an
UNREADABLE record; while it waits it examines nothing; a comet that has examined everything ends DONE. A pin whose lifetime
expires goes, and every comet on it ends EXPIRED with END_STATUS 0x0402; a resynchronisation that used it begins again. A
pin whose linger has passed goes once nothing uses it, and stays while something does. (12 R474, 12 R486, 06 R266, 06 R269) -/
def Obligations.CometsRecordAndEnd : Prop :=
  (∀ (num : Nat) (k : Comet) (v : Version) (x : Session) (s : State),
    s.comet? num = some k → s.session? k.sid = some x → x.cls = .live →
    (k.kind = .scan ∨ k.kind = .search → s.mayRead k = true → s.tooHot k v = false →
      (s.visibleTo k.nsid k.snapshot k.low k.high).find? (·.key == v.key) = some v → v.key ∉ k.seen →
      let read := s.readRange v 0 (k.span v)
      let deg := s.rangeOut v 0 (k.span v)
      let vs := allVerdicts (s.progOf k) (blkMatch k.block) v.key (v.value.getD [])
      let r := matchRecord k v (((s.namespace? k.nsid).map (·.compat)).getD false) deg false vs
      let fits := fun (r : Bytes) => k.creditWait = false ∧ k.padBefore r.length = 0 ∧ k.fits r.length = true
      let appended := fun (t : State) (r : Bytes) (hits : Nat) =>
        t.out = read.out ++ [.write k.sid (u32At k.block 12) (u64At k.block 16 + k.bytes % k.bufSize) r] ∧
          ∃ u, t.comet? num = some u ∧ u.bytes = k.bytes + r.length ∧ u.hits = hits ∧
            u.unitsDone = k.unitsDone + 1 ∧ u.seen = k.seen ++ [v.key] ∧ u.creditWait = false
      let row := Instr.resultRecordWrite num (.version v.key false none false false none) .acked
      (k.creditWait = true → exec row s = .next s) ∧
      (s.unreadableTo k v = false → (v.suite = 2 → v.badSeal = false) →
        (matchTrue (blkMatch k.block) vs = true → fits r → Runs row s fun t => appended t r (k.hits + 1)) ∧
        (k.creditWait = false → matchTrue (blkMatch k.block) vs = true → k.padBefore r.length = 0 → k.fits r.length = false →
          Runs row s fun t => ∃ u, t.comet? num = some u ∧ u.creditWait = true ∧ u.bytes = k.bytes ∧ u.seen = k.seen) ∧
        (k.creditWait = false → matchTrue (blkMatch k.block) vs = false → Runs row s fun t => t.out = read.out ∧
          ∃ u, t.comet? num = some u ∧ u.bytes = k.bytes ∧ u.hits = k.hits ∧ u.unitsDone = k.unitsDone + 1 ∧
            u.seen = k.seen ++ [v.key])) ∧
      (s.unreadableTo k v = true → k.peerWait = false → fits (unreadableRecord v deg (s.keyGone v)) →
        Runs row s fun t => appended t (unreadableRecord v deg (s.keyGone v)) k.hits)) ∧
    (k.st = .running → k.kind ≠ .rebuild → s.allDone k = true → k.creditWait = false →
      Runs (.cometEnd num) s fun t => ∃ u, t.comet? num = some u ∧ u.st = .done ∧ u.endCause = 0)) ∧
  (∀ (csn : Nat) (s : State), s.pinned csn = true →
    (Runs (.pinExpire csn) s fun t =>
      (s.resyncUses csn = false → t.pinned csn = false) ∧ (s.resyncUses csn = true → s.linksUp ≠ [] → s.kv.pins.length ≤ 2048 →
        t.pair.resyncPin = some s.seq.committed ∧ t.pair.resyncDone = 0) ∧
      ∀ (num : Nat) (k : Comet), s.comet? num = some k → k.st = .running → k.pinned = true →
        k.snapshot = csn → ∃ u, t.comet? num = some u ∧ u.st = .expired ∧ u.endCause = 0x0C ∧ u.endStatus = 0x0402) ∧
    (s.resyncUses csn = false → (∀ k ∈ s.comets.list, k.st = .running → k.pinned = true → k.snapshot ≠ csn) →
      exec (.pinLingerExpire csn) s =
        .next (State.reclaim { s with kv := { s.kv with pins := s.kv.pins.filter (·.csn != csn) } })) ∧
    (s.resyncUses csn = true ∨ (∃ k ∈ s.comets.list, k.st = .running ∧ k.pinned = true ∧ k.snapshot = csn) →
      exec (.pinLingerExpire csn) s = .next s))

/-- Exports: a version that the peer holds with an equal digest counts as a hit; one the peer puts off is kept and submitted
again, one put off for 30 s is reported; a peer out of reach for 10 s, or one that refuses the login, ends the comet. (12
R482, 12 R483) -/
def Obligations.ExportsFollowTheirPeer : Prop :=
  ∀ (num st : Nat) (k : Comet) (v : Version) (x : Session) (s : State),
    s.comet? num = some k → k.kind = .export_ → s.session? k.sid = some x → x.cls = .live →
    let row := fun (o : PeerOutcome) => Instr.exportPeerCompletion num v.key v.csn o
    let same : PeerOutcome := { status := 0, digestEqual := true, peerCsn := 0, redirectPair := false }
    (s.mayRead k = true → s.exportVersion k v.key v.csn = some v → blkReportAll k.block = false →
      (k.peerWait = false → exec (row same) s = .next (s.modComet num fun k => (k.examined v.key false true).dropRetry v.key v.csn)) ∧
      (Runs (row same) s fun t => ∃ u, t.comet? num = some u ∧ u.hits = k.hits + 1 ∧ u.unitsDone = k.unitsDone + 1 ∧
        u.bytes = k.bytes ∧ u.seen = k.seen ++ [v.key])) ∧
    (s.mayRead k = true → s.exportVersion k v.key v.csn = some v → st / 256 = 6 →
      Runs (row { same with status := st }) s fun t => ∃ u, t.comet? num = some u ∧ (v.key, v.csn, st) ∈ u.retries ∧
        u.peerWait = true ∧ u.seen = k.seen) ∧
    (s.mayRead k = true → s.exportVersion k v.key v.csn = some v → (v.key, v.csn, st) ∈ k.retries →
      s.tooHot k v = false → exec (.exportRetry num v.key v.csn false) s = .next (s.sendVersion k v)) ∧
    (s.mayRead k = true → s.exportVersion k v.key v.csn = some v → k.retries = [(v.key, v.csn, st)] →
      let r := k.exportRec v st false false 0
      k.padBefore r.length = 0 → k.fits r.length = true →
      Runs (.exportRetry num v.key v.csn true) s fun t => ∃ u, t.comet? num = some u ∧ u.bytes = k.bytes + r.length ∧
        u.hits = k.hits ∧ u.unitsDone = k.unitsDone + 1 ∧ u.retries = [] ∧ u.peerWait = false ∧
        ∃ rest, t.out = s.out ++ [.write k.sid (u32At k.block 12) (u64At k.block 16 + k.bytes % k.bufSize) r] ++ rest) ∧
    (k.st = .running →
      (Runs (.exportPeerTimeout num none) s fun t => ∃ u, t.comet? num = some u ∧ u.st = .aborted ∧ u.endCause = 0x09) ∧
      (Runs (.exportPeerTimeout num (some st)) s fun t =>
        ∃ u, t.comet? num = some u ∧ u.st = .aborted ∧ u.endCause = 0x0A ∧ u.endStatus = st))

/-- Login: BEGIN writes the record that answers it and keeps the nonces, or is refused; PROVE with the right HMAC gives the
session its role and makes it LIVE, or, once its completion is written, hands the orphan that it resumes its queue pair; a
wrong one is counted and the third disconnects; a lock-out ends after its 60 s. (03 R102, 03 R104, 03 R107) -/
def Obligations.LoginGivesTheRole : Prop :=
  ∀ (ref cred : Nat) (c : Cmd) (x : Session) (s : State), s.session? c.sid = some x →
    (s.Ready ref c (isOp 0x40) →
      (∀ k : Comp, s.beginRefusal c.desc = some k → exec (.admLoginBegin ref .acked) s = .next ((s.passed ref).finish ref k)) ∧
      (s.beginRefusal c.desc = none → x.cls ≠ .orphan →
        ∃ data : Bytes, Completes (.admLoginBegin ref .acked) s ref (Comp.okResult data.length) fun t =>
          t.out = s.out ++ [.write c.sid (u32At c.desc 12) (u64At c.desc 16) data] ∧
            ∃ y a, t.session? c.sid = some y ∧ y.begun = some a ∧ a.used = false ∧ a.role = byteAt c.desc 8 ∧
              a.cred = u32At c.desc 24 ∧ a.hostNonce = fit 32 (slice c.desc 32 32) ∧ slice data 0 32 = a.modNonce)) ∧
    (s.Ready ref c (isOp 0x41) →
      (x.begun = none → exec (.admLoginProve ref) s = .next ((s.passed ref).finish ref (Comp.denied 3))) ∧
      ∀ b : BeginRec, x.begun = some b →
        (b.used = true → exec (.admLoginProve ref) s = .next ((s.passed ref).finish ref (Comp.denied 3))) ∧
        (b.used = false → s.proofOk x b (slice c.desc 8 32) = true → x.resuming = none →
          Completes (.admLoginProve ref) s ref (Comp.okResult b.role) fun t => ∃ y, t.session? c.sid = some y ∧
            y.role = b.role ∧ y.cred = b.cred ∧ y.cls = .live ∧ y.transcript = loginTranscript x b) ∧
        (∀ (h : Nat) (o : Session), b.used = false → s.proofOk x b (slice c.desc 8 32) = true → x.resuming = some h → s.orphanOf h = some o →
          o.sid ≠ c.sid → s.session? o.sid = some o → s.mirroring = false → s.ringCmds c.sid 0 = [c] → Runs (.admLoginProve ref) s fun t => t.session? c.sid = none ∧
            ∃ y, t.session? o.sid = some y ∧ y.cls = .live ∧ y.qpn = x.qpn ∧ y.handle = o.handle ∧ y.role = o.role ∧
              y.cred = o.cred ∧ y.held = []) ∧
        (b.used = false → s.proofOk x b (slice c.desc 8 32) = false →
          (x.failed + 1 < 3 → Completes (.admLoginProve ref) s ref (Comp.denied 10) fun t => ∃ y, t.session? c.sid = some y ∧
            y.failed = x.failed + 1 ∧ y.role = x.role ∧ y.cls = x.cls) ∧
          (3 ≤ x.failed + 1 → Runs (.admLoginProve ref) s fun t => t.session? c.sid = none))) ∧
    (Runs (.loginLockoutExpire cred) s fun t => t.lockedOut cred = false ∧
      ∀ n, n ≠ cred → t.lockedOut n = s.lockedOut n)

/-- The ring family on data rings: a created ring is ACTIVE with indices 0, a STOPPED ring starts at 0 again, a resize takes
the new bases, a query writes the 32-byte record, and all complete with ST_OK; on ring 0, on a ring in another state and
with parameters out of range they are denied. A reset or destroy of a data ring that runs makes it RESETTING with RESET_SEQ
incremented; one of a ring that is RESETTING waits; one of a STOPPED ring reports or releases it at once. Once its last
completion is written, a reset in progress ends with the ring STOPPED, or released, its report written, and then the
requests that waited are served. (03 R110, 03 R112, 03 R113, 03 R114, 03 R140) -/
def Obligations.RingsAreManaged : Prop :=
  (∀ (ref : Nat) (c : Cmd) (s : State), let ring := rpRing c.desc
    (s.Ready ref c (isOp 0x42) →
      let bad := ring = 0 ∨ (s.ring? c.sid ring).isSome = true ∨ ringBasesOk c.desc = false ∨ ringTimesOk c.desc = false
      (bad → exec (.admRingCreate ref) s = .next ((s.passed ref).finish ref (Comp.denied 7))) ∧
      (¬bad → 131072 ≤ s.ringCount → exec (.admRingCreate ref) s = .next ((s.passed ref).finish ref (Comp.plain .busyRetry))) ∧
      (¬bad → s.ringCount < 131072 →
        exec (.admRingCreate ref) s = .next (((s.passed ref).addRing c.sid (newRing c.desc)).finish ref (Comp.okResult 0)) ∧
        (newRing c.desc).st = .active ∧ (newRing c.desc).fetch = 0 ∧ (newRing c.desc).cqCount = 0)) ∧
    (s.ring? c.sid ring = none → s.Ready ref c (isOp 0x47) →
      exec (.admRingQuery ref .acked) s = .next ((s.passed ref).finish ref (Comp.denied 7))) ∧
    (∀ r : Ring, s.ring? c.sid ring = some r →
      (s.Ready ref c (isOp 0x45) →
        (ring = 0 ∨ r.st ≠ .stopped → exec (.admRingStart ref) s = .next ((s.passed ref).finish ref (Comp.denied 7))) ∧
        (ring ≠ 0 → r.st = .stopped →
          exec (.admRingStart ref) s = .next (((s.passed ref).modRing c.sid ring fun r =>
            { r with st := .active, producer := 0, fetch := 0, cqCount := 0, eventDue := false, asked := 0, ahead := [],
                     reread := false, finished := [], decided := [] }).finish ref (Comp.okResult 0)))) ∧
      (s.Ready ref c (isOp 0x46) →
        (ring = 0 ∨ r.st ≠ .stopped ∨ ringBasesOk c.desc = false →
          exec (.admRingResize ref) s = .next ((s.passed ref).finish ref (Comp.denied 7))) ∧
        (ring ≠ 0 → r.st = .stopped → ringBasesOk c.desc = true →
          exec (.admRingResize ref) s = .next (((s.passed ref).modRing c.sid ring fun r =>
            { r with sqBase := u64At c.desc 16, cqBase := u64At c.desc 24, dbAddr := u64At c.desc 32, rkey := u32At c.desc 12,
                     sqLog2 := byteAt c.desc 10, cqLog2 := byteAt c.desc 11 }).finish ref (Comp.okResult 0)))) ∧
      (s.Ready ref c (isOp 0x47) → s.isOrphan c.sid = false →
        Completes (.admRingQuery ref .acked) s ref (Comp.okResult 0) fun t =>
          t.out = s.out ++ [.write c.sid (u32At c.desc 12) (u64At c.desc 16) (ringRecord s c.sid r)]))) ∧
  (∀ (ref sid ring : Nat) (c : Cmd) (r : Ring) (t : ResetRec) (w : HostWrite) (later : List HostWrite) (s : State),
    (s.ring? c.sid (rpRing c.desc) = some r → r.idx ≠ 0 → c.ring ≠ r.idx → (∀ d ∈ s.cmds.list, d.ref = ref → d = c) →
      ∀ e ∈ [(Instr.admRingReset ⟨ref, w⟩, 0x44), (.admRingDestroy ref, 0x43)], s.Ready ref c (isOp e.2) →
        (r.st ≠ .stopped → r.st ≠ .resetting → Runs e.1 s fun u =>
          (∃ q, u.ring? c.sid r.idx = some q ∧ q.st = .resetting ∧ q.resetSeq = r.resetSeq + 1 ∧ q.reset.isSome = true) ∧
            u.Has ref fun d => d.phase = .adminWait) ∧
        (r.st = .resetting → Runs e.1 s fun u =>
          (∃ q, u.ring? c.sid r.idx = some q ∧ q.waiting = r.waiting ++ [ref]) ∧ u.Has ref fun d => d.phase = .adminWait)) ∧
    (s.ring? c.sid (rpRing c.desc) = some r → r.idx ≠ 0 → r.st = .stopped →
      (s.Ready ref c (isOp 0x43) →
        exec (.admRingDestroy ref) s = .next (((s.passed ref).dropRing c.sid r.idx).finish ref (Comp.okResult 0))) ∧
      (s.Ready ref c (isOp 0x44) → w = .acked →
        Completes (.admRingReset ⟨ref, w⟩) s ref (Comp.okResult (reportResult (u64At c.desc 16))) fun u =>
          ∃ q, u.ring? c.sid r.idx = some q ∧ q.st = .stopped ∧ q.resetSeq = r.resetSeq + 1)) ∧
    (s.ring? sid ring = some r → r.reset = some t → s.ringCmds sid ring = [] →
      let row := Instr.ringResetEnd sid ring ⟨w, later⟩
      let rest := fun (u : State) => (withAnswers r.waiting later).foldl State.resetWaited u
      let reported := fun (u : State) =>
        s.polls sid = true → u.out = s.out ++ (if t.bufAddr = 0 then [] else [.write sid t.bufRkey t.bufAddr (resetReport r t)])
      let stopped := fun (u : State) => ∃ q, u.ring? sid ring = some q ∧ q.st = .stopped ∧ q.reset = none ∧ q.csnMark = 0
      (s.reportFails sid t w = false →
        (t.admin = none → ∃ u : State, exec row s = .next (rest u) ∧ stopped u ∧ reported u) ∧
        (∀ a : Nat, t.admin = some a → t.cause ≠ 2 → ∃ u : State,
          exec row s = .next (rest (u.finish a (Comp.okResult (reportResult t.bufAddr)))) ∧ stopped u ∧ reported u) ∧
        (∀ a : Nat, t.admin = some a → t.cause = 2 → ∃ u : State,
          exec row s = .next (rest (u.finish a (Comp.okResult (reportResult t.bufAddr)))) ∧ u.ring? sid ring = none ∧ reported u)) ∧
      (∀ a : Nat, s.reportFails sid t w = true → s.roleOf sid ≠ 0 → t.admin = some a → t.cause ≠ 2 → ∃ u : State,
        exec row s = .next (rest (u.finish a (Comp.okResult 0))) ∧ stopped u ∧ u.isOrphan sid = true)))

/-- A connection request that the module accepts makes a PENDING session on the Front of its port, answers with REP and
wakes the module; any other is answered with REJ and changes nothing, and before step 12 of a start nothing answers. A
session that ends, by its host's DREQ, or with its age at its limit by the end of its hold or by the ageing sweep, is gone
with its object sessions, its comets and its commands, save mutations that have their CSN; ended by age, the module sends
DREQ first, but to the host of an orphan. After login a queue pair error makes the session an orphan with the time of its
hold, and the commands that still need its host's memory end; before login it ends the session; an orphan stays as it is.
What its host sends against the rules is answered with a NAK first. (03 R91, 03 R93, 03 R147, 03 R152, 10 R409) -/
def Obligations.SessionsComeAndGo : Prop :=
  (∀ (q : ConnReq) (s : State),
    (s.acceptsConnection q = true → Runs (.connectionRequest q) s fun t =>
      t.sess.sessions = s.sess.sessions ++ [s.newSession q] ∧ t.sess.nextSid = s.sess.nextSid + 1 ∧
        (s.newSession q).cls = .pending ∧ (s.newSession q).role = 0 ∧ (s.newSession q).limit = 10000 ∧
        (s.power.entering = none → s.power.pstate ∈ [.p1, .p2, .p3] → t.power.exiting = true) ∧
        t.out = s.out ++ [.rep s.sess.nextSid q.lport (repData s.ident.moduleId s.newHandle s.fresh)]) ∧
    (s.acceptsConnection q = false → s.onAir = true → exec (.connectionRequest q) s = .next (s.emit (.rej q.lport))) ∧
    (s.power.step ≠ 12 → exec (.connectionRequest q) s = .next s)) ∧
  (∀ (sid : Nat) (x : Session) (s : State), s.session? sid = some x →
    let gone := fun (t : State) => t.session? sid = none ∧ (∀ o ∈ t.kv.objects, o.sid ≠ sid) ∧
      (∀ d ∈ t.cmds.list, d.sid = sid → d.hasCsn = true) ∧ t.kv.versions = s.kv.versions ∧
      ((∀ k ∈ s.comets.list, s.comet? k.num = some k) → ∀ k ∈ t.comets.list, k.sid = sid → k.kind = .rebuild)
    let aged := x.limit ≠ 0 ∧ x.limit ≤ x.age
    let paused := x.cls = .live ∧ (s.power.pstate = .p2 ∨ s.power.pstate = .p3)
    (Runs (.hostDreq sid) s fun t => gone t ∧ t.out = s.out ++ [.drep sid]) ∧
    (aged → x.cls = .orphan → Runs (.orphanHoldExpire sid) s fun t => gone t ∧ t.out = s.out) ∧
    (¬aged ∨ x.cls ≠ .orphan → exec (.orphanHoldExpire sid) s = .next s) ∧
    (aged → ¬paused → Runs (.sessionAgeOut sid) s fun t => gone t ∧
      t.out = s.out ++ if x.cls = .orphan then [] else [.dreq sid]) ∧
    (¬aged ∨ paused → exec (.sessionAgeOut sid) s = .next s)) ∧
  (∀ (sid : Nat) (x : Session) (s : State), s.session? sid = some x →
    ∀ e ∈ [(Instr.qpError sid, s), (.invalidHostOperation sid, s.emit (.nak sid))],
      (x.role = 0 → Runs e.1 s fun t => t.session? sid = none ∧ t.out = e.2.out ∧ t.kv.versions = s.kv.versions) ∧
      (x.role ≠ 0 → x.cls = .orphan → exec e.1 s = .next e.2) ∧
      (x.role ≠ 0 → x.cls ≠ .orphan →
        (Runs e.1 s fun t => t.kv.versions = s.kv.versions ∧
          (∃ y, t.session? sid = some y ∧ y.cls = .orphan ∧ y.age = 0 ∧ y.limit = s.settings.orphanHold * 1000 ∧
            y.role = x.role ∧ y.cred = x.cred ∧ y.handle = x.handle) ∧
          ∀ d ∈ s.cmds.list, d.sid = sid → (e.2.holdSession sid).endsAtOrphan d = true →
            ∀ f ∈ t.cmds.list, f.ref = d.ref → f.phase = .finished) ∧
        ((∀ d ∈ s.cmds.list, d.sid = sid → (e.2.holdSession sid).endsAtOrphan d = false) →
          exec e.1 s = .next (e.2.holdSession sid))))

/-- Polling: a poll reads the Doorbell Record; a producer index within the ring's size starts the read of what is posted, or
makes the ring wait while fetching is paused; one beyond it moves the ring to FAULTED. One descriptor that was read, while
no other ring waits, is taken: the fetch index advances, and its command is in flight under the next reference, held by
FENCE, waiting for the areas it needs, ready for its row, or with an opcode that is not listed; one that an early check
turns away has that check's status. (03 R118, 03 R121, 03 R122, 06 R273) -/
def Obligations.RingsAreFetched : Prop :=
  (∀ (sid ring : Nat) (p : BitVec 32) (r : Ring) (s : State),
    s.ring? sid ring = some r → r.st = .active → r.reread = false → s.polls sid = true →
    (s.fetching = true → exec (.doorbellPoll sid ring) s =
      .next ((s.emit (.read sid r.rkey r.dbAddr 8)).modRing sid ring fun r => { r with polled := r.polled + 1 })) ∧
    ((p - r.fetch).toNat ≤ 2 ^ r.sqLog2 →
      (Runs (.doorbellReadResponse sid ring p) s fun t => ∃ q, t.ring? sid ring = some q ∧ q.producer = p) ∧
      (s.fetching = true → p ≠ r.fetch → r.asked = 0 → r.ahead = [] → s.sess.waits = [] →
        (s.fetchPaused sid = false → Runs (.doorbellReadResponse sid ring p) s fun t =>
          t.out = s.out ++ [fetchRead sid { r with producer := p }] ∧
            ∃ q, t.ring? sid ring = some q ∧ q.asked = fetchCount { r with producer := p }) ∧
        (s.fetchPaused sid = true → Runs (.doorbellReadResponse sid ring p) s fun t =>
          t.out = s.out ∧ (sid, ring) ∈ t.sess.waits))) ∧
    (2 ^ r.sqLog2 < (p - r.fetch).toNat → Runs (.doorbellReadResponse sid ring p) s fun t =>
      t.out = s.out ∧ ∃ q, t.ring? sid ring = some q ∧ q.producer = p ∧ q.st = .faulted)) ∧
  (∀ (sid ring : Nat) (d : Bytes) (r : Ring) (x : Session) (s : State),
    s.session? sid = some x → x.ring? ring = some r → r.st = .active → s.polls sid = true → s.fetching = true →
    0 < r.asked → r.ahead = [] → r.fetch.toNat ∉ r.finished → r.decided.find? (·.count == r.fetch.toNat) = none →
    s.mayTake sid d = true → s.cmd? s.cmds.nextRef = none → s.sess.waits = [] →
    let e := fit 64 d
    let turned := if opKnown (dOpcode e) then (s.earlyCheck x ring e).or (if opByteOk e then none else some (Comp.denied 7)) else none
    Runs (.descriptorFetch sid ring [d]) s fun t =>
      (∃ q, t.ring? sid ring = some q ∧ q.fetch = r.fetch + 1) ∧ t.cmds.nextRef = s.cmds.nextRef + 1 ∧
        (∀ k, turned = some k → ∀ c ∈ t.cmds.list, c.ref = s.cmds.nextRef → c.phase = .finished ∧ c.done = some k) ∧
        (turned = none → t.Has s.cmds.nextRef fun c => c.desc = e ∧ c.sid = sid ∧ c.ring = ring ∧ c.count = r.fetch ∧
          c.phase = if !opKnown (dOpcode e) then .unknown else if s.mustFence (s.heldDescriptor sid r e) then .fenced
            else if needsAreas e then .areas else .ready))

/-- Idle rings: a ring that sees no advance in its last read goes IDLE with its marker written, one that sees an advance
stays ACTIVE; an IDLE ring whose Doorbell Record shows an advance goes ACTIVE again, in a sweep or by a Nudge that names it;
any other Nudge is counted as ignored. One event announces the completions of an interval, in the form the ring asks for.
(03 R124, 03 R126, 03 R128, 03 R137) -/
def Obligations.IdleRingsAndEvents : Prop :=
  (∀ (sid ring : Nat) (p imm : BitVec 32) (r : Ring) (x : Session) (seen : List (Nat × BitVec 32)) (s : State),
    s.session? sid = some x → x.cls = .live → x.ring? ring = some r →
    let goesOn := fun (t : State) => ∃ q, t.ring? sid ring = some q ∧ q.st = .active ∧ q.producer = p
    (r.st = .active →
      (p = r.fetch → Runs (.ringIdleTimeout sid ring p) s fun t =>
        (∃ q, t.ring? sid ring = some q ∧ q.st = .idle ∧ q.idleSeq = r.idleSeq + 1) ∧
          t.out = s.out ++ [.write sid r.rkey (r.dbAddr + 4) (toLe 4 ((r.idleSeq + 1).toNat + 2 ^ 31)),
            .read sid r.rkey r.dbAddr 8]) ∧
      (p ≠ r.fetch → (p - r.fetch).toNat ≤ 2 ^ r.sqLog2 → Runs (.ringIdleTimeout sid ring p) s goesOn) ∧
      (r.reread = true → r.polled = 0 → p = r.fetch → Runs (.doorbellReadResponse sid ring p) s fun t =>
        t.out = s.out ∧ ∃ q, t.ring? sid ring = some q ∧ q.st = .idle ∧ q.reread = false) ∧
      (r.reread = true → r.polled = 0 → p ≠ r.fetch → (p - r.fetch).toNat ≤ 2 ^ r.sqLog2 → Runs (.doorbellReadResponse sid ring p) s goesOn)) ∧
    (r.st = .idle → p ≠ r.fetch → (p - r.fetch).toNat ≤ 2 ^ r.sqLog2 →
      (s.power.pstate = .p0 ∨ s.power.pstate = .p1 → s.fetching = true → Runs (.idleSweep [(sid, ring, p)]) s goesOn) ∧
      (nudgeType imm = 1 → (nudgeAll imm = false ∧ nudgeIdx imm = ring) ∨
          (nudgeAll imm = true ∧ (x.rings.filter fun r => decide (r.st = .idle)) = [r]) →
        Runs (.nudge sid imm [(ring, p)]) s fun t =>
          t.sess.nudges = s.sess.nudges + 1 ∧ t.sess.ignored = s.sess.ignored ∧ goesOn t)) ∧
    (nudgeType imm ≠ 1 ∨ (nudgeAll imm = false ∧ nudgeIdx imm = ring ∧ r.st ≠ .idle) → Runs (.nudge sid imm seen) s fun t =>
      t.sess.nudges = s.sess.nudges + 1 ∧ t.sess.ignored = s.sess.ignored + 1 ∧ t.ring? sid ring = some r ∧ t.out = s.out)) ∧
  (∀ (sid ring : Nat) (r : Ring) (s : State), s.ring? sid ring = some r → r.eventDue = true → s.polls sid = true →
    exec (.completionEvent sid ring) s =
      .next (((s.emitAll (eventOutput sid r)).refresh sid).modRing sid ring fun r => { r with eventDue := false }) ∧
    (r.event = 1 → eventOutput sid r = [.immediate sid r.idx]) ∧
    (r.event = 2 → eventOutput sid r = [.send sid (toLe 2 r.idx ++ zeros 2 ++ toLe 4 r.cqCount.toNat)]))

/-- A namespace is created with its attributes, no use, and its default rules, after identifiers of finished deletions are
freed; a change replaces the attributes that SET_MASK selects; in PRIMARY both wait for the partner first; a query writes
the 64-byte record. A deletion in its three steps, while no change of settings waits for the partner: it is begun; at its
point no version of the namespace is left and the namespace is gone for every command, in PRIMARY once the partner holds the
deletion too; it completes with the number of keys deleted once no command holds it up, and the identifier is free. (13
R494, 13 R496, 13 R498) -/
def Obligations.NamespacesAreMadeAndDeleted : Prop :=
  (∀ (ref : Nat) (c : Cmd) (n : Namespace) (s : State),
    ((∀ k ∈ s.ns, k.gone = false) → s.reapNamespaces = s) ∧
    (s.Ready ref c (isOp 0x48) → s.reapNamespaces.nsCreateRefusal c = none → s.mode.mode ≠ .custody ∧
      Changes (.admNsCreate ref) s s.reapNamespaces ref (Comp.okResult 0)
        ((newNamespace c.desc s.time.now).change ::
          (if npNoDefaults c.desc then [] else defaultRules (dNsid c.desc) (s.credOf c) (s.roleOf c.sid == 2)).map Rule.change ++
          (if s.roleOf c.sid == 2 then [SettingsChange.grant (s.credOf c) (dNsid c.desc)] else [])) fun t =>
        t.ns = s.reapNamespaces.ns ++ [newNamespace c.desc s.time.now] ∧
          (npNoDefaults c.desc = true → t.asu = s.reapNamespaces.asu) ∧
          (npNoDefaults c.desc = false → s.roleOf c.sid = 1 → t.asu.rules = addRule s.reapNamespaces.asu.rules
            { idx := 0, nsid := dNsid c.desc, credAny := true, roles := 1, ops := 0xFF, allow := true })) ∧
    (s.namespace? (dNsid c.desc) = some n → n.gone = false →
      (s.Ready ref c (isOp 0x49) → s.mayAdminister c (dNsid c.desc) = true → npFixity c.desc ≠ 3 →
        Changes (.admNsSet ref) s s ref (Comp.okResult 0) [.nsSet (dNsid c.desc) c.desc] fun t => t.namespace? (dNsid c.desc) = some
          { n with quotaBytes := if npMask c.desc 0 then npQuotaBytes c.desc else n.quotaBytes,
                   quotaObjs := if npMask c.desc 1 then npQuotaObjs c.desc else n.quotaObjs,
                   fixity := if npMask c.desc 2 then npFixity c.desc else n.fixity,
                   compat := if npMask c.desc 3 then npCompat c.desc else n.compat }) ∧
      (s.Ready ref c (isOp 0x4B) → s.mayQuery c (dNsid c.desc) = true → s.isOrphan c.sid = false →
          s.session? c.sid ≠ none →
        Completes (.admNsQuery ref .acked) s ref (Comp.okResult 0) fun t =>
          t.out = s.out ++ [.write c.sid (u32At c.desc 12) (u64At c.desc 16) (nsRecord n (s.deleting (dNsid c.desc)))]))) ∧
  (∀ (ref : Nat) (c : Cmd) (n : Namespace) (s : State), s.Ready ref c (isOp 0x4A) → s.Settled → s.pair.change = none →
    s.namespace? (dNsid c.desc) = some n → (∀ d ∈ s.cmds.list, d.inNamespace (dNsid c.desc) = false) →
    (c.decided = false → n.gone = false → s.deleting (dNsid c.desc) = false →
      s.mayAdminister c (dNsid c.desc) = true →
      Runs (.admNsDelete ref) s fun t => t.kv.versions = s.kv.versions ∧ (∀ o ∈ t.kv.objects, o.nsid ≠ dNsid c.desc) ∧
        t.Has ref fun d => d.decided = true) ∧
    (c.decided = true → n.gone = false → s.forwards = true → Runs (.admNsDelete ref) s fun t =>
      t.pair.change = some { ref := ref, changes := [.nsGone (dNsid c.desc)], after := .deletion } ∧ t.kv = s.kv ∧ t.ns = s.ns) ∧
    (c.decided = true → n.gone = false → s.forwards = false → Runs (.admNsDelete ref) s fun t =>
      (∀ v ∈ t.kv.versions, v.nsid ≠ dNsid c.desc) ∧ t.nsExists (dNsid c.desc) = false ∧
        t.Has ref fun d => d.acc = s.keyCount (dNsid c.desc)) ∧
    (c.decided = true → n.gone = true →
      Completes (.admNsDelete ref) s ref (Comp.okResult c.acc) fun t => t.namespace? (dNsid c.desc) = none))

/-- ADM_CREDENTIAL: each operation on a credential, with a secret that unwraps; in PRIMARY each waits for the partner first.
ADM_RULE by a Custodian: a rule takes the lowest free row, a removed row is gone, an evaluation writes the matching rows in
cursor order. (13 R500, 13 R502, 13 R503, 13 R505) -/
def Obligations.CredentialsAndRulesAreKept : Prop :=
  (∀ (ref : Nat) (c : Cmd) (k : Credential) (bs secret : Bytes) (s : State),
    (keyUnwrap (s.wrapKey c "PX-WRAP") (fit 40 bs) = some secret → s.Ready ref c (isAdm 0x4C 1) → cpCred c.desc ≠ 0 → cpRole c.desc ≠ 0 →
      s.isCustodian c = true ∨ cpRole c.desc = 3 → s.credential? (cpCred c.desc) = none → s.creds.list.length < 16384 →
      Changes (.credentialCreate ref (.data bs)) s s ref (Comp.okResult 0)
        [.credAdd (cpCred c.desc) (cpRole c.desc) secret (s.credOf c)] fun t => t.creds.list = s.creds.list ++
        [{ cred := cpCred c.desc, role := cpRole c.desc, secret := secret, creator := s.credOf c }]) ∧
    (s.credential? (cpCred c.desc) = some k →
      (keyUnwrap (s.wrapKey c "PX-WRAP") (fit 40 bs) = some secret → s.Ready ref c (isAdm 0x4C 2) → s.mayChange c k = true →
        Changes (.credentialSetSecret ref (.data bs)) s s ref (Comp.okResult 0) [.credSecret k.cred secret] fun t =>
          t.credential? k.cred = some { k with secret := secret }) ∧
      (s.Ready ref c (isAdm 0x4C 5) → s.mayChange c k = true → s.pair.change = none → s.forwards = false →
        (k.role = 1 → (s.creds.list.filter (·.role == 1)).length ≠ 1) →
        ∃ t : State, exec (.credentialDelete ref) s = .next ((t.finish ref (Comp.okResult 0)).endSessions
            (fun x => x.role != 0 && x.cred == k.cred) true) ∧
          t.creds.list = s.creds.list.filter (·.cred != k.cred) ∧ t.asu = s.asu) ∧
      (s.Ready ref c (isAdm 0x4C 5) → s.mayChange c k = true → s.pair.change = none → s.forwards = true →
        (k.role = 1 → (s.creds.list.filter (·.role == 1)).length ≠ 1) → Runs (.credentialDelete ref) s fun t =>
          t.pair.change = some { ref := ref, changes := [.credGone k.cred], after := .done (Comp.okResult 0) } ∧
            t.creds = s.creds ∧ t.sess = s.sess)) ∧
    (s.grantee c = .inl k →
      (s.Ready ref c (isAdm 0x4C 3) → s.nsExists (cpNsid c.desc) = true → cpNsid c.desc ∉ k.grants →
        k.grants.length < 4096 →
        Changes (.credentialGrant ref) s s ref (Comp.okResult 0) [.grant k.cred (cpNsid c.desc)] fun t =>
          t.credential? k.cred = some { k with grants := k.grants ++ [cpNsid c.desc] }) ∧
      (s.Ready ref c (isAdm 0x4C 4) → cpNsid c.desc ∈ k.grants →
        Changes (.credentialRevoke ref) s s ref (Comp.okResult 0) [.revoke k.cred (cpNsid c.desc)] fun t =>
          t.credential? k.cred = some { k with grants := k.grants.filter (· != cpNsid c.desc) })) ∧
    (keyUnwrap (s.wrapKey c "PX-WRAP") (fit 40 bs) = some secret → s.Ready ref c (isAdm 0x4C 6) → cpCred c.desc ≠ 0 → s.isCustodian c = true → s.creds.outbound.length < 256 →
      Changes (.credentialOutboundSet ref (.data bs)) s s ref (Comp.okResult 0) [.outbound (cpCred c.desc) (some secret)] fun t =>
        assoc (cpCred c.desc) t.creds.outbound = some secret ∧ t.creds.list = s.creds.list) ∧
    (s.Ready ref c (isAdm 0x4C 7) → s.isCustodian c = true → (assoc (cpCred c.desc) s.creds.outbound).isSome = true →
      Changes (.credentialOutboundDelete ref) s s ref (Comp.okResult 0) [.outbound (cpCred c.desc) none] fun t =>
        assoc (cpCred c.desc) t.creds.outbound = none ∧ t.creds.list = s.creds.list)) ∧
  (∀ (ref role ops : Nat) (c : Cmd) (r : Rule) (s : State), s.isCustodian c = true →
    (s.Ready ref c (isAdm 0x4D 1) → upLen c.desc ≤ 16 → s.nsExists (dNsid c.desc) = true → s.asu.rules.length < 4096 →
      Changes (.ruleAdd ref) s s ref (Comp.okResult (freeRule s.asu.rules)) [(ruleOf c.desc).change] fun t =>
        t.asu.rules = insertRule { ruleOf c.desc with idx := freeRule s.asu.rules } s.asu.rules) ∧
    (s.Ready ref c (isAdm 0x4D 2) → s.asu.rules.find? (·.idx == upRow c.desc) = some r →
      Changes (.ruleRemove ref) s s ref (Comp.okResult 0) [.ruleGone r.idx] fun t =>
        t.asu.rules = s.asu.rules.filter (·.idx != upRow c.desc)) ∧
    (s.Ready ref c (isAdm 0x4D 3) → oneBit 3 (upRoles c.desc) = some role → oneBit 8 (upOps c.desc) = some ops →
      upLen c.desc ≤ 16 → s.nsExists (dNsid c.desc) = true → s.isOrphan c.sid = false → s.session? c.sid ≠ none →
      Completes (.ruleEvaluate ref .acked) s ref (Comp.okResult 0) fun t =>
        t.out = s.out ++ [.write c.sid (u32At c.desc 48) (u64At c.desc 40)
          (ruleRecord (matching s.asu.rules (dNsid c.desc) (role + 1) (upCred c.desc) ops (upKey c.desc)))]))

/-- ADM_KEYSLOT: an import loads the slot with the root key whose check value it names, an erase empties a slot that no
namespace uses, a limit below the use makes the next generation current, and a query writes the record. ADM_PROGRAM_LOAD:
loads and unloads queue at their slot, and at its turn a good image becomes the current generation, one above the last. (14
R535, 14 R537, 14 R540, 11 R454) -/
def Obligations.KeySlotsAndPrograms : Prop :=
  (∀ (ref : Nat) (c : Cmd) (bs root : Bytes) (s : State),
    (s.Ready ref c (isAdm 0x4E 1) → keyUnwrap (s.wrapKey c "PX-SLOT") (fit 40 bs) = some root →
      s.importRefusal c.desc root = none →
      ∃ t : State, exec (.keyslotImport ref (.data bs)) s = .next ((t.finish ref (Comp.okResult 0)).vaultChecked) ∧
        t.keySlot (kpSlot c.desc) =
          { s.keySlot (kpSlot c.desc) with slot := kpSlot c.desc, st := .loaded, root := root, kcv := kpKcv c.desc }) ∧
    (s.Ready ref c (isAdm 0x4E 2) → s.slotUsers (kpSlot c.desc) = 0 →
      ∃ t : State, exec (.keyslotErase ref) s = .next ((t.finish ref (Comp.okResult 0)).vaultChecked) ∧
        t.slotLoaded (kpSlot c.desc) = false ∧ (t.keySlot (kpSlot c.desc)).root = [] ∧
        (∀ e ∈ t.vault.cached, e.2 ≠ kpSlot c.desc)) ∧
    (s.Ready ref c (isAdm 0x4E 3) → 24 ≤ kpLimit c.desc → kpLimit c.desc ≤ 40 →
      Completes (.keyslotSetLimit ref) s ref (Comp.okResult 0) fun t =>
        (t.keySlot (kpSlot c.desc)).limit = kpLimit c.desc ∧
          (2 ^ kpLimit c.desc < (s.keySlot (kpSlot c.desc)).used →
            (t.keySlot (kpSlot c.desc)).gen = (s.keySlot (kpSlot c.desc)).gen + 1 ∧
              (t.keySlot (kpSlot c.desc)).used = 0)) ∧
    (s.Ready ref c (isAdm 0x4E 4) → s.isOrphan c.sid = false → s.session? c.sid ≠ none →
      Completes (.keyslotQuery ref .acked) s ref (Comp.okResult 0) fun t =>
        t.out = s.out ++ [.write c.sid (u32At c.desc 12) (u64At c.desc 16)
          (slotRecord (s.keySlot (kpSlot c.desc)) (s.slotUsers (kpSlot c.desc)))])) ∧
  (∀ (ref slot : Nat) (c : Cmd) (p : ProgSlot) (l : ProgLoad) (ls : List ProgLoad) (bs : Bytes) (s : State),
    (s.Ready ref c isLoad → loadOk c.desc = true → exec (.admProgramLoad ref) s =
      .next (((s.passed ref).modProg (ppSlot c.desc) fun p => { p with queue := p.queue ++ [loadOf c] }).modCmd ref fun c =>
        { c with phase := .adminWait })) ∧
    (s.Ready ref c isUnload → loadOk c.desc = true → exec (.programUnload ref) s =
      .next (((s.passed ref).modProg (ppSlot c.desc) fun p => { p with queue := p.queue ++ [loadOf c] }).modCmd ref fun c =>
        { c with phase := .adminWait })) ∧
    (s.programs.find? (·.slot == slot) = some p → p.queue = l :: ls → s.cmd? l.ref = some c → c.phase = .adminWait →
      s.modeOf (s.roleOf c.sid) 0x4F = none → s.nsExists l.nsid = true → s.isCustodian c = true →
      s.retainedUsed p = false → l.unload = false → imageOk (fit l.len bs) = true → s.pair.change = none →
      (s.forwards = true → Runs (.programLoadTurn slot (.data bs)) s fun t =>
        t.pair.change = some
          { ref := l.ref, changes := [.program slot (p.lastGen + 1) l.nsid l.shared (fit l.len bs)],
            after := .done { status := .ok, result := p.lastGen + 1 + slot * 2 ^ 32, aux := imgStates (fit l.len bs) } } ∧
          ∃ q, t.programs.find? (·.slot == slot) = some q ∧ q.current = p.current ∧ q.queue = p.queue) ∧
      (s.forwards = false → Completes (.programLoadTurn slot (.data bs)) s l.ref
        { status := .ok, result := p.lastGen + 1 + slot * 2 ^ 32, aux := imgStates (fit l.len bs) } fun t =>
          ∃ q, t.programs.find? (·.slot == slot) = some q ∧ q.retained = p.current ∧ q.lastGen = p.lastGen + 1 ∧ q.queue = ls ∧
            q.current = some { gen := p.lastGen + 1, image := fit l.len bs, nsid := l.nsid, shared := l.shared,
                               buildId := imgBuildId (fit l.len bs), nStates := imgStates (fit l.len bs) })))

/-- FORM with a partner that waits to join and a witness at 0 makes the module PRIMARY, member 0, with a lease, and starts
the resynchronisation; a condition that fails denies it. JOIN waits 10 min; SET_WITNESS takes the new word with IN_STEP; a
query writes the pair record. SWAP answers by its epoch: out of step it is busy, an epoch that is past is superseded,
another one denied; one that runs on the MIRROR or in eclipse is forwarded, and one that wins the witness makes the old
primary MIRROR at the next epoch, without a pin and without a mutation that is granted and not committed. A dissolution on
the primary, or on a MIRROR in step, leaves it SOLO; with FORCE, so does one on a member whose partner cannot be reached,
with ATTN#. (15 R559, 15 R560, 15 R581, 15 R586) -/
def Obligations.PairsFormAndDissolve : Prop :=
  (∀ (ref : Nat) (c : Cmd) (q : PartnerInfo) (s : State),
    let fits := qpAddr c.desc % 8 = 0 ∧ s.linksUp ≠ [] ∧ q.joinPending = true ∧ q.version = 1 ∧ s.kcvsMatch q = true
    (s.Ready ref c (isAdm 0x50 1) → s.mode.mode = .solo →
      (fits → Completes (.pairForm ref q (.value 0) (.value 0)) s ref (Comp.okResult 1) fun t =>
        t.mode.mode = .primary ∧ t.pair.paired = true ∧ t.pair.member = 0 ∧ t.pair.epoch = 1 ∧ t.pair.inStep = false ∧
          t.pair.word = witness 1 false 0 1 ∧ t.pair.lease = some (s.time.now + 500000000) ∧
          (s.pinned s.seq.committed = true ∨ s.kv.pins.length < 2048 → t.pair.resyncOn = true)) ∧
      (¬fits → exec (.pairForm ref q (.value 0) (.value 0)) s = .next ((s.passed ref).finish ref (Comp.denied 7)))) ∧
    (s.Ready ref c (isAdm 0x50 2) → s.mode.mode = .solo →
      ((∀ n ∈ s.ns, n.gone = true) → Completes (.pairJoin ref) s ref (Comp.okResult 0) fun t =>
        t.pair = { s.pair with joinUntil := some (s.time.now + 600000000000) } ∧ t.mode = s.mode) ∧
      ((∃ n ∈ s.ns, n.gone = false) → exec (.pairJoin ref) s = .next ((s.passed ref).finish ref (Comp.denied 7)))) ∧
    (s.Ready ref c (isAdm 0x50 5) → s.mode.mode = .primary → s.pair.inStep = true → qpAddr c.desc % 8 = 0 →
      Completes (.pairSetWitness ref (.value 0)) s ref (Comp.okResult 0) fun t =>
        t.pair.witAddr = qpAddr c.desc ∧ t.pair.witRkey = qpRkey c.desc ∧ t.pair.word = renewed s.pair.word true ∧
          t.pair.lease = some (s.time.now + 500000000) ∧ t.mode = s.mode) ∧
    (s.Ready ref c (isAdm 0x50 6) → s.isOrphan c.sid = false → s.session? c.sid ≠ none →
      Completes (.pairQuery ref .acked) s ref (Comp.okResult 0) fun t =>
        t.out = s.out ++ [.write c.sid (qpRkey c.desc) (qpAddr c.desc) (pairRecord s)])) ∧
  (∀ (ref : Nat) (c : Cmd) (cas : WitnessAnswer) (s : State),
    (s.Ready ref c (isAdm 0x50 3) → s.mode.mode ∈ [.primary, .mirror, .eclipse] →
      (s.pair.swapAnswer (qpEpoch c.desc) = .busy →
        exec (.pairSwap ref cas) s = .next ((s.passed ref).finish ref (Comp.plain .busyRetry))) ∧
      (s.pair.swapAnswer (qpEpoch c.desc) = .superseded →
        exec (.pairSwap ref cas) s = .next ((s.passed ref).finish ref (superseded s.pair.epoch))) ∧
      (s.pair.swapAnswer (qpEpoch c.desc) = .refused →
        exec (.pairSwap ref cas) s = .next ((s.passed ref).finish ref (Comp.denied 7))) ∧
      (s.pair.swapAnswer (qpEpoch c.desc) = .run →
        (s.mode.mode = .primary → cas = .value s.pair.word → Runs (.pairSwap ref cas) s fun t =>
          t.mode.mode = .mirror ∧ t.pair.epoch = wEpoch (reheld s.pair.word (1 - s.pair.member)) ∧
            t.pair.word = reheld s.pair.word (1 - s.pair.member) ∧ t.pair.lease = none ∧ t.kv.pins = [] ∧
            ∀ d ∈ t.cmds.list, d.phase ≠ .granted) ∧
        (s.mode.mode ≠ .primary → Runs (.pairSwap ref cas) s fun t => t.mode = s.mode ∧
          t.pair.swapWaits = s.pair.swapWaits ++ [ref] ∧ t.Has ref fun d => d.phase = .adminWait))) ∧
    (s.Ready ref c (isDissolve false) →
      (s.mode.mode = .primary ∨ (s.mode.mode = .mirror ∧ s.pair.inStep = true) →
        Runs (.pairDissolve ref) s fun t => t.mode.mode = .solo ∧ t.pair.paired = false) ∧
      (s.mode.mode = .eclipse ∨ (s.mode.mode = .mirror ∧ s.pair.inStep = false) →
        exec (.pairDissolve ref) s = .next ((s.passed ref).finish ref (Comp.denied 6)))) ∧
    (s.Ready ref c (isDissolve true) →
      (s.mode.mode = .mirror ∨ s.mode.mode = .eclipse → s.linksUp = [] →
        Completes (.pairDissolveForce ref) s ref (Comp.okResult 0) fun t =>
          t.mode.mode = .solo ∧ t.pair.paired = false ∧ t.seq.committed = max s.seq.committed s.pair.applied ∧
            t.attn.causes.getLsbD cForced = true) ∧
      (s.mode.mode = .primary → Runs (.pairDissolveForce ref) s fun t => t.mode.mode = .solo ∧ t.pair.paired = false)))

/-- A Range Map list that applies whole replaces the rows and the epoch in one step, and its command completes once no
command of the changed namespaces that was admitted before is in flight; a list that does not apply changes no row. A query
writes the rows. (15 R592, 15 R593) -/
def Obligations.RangeMapChangesWhole : Prop :=
  ∀ (ref : Nat) (c : Cmd) (bs : Bytes) (s : State),
    let list := fit (48 * mpCount c.desc) bs
    let busy := (s.passed ref).admittedBefore s.cmds.nextRef (listNamespaces (chunks 48 (mpCount c.desc) list))
    let row := Instr.rangeMapApply ref (.data bs)
    (s.pair.change = none → s.Ready ref c (isAdm 0x51 1) → c.decided = false → 1 ≤ mpCount c.desc → mpCount c.desc ≤ 1024 → mpAddr c.desc % 8 = 0 →
      (mpExpected c.desc ≠ s.asu.epoch ∨ mpNew c.desc ≤ mpExpected c.desc →
        Completes row s ref (Comp.denied 7) fun t => t.asu = s.asu) ∧
      (mpExpected c.desc = s.asu.epoch → mpExpected c.desc < mpNew c.desc →
        (∀ k : Comp, applyList s.asu.ranges (chunks 48 (mpCount c.desc) list) = .inr k → Completes row s ref k fun t => t.asu = s.asu) ∧
        (∀ rows : List RangeRow, applyList s.asu.ranges (chunks 48 (mpCount c.desc) list) = .inl rows →
          (s.forwards = true → Runs row s fun t => t.asu = s.asu ∧ t.pair.change =
            some { ref := ref, changes := [.rangeMap (mpNew c.desc) list], after := .map list }) ∧
          (s.forwards = false → busy = false → Completes row s ref (Comp.okResult 0) fun t =>
            t.asu = { s.asu with ranges := rows, epoch := mpNew c.desc }) ∧
          (s.forwards = false → busy = true → Runs row s fun t => t.asu = { s.asu with ranges := rows, epoch := mpNew c.desc } ∧
            t.Has ref fun d => d.phase = .ready ∧ d.decided = true ∧ d.acc = s.cmds.nextRef ∧ d.block = list)))) ∧
    (s.pair.change = none → s.Ready ref c (isAdm 0x51 1) → c.decided = true →
      (s.passed ref).admittedBefore c.acc (listNamespaces (chunks 48 (c.block.length / 48) c.block)) = false →
      exec row s = .next ((s.passed ref).finish ref (Comp.okResult 0))) ∧
    (s.Ready ref c (isAdm 0x51 2) → s.isOrphan c.sid = false → s.session? c.sid ≠ none →
      Completes (.rangeMapQuery ref .acked) s ref (Comp.okResult 0) fun t =>
        t.out = s.out ++ [.write c.sid (mpRkey c.desc) (mpAddr c.desc) (mapRecord s.asu)])

/-- Heartbeats: one on every link that is up; one received is noted and acknowledged, and tells a member that is not the
primary the IN_STEP of its primary; a link that is down, or a frame of another pair, changes nothing; without one for its
time the link has failed. PAIR_ALIVE, as its input shows it: lost with every link down, the partner is lost. HELLO on a
trained link brings it up when it fits the pair and comes from the link of the same number; any other leaves it down and
failed; a SOLO module with a JOIN pending that hears the PRIMARY of the new pair becomes its MIRROR. (15 R573, 15 R574) -/
def Obligations.PairLinksAreWatched : Prop :=
  (∀ (link : Nat) (l : PairLink) (f : PairFrame) (b : HeartbeatBody) (s : State),
    (s.pair.paired = true → Runs .heartbeatSend s fun t => t.pair = s.pair ∧
      t.out = s.out ++ s.linksUp.filterMap fun n => (s.link? n).map fun l =>
        .pairFrame n (s.frameHeader l 0x02 16 ++ s.heartbeatBody)) ∧
    (s.pair.paired = false → exec .heartbeatSend s = .next s) ∧
    (s.link? link = some l →
      (s.pair.paired = true ∧ s.frameFits f = true ∧ l.up = true → Runs (.heartbeatReceive link f b) s fun t =>
        t.pair.partnerCsn = b.highCsn ∧ t.pair.partnerWarm = b.warming ∧ t.pair.partnerZero = b.winZero ∧
          t.pair.partnerMode = b.mode ∧
          (s.mode.mode ≠ .primary → b.mode = modeCode .primary → s.pair.resyncOn = false → t.pair.inStep = b.inStep) ∧
          ∃ m, t.link? link = some m ∧ m.up = true ∧ (f.seq = l.ack + 1 → m.ack = f.seq)) ∧
      (¬(s.pair.paired = true ∧ s.frameFits f = true ∧ l.up = true) → exec (.heartbeatReceive link f b) s = .next s) ∧
      (l.up = true → Runs (.heartbeatTimeout link) s fun t => t.link? link = some { l with up := false, failed := true }) ∧
      (l.up = false → exec (.heartbeatTimeout link) s = .next s))) ∧
  (∀ s : State, (Runs .pairAliveLost s fun t => t.pair.aliveIn = false ∧ t.ports = s.ports ∧
      (s.pair.paired = true → s.linksUp = [] → t.pair.partnerLost = true)) ∧
    (s.shorted pinAliveIn = false →
      exec .pairAliveRestored s = .next { s with pair := { s.pair with aliveIn := true } }) ∧
    (s.shorted pinAliveIn = true → exec .pairAliveRestored s = .next s)) ∧
  (∀ (link far : Nat) (l : PairLink) (f : PairFrame) (serial : Bytes) (inStep : Bool) (s : State), s.link? link = some l →
    let row := Instr.helloReceive ⟨link, far⟩ f serial inStep
    let fits := far = link ∧ f.version = 1 ∧ (s.pair.paired = true → s.frameFits f = true ∧ s.pair.partnerSerial = serial)
    let up := fun (t : State) => t.pair.partnerLost = false ∧ ∃ m, t.link? link = some m ∧ m.up = true ∧ m.failed = false
    (l.trained = false → exec row s = .next s) ∧
    (l.trained = true → s.joinFits f = false → fits → Runs row s up) ∧
    (l.trained = true → far ≠ link ∨ (s.joinFits f = false ∧ ¬fits) → Runs row s fun t => t.pair = s.pair ∧ t.mode = s.mode ∧
      ∃ m, t.link? link = some m ∧ m.up = false ∧ m.failed = true) ∧
    (l.trained = true → far = link → s.joinFits f = true → Runs row s fun t => up t ∧
      t.mode.mode = .mirror ∧ t.pair.paired = true ∧ t.pair.member = 1 ∧ t.pair.epoch = f.epoch ∧
        t.ident.moduleId = f.moduleId ∧ t.pair.partnerSerial = serial))

/-- A MIRROR that learns of its partner's failure and may swap swaps the witness and becomes PRIMARY at the next epoch, with
its lease: at once after a gasp, after 505 ms of an unchanged word after a silent loss; a swap that is lost, or a witness
that does not answer, leaves it MIRROR or in eclipse as stated. A PRIMARY in step stops mirroring; another member notes the
loss; a module without a pair does nothing. A MIRROR whose word does not let it swap enters eclipse with ATTN#. (15 R565, 15
R575, 15 R577, 15 R579) -/
def Obligations.MirrorTakesOver : Prop :=
  (∀ (w v : Nat) (same : Bool) (read cas : WitnessAnswer) (s : State),
    let won := fun (t : State) => t.mode.mode = .primary ∧ t.pair.word = reheld w s.pair.member ∧
      t.pair.epoch = wEpoch (reheld w s.pair.member) ∧ t.pair.lease = some (s.time.now + 500000000)
    let stays := fun (word : Nat) (t : State) => t.mode.mode = .mirror ∧ t.pair.word = word
    let noAnswer := fun (t : State) => t.mode.mode = .mirror ∧ t.attn.holdsWit = true
    (s.pair.paired = true → s.mode.mode = .mirror → s.pair.maySwap w = true →
      (Runs (.gaspReceive (.value w) (.value w)) s won) ∧
      (v ≠ w → Runs (.gaspReceive (.value w) (.value v)) s (stays v)) ∧
      (Runs (.gaspReceive (.value w) .unreachable) s noAnswer) ∧
      (s.partnerSilent = true →
        (s.pair.wait = .idle → Runs (.witnessPoll (.value w) same cas) s fun t => stays w t ∧ t.pair.wait = .waiting w) ∧
        (s.pair.wait = .waiting v → v ≠ w → Runs (.witnessPoll (.value w) same cas) s fun t => t.mode.mode = .eclipse) ∧
        (s.pair.wait = .waiting w →
          (Runs (.witnessPoll (.value w) false cas) s fun t => stays w t ∧ t.pair.wait = .waiting w) ∧
          (Runs (.witnessPoll (.value w) true (.value w)) s won) ∧
          (v ≠ w → Runs (.witnessPoll (.value w) true (.value v)) s fun t => t.mode.mode = .eclipse) ∧
          (Runs (.witnessPoll (.value w) true .unreachable) s noAnswer)))) ∧
    (s.pair.paired = true → s.mode.mode = .mirror → (Runs (.gaspReceive .unreachable cas) s noAnswer) ∧
      (s.partnerSilent = true → Runs (.witnessPoll .unreachable same cas) s noAnswer)) ∧
    (s.pair.paired = true → s.mode.mode ≠ .mirror → Runs (.gaspReceive read cas) s fun t => t.mode = s.mode ∧
      t.pair.partnerLost = true ∧ (s.mirroring = true → t.pair.holding = true)) ∧
    (s.pair.paired = false → exec (.gaspReceive read cas) s = .next s) ∧
    (s.pair.paired = false ∨ s.mode.mode ≠ .mirror ∨ s.partnerSilent = false → exec (.witnessPoll read same cas) s = .next s)) ∧
  (∀ (w : Nat) (same : Bool) (cas : WitnessAnswer) (s : State), s.pair.paired = true → s.mode.mode = .mirror →
    s.pair.maySwap w = false →
    (Runs (.gaspReceive (.value w) cas) s fun t => t.mode.mode = .eclipse ∧ t.attn.causes.getLsbD cEclipse = true) ∧
    (s.partnerSilent = true → Runs (.witnessPoll (.value w) same cas) s fun t =>
      t.mode.mode = .eclipse ∧ t.attn.causes.getLsbD cEclipse = true))

/-- A forwarded mutation is applied whole on the MIRROR or eclipse member, in CSN order, charged to its window and
acknowledged; one that it cannot take yet, or that it holds, is not applied, and one whose CRC differs is asked for again.
What else the primary forwards is kept. What the primary learns of acknowledged completions, of records that the partner
holds and of bytes that it has at MEDIA, it notes. A change of settings that waits for the partner keeps every other from
being made; where nothing is forwarded a row makes its change alone. When the partner holds the change it takes effect on
both members: their credentials, rules and Range Map, which agreed before, agree after it. Resynchronisation: a piece of the
key stream is noted and the versions fetched for it are stored; the last one deletes what the stream did not name; at its
end the primary renews IN_STEP 1, once its partner holds what was forwarded meanwhile, and releases the pin that no comet
shares, an eclipse member becomes MIRROR and a MIRROR is in step. (15 R566, 15 R568, 15 R569, 15 R587) -/
def Obligations.MirroringKeepsInStep : Prop :=
  (∀ (ref mark slot gen used : Nat) (refs : List Nat) (c : Cmd) (d : DecisionRecord) (keys : List Forwarded) (x : CarriedSession)
      (k : CompletionRecord) (m : CarriedComet) (fw : PairForward) (s : State),
    (s.mode.mode = .mirror ∨ s.mode.mode = .eclipse →
      let row := Instr.pairForwardReceive (.mutation d keys)
      let room := forwardTotal keys = 0 ∨ s.occupancy + forwardTotal keys ≤ s.win.window
      (s.mode.warming = true → exec row s = .next s.wake) ∧
      (s.mode.warming = false → keys.all (·.crcOk) = false → exec row s = .next (s.wake.sendPair 0x11 (toLe 8 d.csn))) ∧
      (s.mode.warming = false → keys.all (·.crcOk) = true → d.csn ≤ s.pair.applied ∨ ¬room → exec row s = .next s.wake) ∧
      (s.mode.warming = false → keys.all (·.crcOk) = true → s.pair.applied < d.csn → room → (∀ e ∈ keys, e.csn = d.csn) →
        (∀ v ∈ s.kv.versions, v.csn < d.csn) → (keys.map fun e => (e.nsid, e.key)).Nodup →
        Runs row s fun t => t.pair.applied = d.csn ∧ t.pair.decisions = s.pair.decisions ++ [d] ∧
          t.seq.committed = max s.seq.committed d.csn ∧ t.occupancy = s.occupancy + forwardTotal keys ∧
          t.out = (s.sendPair 0x12 (toLe 8 d.csn)).out ∧
          ∀ e ∈ keys, ∃ v ∈ t.kv.versions, v.nsid = e.nsid ∧ v.key = e.key ∧ v.csn = e.csn ∧ v.value = e.value ∧ v.durable = true) ∧
      (Runs (.pairForwardReceive (.highWater mark)) s fun t => t.seq = { s.seq with hwm := max s.seq.hwm mark } ∧
        t.out = (s.sendPair 0x15 (toLe 8 mark)).out) ∧
      (exec (.pairForwardReceive (.objectIds mark)) s =
        .next { s.wake with kv := { s.kv with nextObjId := max s.kv.nextObjId mark } }) ∧
      (Runs (.pairForwardReceive (.usage slot gen used)) s fun t => t.vault.slots =
        s.vault.slots.map fun q => if q.slot = slot then { q with gen := gen, used := used } else q) ∧
      (Runs (.pairForwardReceive (.session x)) s fun t => t.pair =
        { s.pair with carried := s.pair.carried.filter (·.handle != x.handle) ++ [x] }) ∧
      (Runs (.pairForwardReceive (.sessionEnd mark)) s fun t => t.pair =
        { s.pair with carried := s.pair.carried.filter (·.handle != mark) }) ∧
      (Runs (.pairForwardReceive (.completion k)) s fun t => t.pair = s.pair.addRecord k ∧
        t.out = (s.sendPair 0x12 (toLe 8 k.ref)).out) ∧
      (Runs (.pairForwardReceive (.acknowledged refs)) s fun t => t.pair =
        { s.pair with records := s.pair.records.filter fun r => !decide (r.ref ∈ refs) }) ∧
      (Runs (.pairForwardReceive (.comet m)) s fun t => t.pair =
        { s.pair with comets := s.pair.comets.filter (·.num != m.num) ++ [m] }) ∧
      (Runs (.pairForwardReceive (.cometEnd mark)) s fun t => t.pair =
        { s.pair with comets := s.pair.comets.filter (·.num != mark) })) ∧
    (s.mode.mode ≠ .mirror → s.mode.mode ≠ .eclipse → exec (.pairForwardReceive fw) s = .next s) ∧
    (Runs (.completionAckReport refs) s fun t => ∀ r ∈ t.pair.records, r ∈ s.pair.records ∧ r.ref ∉ refs) ∧
    (s.cmd? ref = some c → s.forwards = false ∨ (s.pair.change.map (·.ref)) ≠ some ref →
      (ref ∈ s.pair.owed → Runs (.partnerRecordHeld (.command ref)) s fun t => t.pair.owed = s.pair.owed.erase ref ∧
        t.Has ref fun e => e = if ref ∈ t.pair.owed then c else { c with partner := true }) ∧
      (ref ∉ s.pair.owed → c.phase ≠ .finished → exec (.partnerRecordHeld (.command ref)) s = .next s) ∧
      (ref ∉ s.pair.owed → c.phase = .finished → Runs (.partnerRecordHeld (.command ref)) s fun t =>
        (∃ r, t.pair.records = s.pair.records ++ [r] ∧ r.ref = ref) ∧ ∀ e ∈ t.cmds.list, e.ref = ref → e.hold = false)) ∧
    (s.cmd? ref = some c → c.isDurable = false →
      (s.mode.mode = .primary → Runs (.partnerRecordHeld (.media ⟨ref, .acked⟩)) s fun t =>
        t.Has ref fun e => e = { c with partnerMedia := true }) ∧
      (s.mode.mode ≠ .primary → exec (.partnerRecordHeld (.media ⟨ref, .acked⟩)) s = .next s)) ∧
    (Runs (.partnerRecordHeld (.highWater mark)) s fun t => t.pair = { s.pair with markHeld := max s.pair.markHeld mark })) ∧
  (∀ (ref slot : Nat) (r : HostRead) (p : PendingChange) (done : Comp) (s m : State),
    let rows := [Instr.admNsCreate ref, .admNsSet ref, .admNsDelete ref, .credentialCreate ref r, .credentialSetSecret ref r,
      .credentialGrant ref, .credentialRevoke ref, .credentialDelete ref, .credentialOutboundSet ref r,
      .credentialOutboundDelete ref, .ruleAdd ref, .ruleRemove ref, .rangeMapApply ref r]
    (s.forwards = true → s.pair.change ≠ none → ∀ i ∈ .programLoadTurn slot r :: rows, exec i s = .next s) ∧
    (s.forwards = false → ∀ i ∈ rows, exec i s = exec i { s with pair := { s.pair with change := none } }) ∧
    (s.forwards = true → s.pair.change = some p → p.after = .done done → (∀ n, SettingsChange.nsGone n ∉ p.changes) →
      m.mode.mode = .mirror ∨ m.mode.mode = .eclipse → m.creds = s.creds → m.asu = s.asu → (∀ n ∈ m.ns, n.gone = false) →
      ∃ t u : State, exec (.partnerRecordHeld (.command p.ref)) s = .next t ∧
        exec (.pairForwardReceive (.config p.ref p.changes)) m = .next u ∧
        t.creds = u.creds ∧ t.asu = u.asu ∧ t.pair.change = none)) ∧
  (∀ (snapshot v : Nat) (keys : List (Nat × Bytes × Nat)) (fetched : List Forwarded) (last : Bool) (cas : WitnessAnswer) (s : State),
    let same := s.pair.resyncPin = some snapshot
    let seen := (if same then s.pair.resyncKeys else []) ++ keys.map fun k => (k.1, k.2.1)
    (s.mode.mode = .mirror ∨ s.mode.mode = .eclipse →
      (Runs (.resyncFrameReceive snapshot keys fetched false) s fun t => t.pair = { s.pair with
          resyncPin := some snapshot, resyncOn := true, resyncKeys := seen,
          resyncDone := (if same then s.pair.resyncDone else 0) + keys.length } ∧
        ((fetched.map fun e => (e.nsid, e.key)).Nodup → ∀ e ∈ fetched,
          (∀ u ∈ s.kv.versions, u.nsid = e.nsid → u.key = e.key → u.csn < e.csn) →
          ∃ u ∈ t.kv.versions, u.nsid = e.nsid ∧ u.key = e.key ∧ u.csn = e.csn ∧ u.value = e.value)) ∧
      (Runs (.resyncFrameReceive snapshot keys [] true) s fun t => t.pair.resyncOn = false ∧ t.pair.resyncKeys = [] ∧
        t.pair.applied = max s.pair.applied snapshot ∧ t.seq.committed = max s.seq.committed snapshot ∧
        ∀ u, u ∈ t.kv.versions ↔ u ∈ s.kv.versions ∧
          ((u.nsid, u.key) ∈ seen ∨ ∃ o ∈ s.kv.versions, o.nsid = u.nsid ∧ o.key = u.key ∧ snapshot < o.csn))) ∧
    (s.mode.mode ≠ .mirror → s.mode.mode ≠ .eclipse → exec (.resyncFrameReceive snapshot keys fetched last) s = .next s) ∧
    (s.mode.mode = .primary →
      (s.pair.resyncOn = true → s.resyncSettled = true →
        (Runs (.resyncDone (.value s.pair.word)) s fun t =>
          t.mode = s.mode ∧ t.pair.inStep = true ∧ t.pair.resyncOn = false ∧ t.pair.word = renewed s.pair.word true ∧
            t.pair.lease = some (s.time.now + 500000000) ∧
            ∀ n, s.pair.resyncPin = some n → (s.kv.pins.any fun p => p.csn == n && p.resync) = true → t.pinned n = false) ∧
        (v ≠ s.pair.word → Runs (.resyncDone (.value v)) s fun t => t.mode.mode = .mirror ∧ t.pair.word = v) ∧
        (Runs (.resyncDone .unreachable) s fun t => t.mode = s.mode ∧ t.pair.resyncOn = true ∧ t.attn.holdsWit = true)) ∧
      (s.pair.resyncOn = false ∨ s.resyncSettled = false → exec (.resyncDone cas) s = .next s)) ∧
    (s.mode.mode = .eclipse → Runs (.resyncDone cas) s fun t =>
      t.mode.mode = .mirror ∧ t.pair.inStep = true ∧ t.pair.resyncOn = false) ∧
    (s.mode.mode = .mirror → exec (.resyncDone cas) s =
      .next { s.wake with pair := { s.pair with inStep := true, resyncOn := false } }))

/-- The lease: a renewal is a compare-and-swap from the value last written, with IN_STEP 0 while mirroring is given up, and
runs 500 ms from its issue when it succeeds; a primary that finds another value, or whose lease ends, becomes MIRROR; a swap
of a MIRROR to itself makes it PRIMARY or, lost, ends in eclipse. Forwarded swaps and dissolutions, the end of a swap on the
MIRROR, and a JOIN that has waited its 10 min. (15 R563, 15 R564, 15 R580, 15 R581) -/
def Obligations.LeasesAndSwaps : Prop :=
  (∀ (v : Nat) (s : State),
    let inStep := if s.pair.holding then false else wInStep s.pair.word
    (s.mode.mode = .primary → exec .leaseRenew s = .next ({ s with pair := { s.pair with
        casFor := if s.pair.holding then .unmirror else .renew, casIssued := s.time.now } }.emit
          (s.pair.swapWord s.pair.word (renewed s.pair.word inStep)))) ∧
    (s.mode.mode ≠ .primary → exec .leaseRenew s = .next s) ∧
    (s.pair.paired = true → s.mode.mode = .primary →
      (s.pair.casFor = .renew → Runs (.witnessCasResponse (.value s.pair.word)) s fun t =>
        t.mode = s.mode ∧ t.pair.word = renewed s.pair.word (wInStep s.pair.word) ∧ t.pair.inStep = s.pair.inStep ∧
          t.pair.lease = some (s.pair.casIssued + 500000000)) ∧
      (s.pair.casFor = .unmirror → Runs (.witnessCasResponse (.value s.pair.word)) s fun t =>
        t.mode = s.mode ∧ t.pair.word = renewed s.pair.word false ∧ t.pair.inStep = false ∧ t.pair.holding = false ∧
          t.pair.lease = some (s.pair.casIssued + 500000000)) ∧
      (v ≠ s.pair.word → Runs (.witnessCasResponse (.value v)) s fun t =>
        t.mode.mode = .mirror ∧ t.pair.word = v ∧ t.pair.lease = none)) ∧
    (s.pair.paired = true → s.mode.mode = .mirror → s.pair.casFor = .promote →
      (Runs (.witnessCasResponse (.value s.pair.word)) s fun t => t.mode.mode = .primary ∧
        t.pair.word = reheld s.pair.word s.pair.member ∧ t.pair.epoch = wEpoch (reheld s.pair.word s.pair.member)) ∧
      (v ≠ s.pair.word → Runs (.witnessCasResponse (.value v)) s fun t => t.mode.mode = .eclipse)) ∧
    (s.pair.paired = true → Runs (.witnessCasResponse .unreachable) s fun t => t.mode = s.mode ∧ t.attn.holdsWit = true) ∧
    (s.pair.paired = false → exec (.witnessCasResponse (.value v)) s = .next s) ∧
    (s.mode.mode = .primary → s.pair.lease.isSome = true → Runs .leaseExpire s fun t =>
      t.mode.mode = .mirror ∧ t.pair.lease = none) ∧
    (s.mode.mode ≠ .primary ∨ s.pair.lease = none → exec .leaseExpire s = .next s)) ∧
  (∀ (epoch word v : Nat) (mine : Bool) (asked : Option DecisionRecord) (cas : WitnessAnswer) (s : State),
    let s0 := if s.pair.paired then s.wake else s
    (s.pair.paired = true → s.mode.mode ≠ .service →
      Runs (.swapRequestReceive epoch true cas) s fun t => t.mode.mode = .solo ∧ t.pair.paired = false) ∧
    (s.pair.paired = false ∨ s.mode.mode = .service → exec (.swapRequestReceive epoch true cas) s = .next s0) ∧
    (s.mode.mode = .primary →
      (s.pair.swapAnswer epoch = .run →
        (Runs (.swapRequestReceive epoch false (.value s.pair.word)) s fun t =>
          t.mode.mode = .mirror ∧ t.pair.epoch = wEpoch (reheld s.pair.word (1 - s.pair.member))) ∧
        (v ≠ s.pair.word → Runs (.swapRequestReceive epoch false (.value v)) s fun t =>
          t.mode.mode = .mirror ∧ t.pair.word = v ∧ t.pair.epoch = s.pair.epoch) ∧
        (Runs (.swapRequestReceive epoch false .unreachable) s fun t => t.mode = s.mode ∧ t.attn.holdsWit = true)) ∧
      (s.pair.swapAnswer epoch ≠ .run →
        exec (.swapRequestReceive epoch false cas) s = .next (s0.sendPair 0x20 (toLe 4 s.pair.epoch)))) ∧
    (s.mode.mode ≠ .primary → exec (.swapRequestReceive epoch false cas) s = .next s0) ∧
    (s.mode.mode = .mirror → Runs (.swapDoneReceive epoch word ⟨mine, asked⟩) s fun t =>
      t.mode.mode = .primary ∧ t.pair.epoch = epoch ∧ t.pair.word = word ∧ t.pair.swapWaits = [] ∧
        t.pair.lease = some (s.time.now + 500000000)) ∧
    (s.mode.mode ≠ .mirror → exec (.swapDoneReceive epoch word ⟨mine, asked⟩) s = .next s) ∧
    exec .joinExpire s = .next { s with pair := { s.pair with joinUntil := none } })

/-- ADM_MODE: each transition of 02 Table 2.2 that a Custodian may ask for, with the mode now in force in RESULT; a
transition that the mode in force does not have is denied. Control requests for modes, the archival lock and the eFuses on
an open path, none in progress: accepted and done, or refused with nothing changed; an unknown CODE is accepted with RESULT
UNKNOWN and no effect. (02 R54, 02 R59, 18 R656) -/
def Obligations.ModesChangeOnRequest : Prop :=
  (∀ (ref : Nat) (c : Cmd) (s : State), s.ctrl.busy = none →
    let denied := fun (i : Instr) => exec i s = .next ((s.passed ref).finish ref (Comp.denied 6))
    (s.Ready ref c (isAdm 0x55 1) →
      let may := s.mode.mode = .commission ∧ s.creds.list.any (·.role == 1) = true ∧ s.vault.up = true
      (¬may → denied (.modeCommissionComplete ref)) ∧
      (may → s.mode.custodyCause = false → Completes (.modeCommissionComplete ref) s ref (Comp.okResult 1) fun t =>
        t.mode.mode = .solo) ∧
      (may → s.mode.custodyCause = true → Completes (.modeCommissionComplete ref) s ref (Comp.okResult 5) fun t =>
        t.mode.mode = .custody ∧ t.mode.beforeCustody = .solo ∧ t.attn.causes.getLsbD cCustody = true)) ∧
    (s.Ready ref c (isAdm 0x55 2) →
      (s.mode.mode = .primary ∨ s.mode.mode = .service → denied (.modeServiceEnter ref)) ∧
      (s.mode.mode ≠ .primary → s.mode.mode ≠ .service →
        Completes (.modeServiceEnter ref) s ref (Comp.okResult 6) fun t =>
          t.mode.mode = .service ∧ t.mode.beforeService = s.mode.mode)) ∧
    (s.Ready ref c (isAdm 0x55 3) →
      (s.mode.mode ≠ .service → denied (.modeServiceExit ref)) ∧
      (s.mode.mode = .service → s.mode.custodyCause = false →
        let back := if s.mode.afterService = .custody then .solo else s.mode.afterService
        Completes (.modeServiceExit ref) s ref (Comp.okResult (modeCode back)) fun t =>
          t.mode.mode = back) ∧
      (s.mode.mode = .service → s.mode.custodyCause = true →
        Completes (.modeServiceExit ref) s ref (Comp.okResult 5) fun t => t.mode.mode = .custody)) ∧
    (s.Ready ref c (isAdm 0x55 4) →
      (s.mode.archival = true → exec (.modeArchivalLockSet ref) s =
        .next ((s.passed ref).finish ref (Comp.okResult (modeCode s.mode.mode)))) ∧
      (s.mode.archival = false → s.mode.mode ∈ [.solo, .primary, .mirror, .eclipse] →
        Completes (.modeArchivalLockSet ref) s ref (Comp.okResult 5) fun t =>
          t.mode.mode = .custody ∧ t.mode.archival = true ∧ t.mode.beforeCustody = .solo ∧
            t.attn.causes.getLsbD cCustody = true) ∧
      (s.mode.archival = false → s.mode.mode ∈ [.commission, .service, .custody] →
        Completes (.modeArchivalLockSet ref) s ref (Comp.okResult (modeCode s.mode.mode)) fun t =>
          t.mode.mode = s.mode.mode ∧ t.mode.archival = true ∧ t.attn.causes.getLsbD cCustody = true)) ∧
    (s.Ready ref c (isAdm 0x55 5) →
      (s.mode.archival = false → exec (.modeArchivalLockClear ref) s =
        .next ((s.passed ref).finish ref (Comp.okResult (modeCode s.mode.mode)))) ∧
      (s.mode.archival = true →
        let next := if s.mode.mode = .custody ∧ s.mode.causeSpare = false ∧ s.mode.causeVault = false then s.mode.beforeCustody
          else s.mode.mode
        Completes (.modeArchivalLockClear ref) s ref (Comp.okResult (modeCode next)) fun t =>
          t.mode.mode = next ∧ t.mode.archival = false))) ∧
  (∀ (p : Path) (arg code : Nat) (s : State), s.pathOpen p = true → s.ctrl.busy = none →
    let answers := fun (code result : Nat) (t : State) => t.ctrl.code = code ∧ t.ctrl.result = result ∧ t.ctrl.busy = none ∧
      t.ctrl.reqSeq = (s.ctrl.reqSeq + 1) % 65536
    let refuses := fun (i : Instr) (code result : Nat) => Runs i s fun t => answers code result t ∧ t.mode = s.mode ∧
      t.feeds = s.feeds ∧ t.power = s.power
    (s.mode.mode ≠ .primary → s.mode.mode ≠ .service → Runs (.ctrlServiceEnter p) s fun t =>
      t.mode.mode = .service ∧ t.mode.beforeService = s.mode.mode ∧ answers 0x20 0 t) ∧
    (s.mode.mode = .primary ∨ s.mode.mode = .service → refuses (.ctrlServiceEnter p) 0x20 2) ∧
    (s.mode.mode = .service → s.mode.custodyCause = false → Runs (.ctrlServiceExit p) s
      fun t => t.mode.mode = (if s.mode.afterService = .custody then .solo else s.mode.afterService) ∧ answers 0x21 0 t) ∧
    (s.mode.mode ≠ .service → refuses (.ctrlServiceExit p) 0x21 2) ∧
    (s.mode.mode = .commission → s.creds.list.any (·.role == 1) = true → s.vault.up = true →
      s.mode.custodyCause = false → Runs (.ctrlCommissionComplete p) s fun t => t.mode.mode = .solo ∧ answers 0x22 0 t) ∧
    (s.mode.mode ≠ .commission → refuses (.ctrlCommissionComplete p) 0x22 2) ∧
    (s.mode.mode = .commission → s.creds.list.any (·.role == 1) = false ∨ s.vault.up = false →
      refuses (.ctrlCommissionComplete p) 0x22 3) ∧
    (s.mode.mode ∈ [.solo, .primary, .mirror, .eclipse] → s.mode.archival = false → Runs (.ctrlArchivalLockSet p) s fun t =>
      t.mode.mode = .custody ∧ t.mode.archival = true ∧ answers 0x23 0 t) ∧
    (s.mode.archival = true → refuses (.ctrlArchivalLockSet p) 0x23 0) ∧
    (s.mode.mode = .custody → s.mode.archival = true → s.mode.causeSpare = false → s.mode.causeVault = false →
      Runs (.ctrlArchivalLockClear p) s fun t =>
        t.mode.mode = s.mode.beforeCustody ∧ t.mode.archival = false ∧ answers 0x24 0 t) ∧
    (s.mode.archival = false → refuses (.ctrlArchivalLockClear p) 0x24 0) ∧
    (bitOf arg 0 = true → bitOf arg 1 = false → s.feeds.a.chan = .latched → Runs (.ctrlEfuseClear p arg) s fun t =>
      t.feeds.a = { s.feeds.a with chan := if s.feeds.a.inRange && s.feeds.present then .ramping else .off, retries := 0 } ∧
        t.feeds.b = s.feeds.b ∧ answers 0x30 0 t) ∧
    ((bitOf arg 0 = true → s.feeds.a.chan ≠ .latched) → (bitOf arg 1 = true → s.feeds.b.chan ≠ .latched) →
      refuses (.ctrlEfuseClear p arg) 0x30 3) ∧
    (ctrlKnown code = false → Runs (.ctrlUnknown p code) s fun t =>
      t.ctrl = { s.ctrl with code := code, result := 4, reqSeq := (s.ctrl.reqSeq + 1) % 65536 } ∧ t.mode = s.mode ∧
        t.power = s.power ∧ t.feeds = s.feeds))

/-- ADM_POWER: each power state asked for is entered or waited for, and the command completes at its acceptance; a module
that may not enter it refuses; a shutdown or warm restart begins and its own completion comes last. Control requests for
power states and restarts on an open path: accepted with REQ_SEQ incremented, and in progress until their outcome comes,
done at once or refused; while one is in progress another is ignored and recorded. (02 R60, 02 R71, 02 R76, 02 R77, 02 R84,
18 R656) -/
def Obligations.PowerStatesChangeOnRequest : Prop :=
  (∀ (ref : Nat) (c : Cmd) (s : State), s.ctrl.busy = none → s.fetching = true →
    let now := s.power.pstate
    (s.Ready ref c (isAdm 0x56 1) →
      Completes (.powerP0 ref) s ref (Comp.okResult 0) fun t => t.power.wanted = none ∧
        (now ∈ [.p1, .p2, .p3] → s.power.entering = none → t.power.exiting = true)) ∧
    (s.Ready ref c (isAdm 0x56 2) →
      (s.mode.warming = true → exec (.powerP1 ref) s = .next ((s.passed ref).finish ref (Comp.denied 6))) ∧
      (s.mode.warming = false → Completes (.powerP1 ref) s ref (Comp.okResult 1) fun t =>
        (now = .p1 → t.power = s.power) ∧ (now = .p0 → s.steadyPower = true → t.power.entering = some .p1) ∧
          (now ≠ .p1 → ¬(now = .p0 ∧ s.steadyPower = true) → t.power.wanted = some .p1 ∧
            (now ∈ [.p2, .p3] → s.power.entering = none → t.power.exiting = true)))) ∧
    (∀ e ∈ [(Instr.powerP2 ref, 3, PState.p2, 2), (.powerP3 ref, 4, .p3, 3)], s.Ready ref c (isAdm 0x56 e.2.1) →
      (s.pair.paired = true ∨ s.mode.warming = true → exec e.1 s = .next ((s.passed ref).finish ref (Comp.denied 6))) ∧
      (s.pair.paired = false → s.mode.warming = false → Completes e.1 s ref (Comp.okResult e.2.2.2) fun t =>
        let goes := s.lowOk = true ∧ s.steadyPower = true ∧ pstateCode now < pstateCode e.2.2.1
        (now = e.2.2.1 → t.power = s.power) ∧ (now ≠ e.2.2.1 → goes → t.power.entering = some e.2.2.1) ∧
          (now ≠ e.2.2.1 → ¬goes → t.power = { s.power with wanted := some e.2.2.1 }))) ∧
    (s.Ready ref c (isAdm 0x56 0x10) → ∃ t : State, exec (.powerShutdown ref) s = .next (t.finishLast ref) ∧
      t.power.shutdown = some .stay ∧ t.kv.objects = []) ∧
    (s.Ready ref c (isAdm 0x56 0x11) → ∃ t : State, exec (.powerWarmRestart ref) s = .next (t.finishLast ref) ∧
      t.power.shutdown = some .warmStart ∧ t.kv.objects = [])) ∧
  (∀ (p : Path) (s : State), s.pathOpen p = true →
    let taken := fun (t : State) => t.ctrl.reqSeq = (s.ctrl.reqSeq + 1) % 65536
    (s.ctrl.busy = none →
      (s.fetching = true → Runs (.ctrlP0 p) s fun t => t.power.wanted = none ∧ t.ctrl.code = 0x01 ∧ taken t ∧
        t.ctrl.result = if s.power.pstate = .p0 ∧ s.power.entering = none then 0 else 1) ∧
      (s.steadyPower = true → s.power.pstate = .p0 → s.mode.warming = false → Runs (.ctrlP1 p) s fun t =>
        t.power.entering = some .p1 ∧ t.ctrl.busy = some 0x02 ∧ taken t) ∧
      (∀ e ∈ [(Instr.ctrlP2 p, PState.p2, 0x03), (.ctrlP3 p, .p3, 0x04)],
        (s.steadyPower = true → s.pair.paired = false → s.lowOk = true → pstateCode s.power.pstate < pstateCode e.2.1 →
          Runs e.1 s fun t => t.power.entering = some e.2.1 ∧ t.ctrl.busy = some e.2.2 ∧ taken t) ∧
        (s.fetching = true → s.pair.paired = false → s.mode.warming = false → s.lowOk = false → s.power.pstate ≠ e.2.1 →
          Runs e.1 s fun t => t.power = { s.power with wanted := some e.2.1 } ∧ t.ctrl.busy = some e.2.2 ∧ taken t)) ∧
      (∀ e ∈ [(Instr.ctrlP1 p, 0x02, false), (.ctrlP2 p, 0x03, s.pair.paired), (.ctrlP3 p, 0x04, s.pair.paired)],
        (s.fetching = true → s.mode.warming = true ∨ e.2.2 = true → Runs e.1 s fun t => t.power = s.power ∧ t.ctrl.code = e.2.1 ∧
          t.ctrl.result = 2 ∧ t.ctrl.busy = none ∧ taken t) ∧
        (s.fetching = false → Runs e.1 s fun t => t.power = s.power ∧ t.ctrl.code = e.2.1 ∧ t.ctrl.result = 3 ∧
          t.ctrl.busy = none ∧ taken t)) ∧
      (∀ e ∈ [(Instr.ctrlShutdown p, AfterShutdown.stay, 0x10), (.ctrlWarmRestart p, .warmStart, 0x11)],
        (s.canShutdown = true → Runs e.1 s fun t =>
          t.power.shutdown = some e.2.1 ∧ t.ctrl.busy = some e.2.2 ∧ taken t) ∧
        (s.canShutdown = false → Runs e.1 s fun t => t.power = s.power ∧ t.ctrl.result = 3 ∧ t.ctrl.busy = none ∧ taken t)) ∧
      (s.power.shutDone = true → Runs (.ctrlColdRestart p) s fun t =>
        t.power.shutDone = false ∧ t.power.step = 2 ∧ t.ctrl.busy = some 0x12 ∧ taken t)) ∧
    (s.ctrl.busy ≠ none → ∀ i ∈ [Instr.ctrlP0 p, .ctrlP1 p, .ctrlP2 p, .ctrlP3 p, .ctrlShutdown p, .ctrlWarmRestart p,
        .ctrlColdRestart p], Runs i s fun t => t.power = s.power ∧ t.ctrl = { s.ctrl with
          rejOffset := 0x100, rejPath := pathCode p, rejCount := min (s.ctrl.rejCount + 1) 255 }))

/-- A staged block is kept with its owner; a commit whose five checks pass verifies the bank; with APPLY, in SERVICE, the
component is to run at the warm start that follows. (19 R674, 19 R676, 19 R677, 19 R678) -/
def Obligations.ImagesAreStagedAndApplied : Prop :=
  ∀ (ref : Nat) (c : Cmd) (bs : Bytes) (s : State), s.fw.comps.length = 4 →
    let n := bitsOf (byteAt c.desc 8) 0 2
    n = 1 ∨ n = 2 → s.ownsBank n (s.sender c) = true →
    (s.Ready ref c (fun d => dOpcode d == 0x52) → 1 ≤ u32At c.desc 28 → u32At c.desc 28 ≤ 16777216 →
      u32At c.desc 24 + u32At c.desc 28 ≤ maxImage n →
      ∃ k : Component, Completes (.admImageBlock ref (.data bs)) s ref (Comp.okResult k.stagedBytes) fun t =>
        t.comp n = k ∧ k.stage = .receiving ∧ k.owner = some (s.sender c) ∧
          k.staged = (u32At c.desc 24, fit (u32At c.desc 28) bs) :: (s.comp n).staged) ∧
    (s.commitFailure n (slice c.desc 16 48) = none →
      (s.Ready ref c (fun d => isCommit false false d || isCommit false true d) → bitOf (byteAt c.desc 9) 1 = false →
        Completes (.admImageCommit ref) s ref (Comp.okResult (u32At (s.comp n).image 8)) fun t =>
          (t.comp n).stage = .verified ∧ (t.comp n).owner = some (s.sender c)) ∧
      (s.Ready ref c (isCommit true false) → s.mode.mode = .service →
        ∃ t : State, exec (.imageCommitApply ref) s =
            .next ((t.finish ref (Comp.okResult (u32At (s.comp n).image 8))).applyLater n) ∧
          (t.comp n).stage = .verified)) ∧
    (s.revertFailure n = none → s.Ready ref c (isCommit true true) → s.mode.mode = .service →
      exec (.imageCommitRevert ref) s =
        .next (((s.passed ref).finish ref (Comp.okResult (s.comp n).other.version)).applyLater n))

/-- The warm start applies what was asked for; a trial bank that fails gives way to the one before; a bank without a block
or commit for 10 min is emptied; MIGRATE_CONFIRM raises the counters to the running images' SVN and drops the rollback
point. (19 R675, 19 R677, 19 R679, 19 R684) -/
def Obligations.BanksSwitchAndCountersRise : Prop :=
  ∀ (ref comp : Nat) (c : Cmd) (s : State),
    (s.fw.applying ≠ [] → s.canShutdown = true → Runs .applyWarmStart s fun t =>
      t.power.shutdown = some .warmStart ∧ ∀ n ∈ s.fw.toApply, n < s.fw.comps.length →
        (t.comp n).bankB = !(s.comp n).bankB ∧ (t.comp n).trial = true ∧ (t.comp n).stage = .empty) ∧
    ((s.comp comp).trial = true → exec (.trialBankFail comp) s =
      .next (s.modComp comp fun k => { k with bankB := !k.bankB, trial := false })) ∧
    ((s.comp comp).stage ≠ .empty → exec (.imageBankTimeout comp) s =
      .next (s.modComp comp fun k => { k with stage := .empty, owner := none, staged := [] })) ∧
    (s.Ready ref c (fun d => dOpcode d == 0x54) →
      Completes (.admMigrateConfirm ref) s ref (Comp.okResult (b2n s.fw.rollback.isSome)) fun t =>
        t.fw.rollback = none ∧ t.fw.comps = s.fw.comps.map fun k => { k with counter := max k.counter k.running.svn })

/-- A write to a register in its range takes effect, one outside is ignored and recorded; an acknowledgement clears the
causes of its mask whose conditions are over; a snapshot fills the writer's own window; a change of the time source ends
discipline; PPS_SECONDS waits for the next edge. (18 R649, 16 R609, 18 R662, 18 R658, 17 R645) -/
def Obligations.RegistersAreWritten : Prop :=
  ∀ (p : Path) (w mask : Word) (link : LinkId) (l : List Nat) (source port seconds : Nat) (s : State), s.pathOpen p = true →
    (inRange 1 300 (bitsOf w.toNat 0 9) = true → Runs (.registerWrite p 0x208 [w]) s fun t =>
      t.settings = { s.settings with orphanHold := bitsOf w.toNat 0 9 } ∧ t.ctrl = s.ctrl ∧ t.sess = s.sess ∧ t.kv = s.kv) ∧
    (inRange 1 300 (bitsOf w.toNat 0 9) = false → Runs (.registerWrite p 0x208 [w]) s fun t =>
      t.settings = s.settings ∧ t.ctrl = { s.ctrl with rejOffset := 0x208, rejPath := pathCode p,
                                                       rejCount := min (s.ctrl.rejCount + 1) 255 }) ∧
    (Runs (.attnAck p mask) s fun t => (∀ b, b < 32 → t.attn.causes.getLsbD b =
        (s.attn.causes.getLsbD b && !(b != 0 && bitOf mask.toNat b && !s.conditionHolds b))) ∧
      t.attn.log = s.attn.log ∧ t.attn.warnings = s.attn.warnings ∧ t.mode = s.mode ∧ t.kv = s.kv) ∧
    (s.linkCounters link = some l → Runs (.counterSnap p link) s fun t => ∃ x : CounterWin, x ∈ t.ports.windows ∧
      x.path = p ∧ x.selected = selectOf link ∧ x.valid = true ∧
        (∀ n, n < 22 → n ∉ uncounted → x.counters.getD n 0 = l.getD n 0) ∧
        (∀ y : CounterWin, y.path ≠ p → (y ∈ t.ports.windows ↔ y ∈ s.ports.windows)) ∧ t.ports.logical = s.ports.logical) ∧
    (bitsOf source 0 2 ≠ s.settings.timeSource → Runs (.timeSourceWrite p source port) s fun t =>
      t.settings = { s.settings with timeSource := bitsOf source 0 2, ptpPort := bitsOf port 0 7 } ∧
        t.time.disciplined = false ∧ t.time.holdover = (s.time.holdover || s.time.disciplined) ∧ t.time.now = s.time.now) ∧
    (Runs (.ppsSecondsWrite p seconds) s fun t => t.settings = s.settings ∧
      t.time = if s.settings.timeSource = 2 then { s.time with ppsSeconds := some (seconds % 2 ^ 64) } else s.time)

/-- Staged groups: a staged write changes the staging copy alone; an apply with the right sequence makes it live; a discard
takes the live values back; the bootstrap group creates the Custodian credential and forgets its secret. (18 R659, 18 R660,
18 R661, 18 R663) -/
def Obligations.StagedGroupsApply : Prop :=
  ∀ (p : Path) (n wd l seq : Nat) (w : Word) (s : State), s.pathOpen p = true → n < 32 → s.ports.hosts.length = 32 →
      l < 128 → s.ports.logical.length = 128 →
    (wd < 3 → Runs (.stagedFieldWrite p (0x1000 + 64 * n + 4 * wd) w) s fun t =>
      t.host n = { s.host n with stage := stagePort n wd w.toNat (s.host n).stage, words := (s.host n).words.bump } ∧
        (∀ m, m ≠ n → t.host m = s.host m) ∧ t.ports.logical = s.ports.logical) ∧
    (seq % 65536 = (s.host n).words.seq → s.stagedBreakout n = (s.host n).live.breakout → s.stagedBreakout n ≠ 3 →
      Runs (.portConfigApply p n seq) s fun t =>
        (t.host n).live = { (s.host n).stage with breakout := (s.host n).live.breakout } ∧
          (t.host n).words = (s.host n).words.apply .applied ∧ t.sess = s.sess ∧ ∀ m, m ≠ n → t.host m = s.host m) ∧
    (seq % 65536 = (s.logical l).words.seq → s.addressValid l (s.logical l).stage = true →
      (∀ x ∈ s.sess.sessions, addressGone l (s.logical l).live (s.logical l).stage x = false) →
      Runs (.addressApply p l seq) s fun t => (t.logical l).live = (s.logical l).stage ∧
        (t.logical l).words = (s.logical l).words.apply .applied ∧ t.sess = s.sess ∧
        ∀ m, m ≠ l → t.logical m = s.logical m) ∧
    (sideband p = true → seq % 65536 = s.creds.boot.stageSeq → s.creds.list.any (·.role == 1) = false →
      s.creds.boot.cred ≠ 0 → s.creds.list.any (·.cred == s.creds.boot.cred) = false →
      Runs (.bootstrapApply p seq) s fun t =>
        t.creds.list = s.creds.list ++ [{ cred := s.creds.boot.cred, role := 1, secret := fit 32 s.creds.boot.secret }] ∧
          t.creds.boot.secret = [] ∧ t.creds.boot.result = 1) ∧
    (Runs (.stageDiscard p (.hostPort n)) s fun t =>
      t.host n = { s.host n with stage := (s.host n).live, words := (s.host n).words.discard }) ∧
    (Runs (.stageDiscard p (.logicalPort l)) s fun t =>
      t.logical l = { s.logical l with stage := (s.logical l).live, words := (s.logical l).words.discard })

/-- The Session Setup block of a session that reaches it: ENABLE puts a valid admin ring in force with its indices at 0 and
names the first field that breaks a rule otherwise; with RESUME the ring of the orphan named goes on, or the block's own is
started; RESET resets the ring; WINDOW_OPEN opens the register space to a Custodian. Elsewhere, and in another state, a
write has no effect. (18 R664, 18 R665, 18 R666, 18 R667) -/
def Obligations.SetupBlockGivesTheAdminRing : Prop :=
  ∀ (sid at_ : Nat) (x o : Session) (r : Ring) (s : State), s.session? sid = some x →
    let starts := fun (t : State) => ∃ y q, t.session? sid = some y ∧ y.ring? 0 = some q ∧ y.setup.state = 1 ∧ q.st = .active ∧
      q.producer = 0 ∧ q.fetch = 0 ∧ q.cqCount = 0 ∧ q.sqBase = x.setup.sqBase ∧ q.cqBase = x.setup.cqBase ∧
      q.dbAddr = x.setup.dbAddr ∧ q.rkey = x.setup.rkey ∧ q.sqLog2 = x.setup.sqLog2 ∧ q.cqLog2 = x.setup.cqLog2 ∧ y.role = x.role
    (s.setupOpen sid = false → ∀ i ∈ [Instr.setupEnable sid, .setupEnableResume sid, .setupReset sid, .windowOpen sid],
      exec i s = .next s) ∧
    (s.setupOpen sid = true →
      (x.mayEnable = true →
        (x.setup.invalid = none → Runs (.setupEnable sid) s starts) ∧
        (x.setup.invalid = some at_ → Runs (.setupEnable sid) s fun t => t.session? sid = some (x.invalidSetup at_)) ∧
        (s.orphanOf x.setup.resume = some o → o.ring? 0 = some r → Runs (.setupEnableResume sid) s fun t =>
          ∃ y, t.session? sid = some y ∧ y.resuming = some x.setup.resume ∧ y.role = x.role ∧
            y.ring? 0 = some { r with reset := none, waiting := [], eventDue := false, heldComp := false }) ∧
        (s.orphanOf x.setup.resume = none → x.setup.invalid = none → Runs (.setupEnableResume sid) s fun t => starts t ∧
          ∃ y, t.session? sid = some y ∧ y.resuming = some x.setup.resume)) ∧
      (x.mayEnable = false → exec (.setupEnable sid) s = .next s ∧ exec (.setupEnableResume sid) s = .next s) ∧
      (x.setupState = 1 ∨ x.setupState = 4 → x.ring? 0 = some r → Runs (.setupReset sid) s fun t =>
        ∃ q, t.ring? sid 0 = some q ∧ q.st = .resetting ∧ q.resetSeq = r.resetSeq + 1 ∧ q.reset.isSome = true) ∧
      (x.setupState ≠ 1 → x.setupState ≠ 4 → exec (.setupReset sid) s = .next s) ∧
      (x.role = 1 → Runs (.windowOpen sid) s fun t => ∃ y, t.session? sid = some y ∧ y.setup.window = true ∧
        y.setup.state = x.setup.state ∧ y.rings = x.rings) ∧
      (x.role ≠ 1 → exec (.windowOpen sid) s = .next s))

/-- The I3C target takes the address assigned, and the SPDM responder answers each of its seven requests as the negotiation
allows; any other request gets ERROR with UnsupportedRequest. Byte layouts are those of the standard
(notes/assumptions/34.md). (18 R652, 14 R551, 14 R552) -/
def Obligations.SpdmRequestsAreAnswered : Prop :=
  ∀ (addr offset length index code : Nat) (nonce : Bytes) (s : State),
    (s.feeds.mgmtUp = true → 2 ≤ s.startStep → s.usb.i3cAddr = none → Runs (.i3cEntdaa addr) s fun t =>
      t.usb = { s.usb with i3cAddr := some (addr % 128) }) ∧
    (s.pathOpen .i3c = true →
      (Runs .spdmGetVersion s fun t => t.usb.spdmVer = true ∧ t.usb.spdmCaps = false ∧ t.usb.spdmAlgs = false ∧
        t.out = s.out ++ [.spdm 0x04 ([0x10, 0x04, 0, 0, 0, 1, 0x00, 0x12] : Bytes)]) ∧
      (s.usb.spdmVer = true → Runs .spdmGetCapabilities s fun t => t.usb.spdmCaps = true ∧
        ∃ b : Bytes, t.out = s.out ++ [.spdm 0x61 (spdmMsg 0x12 0x61 0 0 b)] ∧ slice b 4 4 = toLe 4 spdmFlags) ∧
      (s.usb.spdmCaps = true → Runs .spdmNegotiateAlgorithms s fun t => t.usb.spdmAlgs = true ∧
        ∃ b : Bytes, t.out = s.out ++ [.spdm 0x63 (spdmMsg 0x12 0x63 0 0 b)]) ∧
      (s.usb.spdmAlgs = true →
        (Runs .spdmGetDigests s fun t => t.out = s.out ++ [.spdm 0x01 (spdmMsg 0x12 0x01 0 1 (sha384 spdmChain))]) ∧
        (offset < spdmChain.length → Runs (.spdmGetCertificate 0 offset length) s fun t => ∃ b : Bytes,
          t.out = s.out ++ [.spdm 0x02 (spdmMsg 0x12 0x02 0 0 (b ++ slice spdmChain offset length))] ∧ b.length = 4) ∧
        (Runs (.spdmChallenge 0 nonce) s fun t => t.usb.transcript = [] ∧ ∃ m n sig : Bytes, t.out = s.out ++ [.spdm 0x03 (m ++ sig)] ∧
          m = spdmMsg 0x12 0x03 0 1 (sha384 spdmChain ++ n ++ [0, 0]) ∧ n.length = 32 ∧ sig.length = 96) ∧
        (index ≤ 6 → Runs (.spdmGetMeasurements index true nonce) s fun t => t.usb.transcript = [] ∧
          ∃ m n sig : Bytes, t.out = s.out ++ [.spdm 0x60 (m ++ ((spdmBlocks index).flatMap s.spdmBlock) ++ n ++ [0, 0] ++ sig)] ∧
            m.length = 8 ∧ n.length = 32 ∧ sig.length = 96)) ∧
      (spdmSupported code = false → exec (.spdmUnsupportedRequest code) s =
        .next (s.emit (.spdm 0x7F (spdmMsg 0x12 0x7F 0x07 (code % 256) [])))))

/-- The service port attaches with VBUS and answers its requests: an unknown one is stalled, a status request returns the
16-byte record, a tag read returns tag bytes. The service port's executed requests increment REQ_SEQ and record their
result: an image block is staged, a commit that passes verifies, a discard empties the bank, MIGRATE_CONFIRM raises the
counters, a label write queues its blocks. Without the ACK of its status stage a request has no effect. (19 R668, 19 R669,
19 R670, 19 R672, 19 R676, 19 R689) -/
def Obligations.ServicePortRequests : Prop :=
  (∀ (offset len a : Nat) (setup : Bytes) (s : State),
    (s.feeds.mgmtUp = true → s.usb.pullUp = false → Runs (.usbVbusChange true) s fun t =>
      t.usb = { s.usb with vbus := true, pullUp := true } ∧ t.out = s.out ++ [.usbPullUp true]) ∧
    (s.usb.pullUp = true → Runs (.usbVbusChange false) s fun t =>
      t.usb = { s.usb with vbus := false, pullUp := false, addr := 0, configured := false } ∧
        t.out = s.out ++ [.usbPullUp false]) ∧
    (s.usb.pullUp = true → Runs .usbBusReset s fun t => t.usb = { s.usb with addr := 0, configured := false } ∧
      t.out = s.out) ∧
    (s.pathOpen .usb = true →
      (a < 128 → Runs (.usbStandardRequest (toLe 1 0 ++ toLe 1 5 ++ toLe 2 a ++ zeros 4)) s fun t =>
        t.usb = { s.usb with addr := a } ∧ t.out = s.out ++ [.usbStatus]) ∧
      (Runs (.usbStandardRequest (toLe 1 0x80 ++ toLe 1 6 ++ toLe 2 0x0100 ++ zeros 2 ++ toLe 2 18)) s fun t =>
        t.usb = s.usb ∧ ∃ d : Bytes, t.out = s.out ++ [.usbData d] ∧ d.length = 18 ∧
          slice d 8 4 = toLe 2 0x3D7E ++ toLe 2 0x1500) ∧
      (rspWellFormed (byteAt setup 0) (byteAt setup 1) (u16At setup 2) (u16At setup 4) (u16At setup 6) = false →
        exec (.rspUnknownRequest setup) s = .next (s.emit .usbStall)) ∧
      (aligned offset 4 = true → aligned len 4 = true → inRange 4 4096 len = true → offset + len ≤ tagSize →
        s.tag.holder ≠ .rf → exec (.rspTagRead offset len) s = .next (s.emit (.usbData (s.tagBytes offset len)))) ∧
      (Runs .rspStatus s fun t => t.usb = s.usb ∧ ∃ d : Bytes, t.out = s.out ++ [.usbData d] ∧ d.length = 16 ∧
        slice d 0 4 = toLe 4 s.usb.reqSeq ∧ slice d 4 2 = toLe 1 s.usb.lastReq ++ toLe 1 s.usb.result))) ∧
  (∀ (blk comp off : Nat) (data digest : Bytes) (s : State), s.pathOpen .usb = true → s.fw.comps.length = 4 → comp < 4 →
    (s.ownsBank comp .service = true →
      (inRange 1 4096 data.length = true → 4096 * blk + data.length ≤ maxImage comp →
        Runs (.rspImageBlock blk comp data true) s fun t =>
          t.comp comp = (s.comp comp).put .service (4096 * blk) data ∧ t.usb.lastReq = 0x10 ∧ t.usb.result = 0 ∧
            t.usb.reqSeq = (s.usb.reqSeq + 1) % 2 ^ 32) ∧
      (digest.length = 48 → s.commitFailure comp digest = none → Runs (.rspImageCommit comp false false digest true) s fun t =>
        (t.comp comp).stage = .verified ∧ t.usb.lastReq = 0x11 ∧ t.usb.result = 0) ∧
      (Runs (.rspImageDiscard comp true) s fun t => t.comp comp = (s.comp comp).empty ∧ t.usb.lastReq = 0x12 ∧
        t.usb.result = 0)) ∧
    (Runs (.rspMigrateConfirm true) s fun t => t.fw.rollback = none ∧ t.usb.lastReq = 0x13 ∧ t.usb.result = 0 ∧
      t.fw.comps = s.fw.comps.map fun k => { k with counter := max k.counter k.running.svn }) ∧
    (aligned off 4 = true → aligned data.length 4 = true → inRange 4 2048 data.length = true → off + data.length ≤ 2048 →
      (Runs (.rspTagLabelWrite off data true) s fun t =>
        t.tag = { s.tag with todo := s.tag.todo ++ blocksOf ((0x400 + off) / 4) (data.length / 4) (labelBytes off data),
                             labelJob := true } ∧ t.usb.lastReq = 0x21 ∧ t.usb.result = 1) ∧
      exec (.rspTagLabelWrite off data false) s = .next s))

/-- The commands that the tag answers at all times. RF reads and writes of the tag's memory take or extend the RF session; a
label write is allowed while RF_WRITE is 1 and changes its four bytes alone; the wired side writes at most 16 blocks in a
burst and waits for the RF session to end. (19 R685, 19 R688, 19 R689, 19 R690, 19 R691) -/
def Obligations.TagIsReadAndWritten : Prop :=
  (∀ (uid : Bytes) (extended : Bool) (b : Nat) (s : State),
    (s.tag.rf ≠ .quiet → exec .tagInventory s = .next (s.emit (.tagAnswer (zeros 2 ++ fit 8 s.ident.tagUid)))) ∧
    (s.tag.rf = .quiet → exec .tagInventory s = .next s) ∧
    exec (.tagStayQuiet (fit 8 s.ident.tagUid)) s = .next { s with tag := { s.tag with rf := .quiet } } ∧
    (uid ≠ fit 8 s.ident.tagUid → exec (.tagStayQuiet uid) s = .next s ∧
      Runs (.tagSelect uid) s fun t => t.out = s.out ∧
        t.tag = { s.tag with rf := if s.tag.rf = .selected then .ready else s.tag.rf }) ∧
    exec (.tagSelect (fit 8 s.ident.tagUid)) s =
      .next ({ s with tag := { s.tag with rf := .selected } }.emit (.tagAnswer (zeros 1))) ∧
    exec .tagResetToReady s = .next ({ s with tag := { s.tag with rf := .ready } }.emit (.tagAnswer (zeros 1))) ∧
    (Runs (.tagGetSystemInfo extended) s fun t => t.tag = s.tag ∧ ∃ d : Bytes, t.out = s.out ++ [.tagAnswer d] ∧
      slice d 2 8 = fit 8 s.ident.tagUid ∧ (extended = true → slice d 10 3 = toLe 2 2047 ++ toLe 1 3)) ∧
    exec (.tagLockBlock b) s = .next (s.emit (.tagAnswer ([1, 0x14] : Bytes)))) ∧
  (∀ (b n : Nat) (data : Bytes) (s : State),
    (s.tag.holder ≠ .wired →
      (b < 2048 → exec (.tagReadSingleBlock b) s =
        .next ({ s with tag := { s.tag with holder := .rf } }.emit (.tagAnswer (zeros 1 ++ s.tagBytes (4 * b) 4)))) ∧
      (n ≤ 64 → b < 2048 → b + n ≤ 2048 → exec (.tagReadMultipleBlocks b n) s =
        .next ({ s with tag := { s.tag with holder := .rf } }.emit (.tagAnswer (zeros 1 ++ s.tagBytes (4 * b) (4 * n))))) ∧
      (0x101 ≤ b → b ≤ 0x2FF → s.rfWrite = true → Runs (.tagWriteSingleBlock b data) s fun t =>
        t.tagBytes (4 * b) 4 = fit 4 data ∧ (∀ a, a < 4 * b ∨ 4 * b + 4 ≤ a → cellAt t.ident t.tag.mem a = cellAt s.ident s.tag.mem a) ∧
          t.out = s.out ++ [.tagAnswer (zeros 1)] ∧ t.tag.holder = .rf) ∧
      (b < 0x101 → Runs (.tagWriteSingleBlock b data) s fun t => t.tag.mem = s.tag.mem ∧
        t.out = s.out ++ [.tagAnswer ([1, 0x12] : Bytes)])) ∧
    (s.tag.holder = .wired → exec (.tagReadSingleBlock b) s = .next (s.emit (.tagAnswer ([1, 0xB0] : Bytes)))) ∧
    (s.tag.holder = .rf → exec .tagRfSessionEnd s = .next { s with tag := { s.tag with holder := .free } } ∧
      exec .tagWiredRetry s = .next s) ∧
    (s.tag.holder = .free → s.feeds.mgmtUp = true → s.tag.todo = [(b, data)] → b < 2048 → Runs .tagWiredRetry s fun t =>
      t.tag.holder = .wired ∧ t.tag.todo = [] ∧ t.tagBytes (4 * b) 4 = fit 4 data ∧
        ∀ a, a < 4 * b ∨ 4 * b + 4 ≤ a → cellAt t.ident t.tag.mem a = cellAt s.ident s.tag.mem a) ∧
    (s.feeds.mgmtUp = true → s.power.step = 12 → s.power.shutDone = false → Runs .tagHealthUpdate s fun t =>
      t.tag.healthGen = nextTagGen s.tag.healthGen ∧ t.tag.mem = s.tag.mem ∧
        ∃ l, t.tag.todo = s.tag.todo ++ l ∧ l.head? = some (0xA0, toLe 4 (nextTagGen s.tag.healthGen))))

/-- Power-state events: an expired idle timer begins the entry one state down, or back to the state that background work
left, where it may; an entry completes, or is given up when its conditions no longer hold, and work that arrived during it
starts the exit; the exit ends in P0, after P2 and P3 with the map caches invalid; a state that was asked for and waited is
then entered. The end of a clean shutdown: every version is programmed, no session or command is left, and either the module
stays down with its shelf record queued or a warm start goes on from step 5; what shuts down while WARMING starts as after
an unclean stop. (02 R69, 02 R71, 02 R75, 02 R76, 02 R85, 08 R351) -/
def Obligations.PowerStateEventsMove : Prop :=
  (∀ (p : PState) (s : State),
    let may := (p = .p1 ∧ s.mode.warming = false) ∨ (p ≠ .p1 ∧ s.lowOk = true)
    let gaveUp := (p = .p1 ∧ s.mode.warming = true) ∨ ((p = .p2 ∨ p = .p3) ∧ s.lowOk = false)
    let waits := s.power.wanted = some p ∧ p ≠ .p0 ∧ s.steadyPower = true ∧ may
    (s.steadyPower = false → exec .idleTimerExpire s = .next s) ∧
    (s.steadyPower = true →
      (s.power.returnTo = some p → (s.lowOk = true → Runs .idleTimerExpire s fun t => t.power.entering = some p ∧
          t.power.pstate = s.power.pstate) ∧ (s.lowOk = false → exec .idleTimerExpire s = .next s)) ∧
      (s.power.returnTo = none → s.nextDown = none → exec .idleTimerExpire s = .next s) ∧
      (s.power.returnTo = none → s.nextDown = some p →
        (may → Runs .idleTimerExpire s fun t => t.power.entering = some p ∧ t.power.pstate = s.power.pstate) ∧
        (¬may → exec .idleTimerExpire s = .next s))) ∧
    (s.power.entering = some p →
      (gaveUp → Runs .powerStateEntered s fun t => t.power = { s.power with
          entering := none, exiting := s.power.workHeld && s.power.pstate != .p0, workHeld := false } ∧ t.kv = s.kv ∧ t.sess = s.sess) ∧
      (¬gaveUp → Runs .powerStateEntered s fun t => t.power = { s.power with
          pstate := p, entering := none, exiting := s.power.workHeld, workHeld := false,
          wanted := if s.power.wanted = some p then none else s.power.wanted } ∧
        t.kv = s.kv ∧ t.sess = s.sess ∧ t.attn = s.attn)) ∧
    (s.power.entering = none → waits → Runs .powerStateEntered s fun t => t.power.entering = some p) ∧
    (s.power.entering = none → s.power.wanted = none → exec .powerStateEntered s = .next s) ∧
    (s.power.exiting = true → Runs .p0Reached s fun t => t.power.pstate = .p0 ∧ t.power.exiting = false ∧ t.kv = s.kv ∧
      (s.power.pstate = .p2 ∨ s.power.pstate = .p3 → ∀ m ∈ t.media.moons, m.mapInval = true ∧ m.mapLines = [])) ∧
    (s.power.exiting = false → exec .p0Reached s = .next s)) ∧
  (∀ s : State,
    let off := fun (t : State) => t.sess.sessions = [] ∧ t.cmds.list = [] ∧ t.locks = {} ∧ ∀ v ∈ t.kv.versions, v.place ≠ .staged
    (s.power.shutdown = none → exec .cleanShutdownDone s = .next s) ∧
    (s.power.shutdown = some .stay → Runs .cleanShutdownDone s fun t => off t ∧
      t.power.shutDone = true ∧ t.power.shutdown = none ∧ t.power.start = (if s.mode.warming then .unclean else .clean) ∧
        t.tag.shelfSeq = s.tag.shelfSeq + 1 ∧ t.tag.mem = s.tag.mem) ∧
    (s.power.shutdown = some .warmStart → Runs .cleanShutdownDone s fun t => off t ∧
      t.power.shutDone = false ∧ t.power.step = 4 ∧ t.power.start = (if s.mode.warming then .unclean else .warm) ∧
        t.attn.causes.getLsbD cStart = true ∧ t.tag = s.tag))

/-- A start: power brings the management island up with the settings, credentials, keys and store kept, or goes on from step
3 with an island that runs from the bank; each step is reached in turn; the map recovery of sound moons changes no version;
the last step resumes the stored mode and clears START_INCOMPLETE. An island that fails to wake: its attempts are counted, a
wake that succeeds ends them, and after the third retry its unit is marked failed, with ATTN#, and with the outcome of its
kind. (02 R58, 02 R78, 02 R79, 02 R87, 02 R88, 06 R241) -/
def Obligations.StartsRunThroughTheirSteps : Prop :=
  (∀ (f : Front) (volt : Nat) (facts : StartFacts) (s : State),
    (s.feeds.present = false ∨ s.power.step ≠ 0 → exec (.coldStart f volt) s = .next s) ∧
    (s.feeds.present = true → s.power.step = 0 →
      (s.feeds.mgmtUp = true → Runs (.coldStart f volt) s fun t => t.power.step = 2 ∧ t.feeds.loss = .none ∧
        t.attn.causes.getLsbD cStart = true) ∧
      (s.feeds.mgmtUp = false → Runs (.coldStart f volt) s fun t =>
        t.power.step = 1 ∧ t.feeds.mgmtUp = true ∧ t.power.start = s.power.start ∧ t.settings = s.settings ∧
          t.creds.list = s.creds.list ∧ t.vault.slots = s.vault.slots ∧ t.kv = s.kv ∧ t.ns = s.ns ∧ t.mode.mode = s.mode.mode ∧
          t.ctrl = {} ∧ t.attn.causes.getLsbD cStart = true)) ∧
    (s.power.step = 0 ∨ 12 ≤ s.power.step ∨ s.power.shutDone = true ∨ s.feeds.mgmtUp = false →
      exec (.startStepReached facts) s = .next s) ∧
    (0 < s.power.step → s.power.step < 12 → s.power.shutDone = false → s.feeds.mgmtUp = true →
      (Runs (.startStepReached facts) s fun t => t.power.step = s.power.step + 1) ∧
      (s.power.step = 7 → Runs (.startStepReached facts) s fun t => t.win.reached100 = true) ∧
      (s.power.step = 9 → facts.tailBad = 0 → facts.noMap = 0 → Runs (.startStepReached facts) s fun t => t.kv = s.kv) ∧
      (s.power.step = 10 → Runs (.startStepReached facts) s fun t => t.seq = { s.seq with next := s.seq.hwm + 1 }) ∧
      (s.power.step = 11 → Runs (.startStepReached facts) s fun t =>
        t.mode.warming = (s.mode.warming || decide (facts.coldestDie < -100)) ∧ t.attn.causes.getLsbD cStart = false ∧
          (s.mode.fatal = true → t.mode.mode = s.mode.mode) ∧
          (s.mode.fatal = false → s.mode.mode ≠ .commission → s.mode.custodyCause = true → t.mode.mode = .custody) ∧
          (s.mode.fatal = false → s.mode.mode = .commission → t.mode.mode = .commission) ∧
          (s.mode.warming = true ∨ facts.coldestDie < -100 → ∀ i ∈ t.thermal.islands, i.tripped = true ∨ i.level = 0) ∧
          (s.mode.fatal = false → s.mode.custodyCause = false →
            t.mode.mode = if s.mode.resumed = .custody then .solo else s.mode.resumed)))) ∧
  (∀ (u : UnitId) (island : Nat) (osc ok : Bool) (n m : Nat) (q : Moon) (s : State),
    (s.attempts u island = none → unitCode u ∉ s.attn.islands → Runs (.islandWakeFail ⟨u, island⟩ osc) s fun t =>
      t.attempts u island = some (1, osc) ∧ t.attn.causes = s.attn.causes ∧ t.media = s.media) ∧
    ((s.attempts u island).isSome = true ∨ unitCode u ∈ s.attn.islands → exec (.islandWakeFail ⟨u, island⟩ osc) s = .next s) ∧
    (s.attempts u island = none → exec (.islandRetry ⟨u, island⟩ ok) s = .next s) ∧
    (s.attempts u island = some (n, osc) →
      (Runs (.islandRetry ⟨u, island⟩ true) s fun t => t.attempts u island = none ∧ t.attn.islands = s.attn.islands ∧
        t.media = s.media) ∧
      (n < 3 → Runs (.islandRetry ⟨u, island⟩ false) s fun t => t.attempts u island = some (n + 1, osc) ∧ t.media = s.media) ∧
      (3 ≤ n → Runs (.islandRetry ⟨u, island⟩ false) s fun t =>
        unitCode u ∈ t.attn.islands ∧ t.attn.causes.getLsbD cIsland = true ∧
          (u = .moon m → s.media.moons[m]? = some q → q.inService = true →
            ∃ r, t.media.moons[m]? = some r ∧ r.inService = false ∧ r.lostCause = 1) ∧
          (u = .vault → t.vault.up = false) ∧ (u = .mgmt → t.feeds.mgmtUp = false ∧ t.power.step = 0) ∧
          (u = .time → t.time.up = false))))

/-- WARMING: at -22 °C or below the window is zero and the log tails are checkpointed, but for a WARMING module, and the
module wakes; below -25 °C the condition is in force, with every island at T0, until -20 °C is reached; after its long time
ATTN# is asserted. (02 R62, 02 R64, 02 R66) -/
def Obligations.WarmingFollowsTheColdestDie : Prop :=
  ∀ (c : Int) (s : State),
    (c ≤ -88 → s.fetching = true → Runs (.coldPrepare c) s fun t =>
      t.win.cold = true ∧ t.win.window = 0 ∧ t.thermal.coldest = c ∧ t.mode = s.mode ∧
        (s.mode.warming = false → ∀ m ∈ t.media.moons, m.inService = true → m.tailCkpt = m.logSeq) ∧
        (s.power.pstate ∈ [.p1, .p2, .p3] → s.power.entering = none → t.power.exiting = true)) ∧
    (-88 < c ∨ s.fetching = false → exec (.coldPrepare c) s = .next s) ∧
    (c < -100 → s.mode.warming = false → s.power.step = 12 → Runs (.warmingEnter c) s fun t =>
      t.mode = { s.mode with warming := true, warmingLong := false } ∧ t.thermal.coldest = c ∧ t.win.cold = true ∧
        t.win.window = 0 ∧ t.kv.versions = s.kv.versions ∧
        ∀ i ∈ t.thermal.islands, i.tripped = true ∨ i.level = 0) ∧
    (-100 ≤ c ∨ s.mode.warming = true ∨ s.power.step ≠ 12 → exec (.warmingEnter c) s = .next s) ∧
    (-80 ≤ c → s.mode.warming = true → Runs (.warmingExit c) s fun t =>
      t.mode = { s.mode with warming := false, warmingLong := false } ∧ t.win = { s.win with cold := false } ∧
        t.thermal.coldest = c ∧ t.cmds = s.cmds ∧ t.kv = s.kv) ∧
    (c < -80 ∨ s.mode.warming = false → exec (.warmingExit c) s = .next s) ∧
    (s.mode.warming = true → s.mode.warmingLong = false → Runs (.warmingLong c) s fun t =>
      t.mode = { s.mode with warmingLong := true } ∧ t.attn.causes = s.attn.causes ||| (1#32 <<< cWarming) ∧ t.kv = s.kv) ∧
    (s.mode.warming = false ∨ s.mode.warmingLong = true → exec (.warmingLong c) s = .next s)

/-- The window is what 07 R299 computes from the strings measured, limited by WINDOW_LIMIT, and 0 while it is forced; a
string below its capacitance or lost is out of service, and one out of service is not measured; no result forces 0; the
timeouts report. (07 R297, 07 R299, 07 R300, 07 R303, 07 R317, 20 R702) -/
def Obligations.WindowIsComputed : Prop :=
  ∀ (volts caps : List Nat) (i : Nat) (x : HoldString) (s : State), i < 4 → s.win.strings[i]? = some x →
    let computed := fun (t : State) => t.win.noResult = false ∧
      t.win.window = if t.windowForced then 0 else 268435456 * min t.rawWindow s.settings.winLimit
    (s.measures = true →
      (Runs (.windowCompute volts) s fun t => computed t ∧ ∃ y, t.win.strings[i]? = some y ∧ y.cap = x.cap ∧
        y.volt = if x.inService then volts.getD i x.volt else x.volt) ∧
      (Runs (.capacitanceStep caps) s fun t => ∃ y, t.win.strings[i]? = some y ∧ y.volt = x.volt ∧
        y.cap = (if x.inService then caps.getD i x.cap else x.cap) ∧ y.inService = (x.inService && decide (2000 ≤ y.cap))) ∧
      (Runs (.stringLoss i) s fun t => computed t ∧ (∃ y, t.win.strings[i]? = some y ∧ y.inService = false) ∧
        (x.inService = true → t.attn.causes.getLsbD cString = true))) ∧
    (s.measures = false → ∀ e ∈ [Instr.windowCompute volts, .capacitanceStep caps, .stringLoss i], exec e s = .next s) ∧
    (s.power.step = 12 →
      exec .windowResultTimeout s = .next { s with win := { s.win with noResult := true, window := 0 } }) ∧
    (s.power.step ≠ 12 → exec .windowResultTimeout s = .next s) ∧
    (8 ≤ s.power.step →
      (s.win.window = 0 → s.settings.winLimit ≠ 0 → s.win.cold = false → s.attn.writeThru = false →
        Runs .writeThroughTimeout s fun t => t.attn.writeThru = true ∧ t.attn.causes.getLsbD cWriteThru = true ∧ t.win = s.win) ∧
      (s.unlimitedWindow < 8589934592 → s.attn.windowLow = false → Runs .windowLowTimeout s fun t =>
        t.attn.windowLow = true ∧ t.attn.warnings = s.attn.warnings ||| 1 ∧ t.win = s.win)) ∧
    (s.power.step < 8 → exec .writeThroughTimeout s = .next s ∧ exec .windowLowTimeout s = .next s) ∧
    (s.win.window ≠ 0 ∨ s.settings.winLimit = 0 ∨ s.win.cold = true ∨ s.attn.writeThru = true →
      exec .writeThroughTimeout s = .next s) ∧
    (8589934592 ≤ s.unlimitedWindow ∨ s.attn.windowLow = true → exec .windowLowTimeout s = .next s)

/-- Loss of one feed is reported; loss of both is power loss: the window is 0 and the commit-or-discard decision begins, or
a module that is shut down is off. Then the links go down, everything staged is programmed, and the module restarts or its
Fronts and moons are off; a shortfall counts when the energy left is spent and it names the newest versions of a moon; with
the bank exhausted and no feed in range the islands stop and the log is lost. (07 R307, 07 R308, 07 R310, 07 R313, 07 R315,
20 R703) -/
def Obligations.PowerLossRunsItsSequence : Prop :=
  ∀ (f : Front) (volt : Nat) (x : Shortfall) (s : State),
    let other := s.feed (otherFront f)
    let row := Instr.feedLost f volt
    let ends := (s.measure fun i q => { q with volt := x.volts.getD i q.volt }).bankSpent = true ∧ s.newestShort x.csns = true
    ((s.feed f).lost = true → Runs row s fun t => t.feeds.loss = s.feeds.loss ∧ t.cmds = s.cmds ∧ t.attn = s.attn) ∧
    ((s.feed f).lost = false → other.lost = false → Runs row s fun t =>
      (t.feed f).lost = true ∧ t.feed (otherFront f) = other ∧ t.feeds.loss = s.feeds.loss ∧
        t.attn.causes.getLsbD cFeed = true ∧ t.cmds = s.cmds) ∧
    ((s.feed f).lost = false → other.lost = true →
      (s.feeds.loss = .none → s.power.step ≠ 0 → s.power.shutDone = false → Runs row s fun t =>
        t.feeds.loss = .deciding ∧ t.win.window = 0 ∧ t.kv.objects = [] ∧
          t.power.start = if s.power.step < 5 then s.power.start else .unclean) ∧
      (s.feeds.loss = .none → s.power.step ≠ 0 → s.power.shutDone = true → Runs row s fun t =>
        t.feeds.loss = .off ∧ t.power.step = 0 ∧ t.kv = s.kv ∧ t.cmds = s.cmds) ∧
      (s.feeds.loss ≠ .none ∨ s.power.step = 0 → Runs row s fun t =>
        (t.feed f).lost = true ∧ t.feeds.loss = s.feeds.loss ∧ t.cmds = s.cmds)) ∧
    (s.feeds.loss = .deciding → Runs .commitOrDiscardDone s fun t => t.feeds.loss = .flushing ∧
      (∀ h ∈ t.ports.hosts, h.linkUp = 0) ∧ (∀ l ∈ t.ports.links, l.up = false) ∧ t.kv = s.kv) ∧
    (s.feeds.loss ≠ .deciding → exec .commitOrDiscardDone s = .next s) ∧
    (s.feeds.loss = .flushing →
      (s.warm = false → Runs .flushDone s fun t => t.feeds.loss = .gasped ∧ (∀ v ∈ t.kv.versions, v.place ≠ .staged) ∧
        t.seq.charges = [] ∧
        t.kv.versions.map (fun v => (v.nsid, v.key, v.csn, v.value)) = s.kv.versions.map (fun v => (v.nsid, v.key, v.csn, v.value))) ∧
      (s.warm = true → Runs .flushDone s fun t => t.feeds.loss = .gasped ∧ t.kv = s.kv ∧ t.media = s.media) ∧
      (¬ends → exec (.flushShortfall x) s = .next s) ∧
      (ends → Runs (.flushShortfall x) s fun t => t.feeds.loss = .gasped ∧
        ∀ v ∈ s.kv.versions, v.place = .staged → v.value.isSome = true → v.csn ∈ x.csns →
          ∃ u ∈ t.kv.versions, u.csn = v.csn ∧ u.nsid = v.nsid ∧ u.key = v.key ∧ u.lost = true)) ∧
    (s.feeds.loss ≠ .flushing → exec .flushDone s = .next s ∧ exec (.flushShortfall x) s = .next s) ∧
    (s.feeds.loss = .gasped →
      (Runs (.powerLossEnd false) s fun t => t.feeds.loss = .off ∧ t.power.step = 0 ∧ t.feeds.bulkUp = false ∧
        t.sess.sessions = [] ∧ t.cmds.list = []) ∧
      (Runs (.powerLossEnd true) s fun t => t.feeds.loss = .none ∧ t.power.step = 4 ∧ t.power.start = .unclean ∧
        t.sess.sessions = [] ∧ t.cmds.list = [] ∧ t.attn.causes.getLsbD cStart = true)) ∧
    (s.feeds.loss ≠ .gasped → ∀ b, exec (.powerLossEnd b) s = .next s) ∧
    (s.feeds.loss = .off →
      (s.feeds.a.inRange = false → s.feeds.b.inRange = false → Runs .holdUpBankExhausted s fun t =>
        t.feeds.loss = .none ∧ t.feeds.mgmtUp = false ∧ t.attn.log = [] ∧ t.attn.nextSeq = 1 ∧ t.power.pstate = .p4 ∧
          t.time.up = false ∧ t.kv = s.kv ∧ t.tag.mem = s.tag.mem) ∧
      (s.feeds.a.inRange = true ∨ s.feeds.b.inRange = true → exec .holdUpBankExhausted s = .next { s with win :=
        { s.win with strings := s.win.strings.map fun t => { t with volt := 0 } } })) ∧
    (s.feeds.loss ≠ .off → exec .holdUpBankExhausted s = .next s)

/-- Hot-swap channels: an in-range feed ramps while PRESENT# is asserted, starts a module that runs from the bank, and
powers the management and time islands without PRESENT#; power-good ends the retries, a current trip waits for a retry and
latches after the third, another fault turns the channel off, PRESENT# deasserted turns both channels off, and 100 ms of it
clears a latch. (20 R693, 20 R694, 20 R695, 20 R696, 20 R699, 21 R721) -/
def Obligations.ChannelsRampTripAndLatch : Prop :=
  ∀ (f : Front) (volt : Nat) (c : EfuseCond) (b : Bool) (s : State),
    let q := s.feed f
    let others := fun (t : State) => t.feed (otherFront f) = s.feed (otherFront f)
    let ramped := { q with inRange := true, volt := volt,
                           chan := if q.chan = .off ∧ s.feeds.present = true then .ramping else q.chan }
    let starts := s.feeds.present = true ∧ s.feeds.mgmtUp = true ∧ s.power.step = 0
    (¬starts → (s.feeds.present = true ∨ s.feeds.mgmtUp = true) → Runs (.feedRequalified f volt) s fun t =>
      t.feed f = ramped ∧ others t ∧ t.attn = s.attn) ∧
    (s.feeds.present = false → s.feeds.mgmtUp = false → Runs (.feedRequalified f volt) s fun t =>
      t.feed f = ramped ∧ others t ∧ t.feeds.mgmtUp = true ∧ t.feeds.loss = .off ∧ t.time.up = true ∧
        t.power.step = s.power.step ∧ t.kv = s.kv) ∧
    (starts → Runs (.feedRequalified f volt) s fun t => t.feed f = ramped ∧ others t ∧ t.power.step = 2 ∧ t.feeds.loss = .none ∧
      t.attn.causes.getLsbD cStart = true ∧ t.kv = s.kv) ∧
    (q.chan = .ramping → Runs (.efusePowerGood f) s fun t => t.feed f = { q with chan := .on, retries := 0, lost := false } ∧
      t.feeds.bulkUp = true ∧ others t) ∧
    (q.chan ≠ .ramping → exec (.efusePowerGood f) s = .next s) ∧
    (efuseApplies c q.chan = true →
      (efuseRetries c = true → q.retries < 3 → Runs (.efuseTrip f c) s fun t => (t.feed f).chan = .waiting ∧
        (t.feed f).lost = true ∧ (t.feed f).retries = q.retries ∧ others t) ∧
      (efuseRetries c = true → 3 ≤ q.retries → Runs (.efuseTrip f c) s fun t => (t.feed f).chan = .latched ∧
        (t.feed f).lost = true ∧ t.attn.causes.getLsbD cEfuse = true) ∧
      (efuseRetries c = false → Runs (.efuseTrip f c) s fun t => (t.feed f).chan = .off ∧ (t.feed f).lost = true ∧
        (t.feed f).retries = q.retries ∧ others t)) ∧
    (efuseApplies c q.chan = false → exec (.efuseTrip f c) s = .next s) ∧
    (q.chan = .waiting → s.feeds.present = true → Runs (.efuseRetry f) s fun t =>
      t.feed f = { q with chan := .ramping, retries := q.retries + 1 } ∧ others t ∧ t.attn = s.attn) ∧
    (q.chan ≠ .waiting ∨ s.feeds.present = false → exec (.efuseRetry f) s = .next s) ∧
    (s.shorted pinPresent = false → s.feeds.present = true → Runs .presentDeassert s fun t => t.feeds.present = false ∧
      t.feeds.a.lost = true ∧ t.feeds.b.lost = true ∧ t.feeds.a.chan ≠ .on ∧ t.feeds.b.chan ≠ .on) ∧
    (s.shorted pinPresent = true ∨ s.feeds.present = false → exec .presentDeassert s = .next s) ∧
    (s.feeds.present = false → s.feeds.a.chan = .latched →
      (s.feeds.a.inRange = true → Runs (.presentAssert true) s fun t => t.feeds.present = true ∧ t.feeds.a.chan = .ramping ∧
        t.feeds.a.retries = 0) ∧
      (Runs (.presentAssert false) s fun t => t.feeds.present = true ∧ t.feeds.a = s.feeds.a)) ∧
    (s.feeds.present = true → exec (.presentAssert b) s = .next s)

/-- Throttle levels rise to what a reading demands and fall one at a time, and stay at T0 while WARMING; a trip takes its
island out of service with ATTN#; it returns after its recovery, a rebuild starts when it lasts, a broken sensor throttles
its island, the inlet reading derates. A shorted signal pin is reported with ATTN# and comes back when the short ends;
contention on PAIR_ALIVE_OUT stops the drive until a test finds none. (20 R706, 20 R708, 20 R711, 20 R712, 20 R713, 20 R715,
20 R716) -/
def Obligations.IslandsThrottleAndTrip : Prop :=
  (∀ (i : Island) (r : Int) (q : Sensor) (m k : Nat) (f : Front) (x : Moon) (unacked : List (Nat × Nat)) (s : State),
    let n := (s.islandState i).level
    let others := fun (t : State) => ∀ j, j ≠ i → t.islandState j = s.islandState j
    let rise := n < levelFor (islandMedia i) r ∧ s.mode.warming = false
    let fall := n ≠ 0 ∧ r ≤ levelStart (islandMedia i) n - 8 ∧ ¬(n ≤ 2 ∧ s.brokenGoverns i = true)
    let trips := tripPoint (islandMedia i) ≤ r ∧ (s.islandState i).tripped = false ∧ s.hasIsland i = true
    (rise → Runs (.throttleRaise i r) s fun t => (t.islandState i).level = levelFor (islandMedia i) r ∧ others t) ∧
    (¬rise → exec (.throttleRaise i r) s = .next s) ∧
    (fall → Runs (.throttleLower i r) s fun t =>
      (t.islandState i).level = (if s.mode.warming then 0 else n - 1) ∧ others t) ∧
    (¬fall → exec (.throttleLower i r) s = .next s) ∧
    (trips → Runs (.thermalTrip i ⟨r, unacked⟩) s fun t => (t.islandState i).tripped = true ∧ t.attn.causes.getLsbD cThermal = true ∧
      (i = .moon m → ∃ y, t.media.moons[m]? = some y ∧ y.inService = false ∧ y.lostCause = 3) ∧
      (i = .channel m k → ∃ y, t.media.moons[m]? = some y ∧ ∀ c ∈ islandChannels k, c ∈ y.chansLost) ∧
      (i = .front f → ∃ y, t.media.fronts[frontIdx f]? = some y ∧ y.inService = false ∧ y.lostCause = 3)) ∧
    (¬trips → exec (.thermalTrip i ⟨r, unacked⟩) s = .next s) ∧
    ((s.islandState i).tripped = true →
      (s.mode.fatal = false → Runs (.tripRecovery i) s fun t => (t.islandState i).tripped = false ∧ (t.islandState i).level = 0 ∧
        (i = .moon m → s.media.moons[m]? = some x → ∃ y, t.media.moons[m]? = some y ∧ y.inService = true ∧ y.lostCause = 0)) ∧
      (s.mode.fatal = true → exec (.tripRecovery i) s = .next s) ∧
      ((s.islandState i).rebuilt = false → Runs (.tripRebuildTimeout i) s fun t => (t.islandState i).rebuilt = true ∧
        (i = .moon m → ∃ k, t.comets.list = s.comets.list ++ [k] ∧ k.kind = .rebuild ∧ k.moon = m) ∧
        (i = .channel m k → t.comets.list.length = s.comets.list.length + 8) ∧ (i = .front f → t.comets = s.comets)) ∧
      ((s.islandState i).rebuilt = true → exec (.tripRebuildTimeout i) s = .next s)) ∧
    ((s.islandState i).tripped = false → exec (.tripRecovery i) s = .next s ∧ exec (.tripRebuildTimeout i) s = .next s) ∧
    (q ∉ s.thermal.broken → sensorExists q = true → Runs (.sensorBroken q) s fun t =>
      t.thermal.broken = s.thermal.broken ++ [q] ∧ t.attn.warnings.getLsbD 6 = true ∧
        ∀ j, sensorIsland q = some j → s.mode.warming = false → 2 ≤ (t.islandState j).level) ∧
    (q ∈ s.thermal.broken ∨ sensorExists q = false → exec (.sensorBroken q) s = .next s) ∧
    (Sensor.inlet ∉ s.thermal.broken → exec (.coolantInletReading r) s = .next { s with thermal :=
      { s.thermal with inlet := r, inletMax := max s.thermal.inletMax r, derate := derating r } }) ∧
    (Sensor.inlet ∈ s.thermal.broken → exec (.coolantInletReading r) s = .next s)) ∧
  (∀ (pin : Nat) (s : State),
    (signalPin pin = true → s.shorted pin = false → Runs (.sidebandShortDetect pin) s fun t =>
      t.pins.short = s.pins.short ||| (1#24 <<< (pin - 1)) ∧ t.attn.causes.getLsbD cSideband = true ∧
        (pin = pinAliveOut → t.out = s.out ++ [.aliveDrive false])) ∧
    (s.shorted pin = true → Runs (.sidebandShortClear pin) s fun t => t.shorted pin = false ∧
      (∀ p, p ≠ pin → 0 < p → t.shorted p = s.shorted p) ∧ t.attn = s.attn) ∧
    (s.drivesAlive = true → Runs .aliveContentionDetect s fun t => t.pins = { s.pins with contention := true } ∧
      t.out = s.out ++ [.aliveDrive false] ∧ t.attn.causes = s.attn.causes ||| (1#32 <<< cSideband)) ∧
    (s.pins.contention = true → s.shorted pinAliveOut = false →
      exec (.aliveContentionTest true) s = .next ((s.emit (.aliveDrive true)).emit (.aliveDrive false)) ∧
      Runs (.aliveContentionTest false) s fun t => t.pins = { s.pins with contention := false } ∧
        t.out = s.out ++ [.aliveDrive true]))

/-- A lost die, channel or moon is recorded, reported with ATTN#, and a rebuild comet starts; a cipher engine that fails
leaves service, and its moon with it when a second check fails or more than 64 are out. A part that is out already changes
nothing. The first DRAM device of a channel that fails is reported and corrected; a second one fails its owner, and so does
an error that comes from no device declared failed. (16 R600, 16 R601, 08 R343, 14 R516, 06 R277) -/
def Obligations.MediaPartsAndDramFail : Prop :=
  (∀ (m die ch cause : Nat) (b : Bool) (q : Moon) (s : State), s.media.moons[m]? = some q →
    let out := fun (t : State) => t.attn.causes.getLsbD cMoon = true ∧
      ∃ r, t.media.moons[m]? = some r ∧ r.inService = false ∧ r.lostCause = 2
    let row := Instr.cipherMismatch m b
    (s.powered = true → q.inService = true →
      (die < 512 → q.dieGone die = false → Runs (.dieLost m die) s fun t => t.attn.causes.getLsbD cPart = true ∧
        (∃ r, t.media.moons[m]? = some r ∧ r.diesLost = q.diesLost ++ [die] ∧ r.degraded = true ∧ r.inService = true) ∧
          ∃ k ∈ t.comets.list, k.kind = .rebuild ∧ k.moon = m ∧ k.die = some die) ∧
      (512 ≤ die ∨ q.dieGone die = true → exec (.dieLost m die) s = .next s) ∧
      (ch < 64 → ch ∉ q.chansLost → Runs (.channelLost m ch) s fun t => t.attn.causes.getLsbD cPart = true ∧
        (∃ r, t.media.moons[m]? = some r ∧ r.chansLost = q.chansLost ++ [ch] ∧ r.degraded = true ∧ r.inService = true) ∧
          ∃ k ∈ t.comets.list, k.kind = .rebuild ∧ k.moon = m ∧ k.channel = some ch) ∧
      (64 ≤ ch ∨ ch ∈ q.chansLost → exec (.channelLost m ch) s = .next s) ∧ Runs (.moonLost m cause) s out ∧
      (b = false → q.enginesOut < 64 → Runs row s fun t => t.attn.warnings.getLsbD 5 = true ∧
        t.attn.causes = s.attn.causes ∧ t.media.moons[m]? = some { q with enginesOut := q.enginesOut + 1 }) ∧
      (b = true ∨ 64 ≤ q.enginesOut → Runs row s out)) ∧
    (s.powered = false ∨ q.inService = false →
      ∀ e ∈ [Instr.dieLost m die, .channelLost m ch, .moonLost m cause, row], exec e s = .next s)) ∧
  (∀ (u : UnitId) (m ch : Nat) (bad : Bool) (unacked : List (Nat × Nat)) (f : Front) (q : Moon) (s : State), m < 8 → s.media.moons[m]? = some q →
    let row := Instr.dramDeviceFailed u ⟨ch, bad, unacked⟩
    (s.powered = true → u = .moon m ∨ u = .front f →
      (bad = false → (unitCode u, ch) ∉ s.attn.drams → Runs row s fun t =>
        t.attn.drams = s.attn.drams ++ [(unitCode u, ch)] ∧ t.attn.causes = s.attn.causes ||| (1#32 <<< cDram) ∧
          t.media = s.media ∧ t.kv = s.kv) ∧
      (bad = true ∨ (unitCode u, ch) ∈ s.attn.drams → Runs row s fun t =>
        (u = .moon m → ∃ r, t.media.moons[m]? = some r ∧ r.inService = false) ∧ (u = .front f → t.frontIn f = false))) ∧
    (s.powered = false ∨ ((∀ k, k < 8 → u ≠ .moon k) ∧ ∀ g, u ≠ .front g) → exec row s = .next s))

/-- A Front that fails leaves its shards, ports and sessions to its peer, or with no peer in service to a fatal fault; it
takes its home shards back when it returns. A row of a search unit that a pass, its parity or a lookup finds at odds with
its shadow is rewritten, counted and logged; one that agrees is left; without a peer to repair it from, its Front fails. (01
R34, 01 R35, 01 R28, 10 R421, 10 R422, 10 R423, 10 R424, 10 R425) -/
def Obligations.FrontsAndSearchUnits : Prop :=
  (∀ (f : Front) (cause : Nat) (unacked : List (Nat × Nat)) (q : FrontPart) (s : State),
    s.media.fronts.length = 2 → s.media.fronts[frontIdx f]? = some q →
    let stays := s.powered = false ∨ q.inService = true ∨ q.lostCause = 1 ∨ q.lostCause = 3 ∨ s.mode.fatal = true
    (s.powered = true → q.inService = true →
      (s.frontIn (otherFront f) = true → Runs (.frontLost f ⟨cause, unacked⟩) s fun t =>
        t.frontIn f = false ∧ t.frontIn (otherFront f) = true ∧ t.attn.causes.getLsbD cFront = true ∧
          t.media.shardB = (if f = .a then List.range 64 else []) ∧ ∀ x ∈ t.sess.sessions, x.front = otherFront f) ∧
      (s.frontIn (otherFront f) = false → s.mode.fatal = false → Runs (.frontLost f ⟨cause, unacked⟩) s fun t =>
        t.frontIn f = false ∧ t.mode.fatal = true ∧ t.mode.mode = .service ∧ t.attn.causes.getLsbD cFatal = true ∧
          t.cmds.list = [])) ∧
    (s.powered = false ∨ q.inService = false → exec (.frontLost f ⟨cause, unacked⟩) s = .next s) ∧
    (¬stays → Runs (.frontReturn f) s fun t => t.frontIn f = true ∧ t.frontIn (otherFront f) = s.frontIn (otherFront f) ∧
      (∀ n, n < 64 → (f = .a ↔ n < 32) → (n ∈ t.media.shardB ↔ f = .b)) ∧ t.kv = s.kv ∧ t.sess = s.sess ∧ t.cmds = s.cmds) ∧
    (stays → exec (.frontReturn f) s = .next s)) ∧
  (∀ (f : Front) (u : AsuTable) (r : AsuFinding) (row : Nat) (s : State),
    let repaired := { s.asu with repairs := s.asu.repairs.modify (tableIdx u) (· + 1) }
    let faulty := r.row < tableRows u ∧ s.rowFault u r.row r.bits r.how = true
    (s.rowFault u r.row r.bits .scrub = true ↔ r.bits ≠ s.rowImage u r.row) ∧
    parityFails u (s.rowImage u r.row) = false ∧ (r.bits = s.rowImage u r.row → s.rowFault u r.row r.bits r.how = false) ∧
    (s.fetching = true → s.frontIn f = true →
      (faulty → Runs (.asuScrub f u (some r)) s fun t => t.asu = repaired ∧ t.kv = s.kv ∧ t.attn.causes = s.attn.causes) ∧
      (¬faulty → Runs (.asuScrub f u (some r)) s fun t => t.asu = s.asu ∧ t.kv = s.kv ∧ t.attn = s.attn) ∧
      (Runs (.asuScrub f u none) s fun t => t.asu = s.asu ∧ t.kv = s.kv ∧ t.attn = s.attn)) ∧
    (s.fetching = false ∨ s.frontIn f = false → ∀ x, exec (.asuScrub f u x) s = .next s) ∧
    (s.powered = true → s.frontIn f = true → row < tableRows u →
      (s.frontIn (otherFront f) = true → Runs (.asuPeerRepair f u row) s fun t =>
        t.asu = repaired ∧ t.kv = s.kv ∧ t.power = s.power) ∧
      (s.frontIn (otherFront f) = false → Runs (.asuPeerRepair f u row) s fun t => t.frontIn f = false)) ∧
    (s.powered = false ∨ s.frontIn f = false ∨ tableRows u ≤ row → exec (.asuPeerRepair f u row) s = .next s))

/-- The management island fails with the window at 0 and comes back with ATTN#, and stays down after three failed restarts;
the time island fails without discipline and comes back, unless it failed to wake. A fatal fault leaves SERVICE in force
with ATTN#; a vault alarm erases every LOADED key slot and asks for CUSTODY, and the moons' key caches follow. (16 R603, 16
R604, 16 R606, 16 R607, 14 R545, 14 R546) -/
def Obligations.IslandsFatalFaultsAndAlarms : Prop :=
  (∀ s : State,
    let n := s.feeds.mgmtFails
    (s.feeds.mgmtUp = true → Runs .mgmtWatchdog s fun t => t.feeds.mgmtUp = false ∧ t.win.window = 0 ∧
      t.feeds.mgmtFails = n + 1 ∧ t.usb.pullUp = false ∧ t.attnAsserted = true ∧ t.kv = s.kv ∧ t.cmds = s.cmds) ∧
    (s.feeds.mgmtUp = false → 0 < n → n ≤ 3 →
      exec .mgmtWatchdog s = .next { s with feeds := { s.feeds with mgmtFails := n + 1 } } ∧
      Runs .mgmtRestartDone s fun t => t.feeds.mgmtUp = true ∧ t.feeds.mgmtFails = 0 ∧ t.attn.causes.getLsbD cMgmt = true ∧
        t.usb.pullUp = s.usb.vbus) ∧
    (s.feeds.mgmtUp = false → n = 0 ∨ 3 < n → exec .mgmtWatchdog s = .next s) ∧
    (s.feeds.mgmtUp = true ∨ n = 0 ∨ 3 < n → exec .mgmtRestartDone s = .next s) ∧
    (s.time.up = true → Runs .timeIslandFail s fun t => t.time.up = false ∧ t.time.disciplined = false ∧ t.time.now = s.time.now ∧
      t.cmds = s.cmds) ∧
    (s.time.up = false → exec .timeIslandFail s = .next s) ∧
    (s.time.up = false → s.feeds.mgmtUp = true → unitCode .time ∉ s.attn.islands → Runs .timeIslandRestarted s fun t =>
      t.time = { s.time with up := true } ∧ t.attn.causes = s.attn.causes) ∧
    (s.time.up = true ∨ s.feeds.mgmtUp = false ∨ unitCode .time ∈ s.attn.islands → exec .timeIslandRestarted s = .next s)) ∧
  (∀ (cause row : Nat) (s : State),
    (s.powered = true → s.mode.fatal = false → Runs (.fatalFault cause) s fun t =>
      t.mode.mode = .service ∧ t.mode.fatal = true ∧ t.attn.causes.getLsbD cFatal = true ∧ t.seq.charges = [] ∧
        ∀ v ∈ t.kv.versions, v.place ≠ .staged) ∧
    (s.powered = false ∨ s.mode.fatal = true → exec (.fatalFault cause) s = .next s) ∧
    ((∀ k ∈ s.vault.slots, k.st ≠ .loaded) → Runs (.vaultAlarm row) s fun t =>
      t.vault = { s.vault with alarms := s.vault.alarms + 1 } ∧ t.mode = s.mode ∧ t.attn.causes = s.attn.causes ∧ t.kv = s.kv) ∧
    ((∃ k ∈ s.vault.slots, k.st = .loaded) → Runs (.vaultAlarm row) s fun t => t.vault.alarms = s.vault.alarms + 1 ∧
      (∀ k ∈ t.vault.slots, k.st ≠ .loaded) ∧ t.vault.pending = true ∧ t.mode.causeVault = true ∧
        t.attn.causes.getLsbD cVault = true ∧
        t.mode.mode = if s.mode.mode ∈ [.commission, .service] then s.mode.mode else .custody) ∧
    (s.vault.pending = true → exec .keyCacheZeroize s =
      .next { s with vault := { s.vault with pending := false, cached := [], grants := [] } }) ∧
    (s.vault.pending = false → exec .keyCacheZeroize s = .next s))

/-- A stripe whose data pages are all there completes with its data: an object's next page goes to QLC, encrypted under the
slot's current generation while that is LOADED, and its SLC copies are released; the open stripe takes a pad for a moon with
nothing to fold while others wait; from 4 GiB of log tail a moon writes map pages back. Pages that do not fit change
nothing. Relocation empties a band: garbage collection of a victim or of a queued band, refresh of an aged band and wear
levelling leave no page in the band, and no band of its number once no read uses it, or report that a moon has no free
block; every version keeps its key, CSN and value, unless a primary in step gives its role away. An aged SLC block is queued
for folding. (08 R332, 08 R333, 08 R334, 08 R337, 09 R375, 09 R380, 08 R352) -/
def Obligations.MediaWorkKeepsTheData : Prop :=
  (∀ (stripe obj moon : Nat) (fills : List StripeFill) (v : Version) (b : Bytes) (s u t' : State),
    let data := fun (t : State) => t.kv.versions.map fun v => (v.nsid, v.key, v.csn, v.value)
    let row := Instr.stripeComplete stripe fills
    let fits := s.mayProgram = true ∧ s.bandFor (bandOf stripe) = some u ∧ (u.stripe stripe).complete = false ∧
      u.stripeUse stripe + fills.length = u.dataPages (bandOf stripe)
    let padded := s.mayProgram = true ∧ moon < 8 ∧ s.nextToFold moon = none ∧
      s.othersWait s.openStripe moon = true ∧ moon ∉ (s.stripe s.openStripe).pads ∧ s.parityMoon s.openStripe ≠ moon ∧
      (s.stripePages s.openStripe).any (·.header.position == moon) = false
    let tail := fun (t : State) => sumNat ((t.tailOf moon).map (·.len))
    let full := s.mayProgram = true ∧ moon ∈ s.moonsIn ∧ 4294967296 ≤ tail s
    (fits → fills.foldlM (State.fillStripe stripe) u = some t' → Runs row s fun t => data t = data s) ∧
    (fits → fills.foldlM (State.fillStripe stripe) u = none → exec row s = .next s) ∧
    (fits → fills = [.object obj] → u.kv.versions = [v] → v.objId = obj → v.place = .slc → v.value = some b →
      v.key.length + b.length + 48 ≤ 12288 → v.folded = [] →
      u.positionFree stripe (((u.pageOf v 0).map (·.block.moon)).getD v.home) = true →
      (∀ p, u.pageOf v 0 = some p → p.header.kind = .slcPack) → Runs row s fun t =>
        t.kv.versions.map (fun x => { x with gens := [] }) = [{ v with place := .qlc, folded := [stripe], gens := [] }] ∧
        (∃ p ∈ t.media.pages, p.obj = obj ∧ p.header.kind = .qlcPack ∧ p.header.stripe = stripe) ∧
        (∀ p ∈ t.media.pages, p.holds obj = true → p.chunk = 0 → p.header.kind ≠ .slcPack ∧ p.header.kind ≠ .slcChunk) ∧
          ∀ g : Nat, v.gens = [g] → (s.vault.slots.any fun k => k.slot == v.slot && decide (k.st = .loaded)) = true →
            ∀ x ∈ t.kv.versions, x.gens = [t.genOf v.slot]) ∧
    (s.mayProgram = false ∨ (s.bandFor (bandOf stripe) = some u ∧ ¬fits) → exec row s = .next s) ∧
    (s.mayProgram = true → s.bandFor (bandOf stripe) = none →
      ((s.band? (bandOf stripe)).isSome = true → exec row s = .next s) ∧
      ((s.band? (bandOf stripe)).isSome = false → Runs row s fun t => t.attn.noFree = true ∧ t.kv = s.kv)) ∧
    (padded → exec (.stripePadTimeout moon) s = .next (s.setStripe
      { s.stripe s.openStripe with pads := (s.stripe s.openStripe).pads ++ [moon] })) ∧
    (¬padded → exec (.stripePadTimeout moon) s = .next s) ∧
    (full → Runs (.mapWriteback moon) s fun t => (tail t < 2147483648 ∨ t.attn.noFree = true) ∧
      (∀ m, m ≠ moon → t.media.moons[m]? = s.media.moons[m]?) ∧ t.kv = s.kv) ∧
    (¬full → exec (.mapWriteback moon) s = .next s)) ∧
  (∀ (n : Nat) (i : BlockId) (b : Band) (s : State), s.band? n = some b →
    let data := fun (t : State) => t.kv.versions.map fun v => (v.nsid, v.key, v.csn, v.value)
    let moved := fun (use : SpareUse) (u t : State) => (b.left = true → t.kv = s.kv) ∧
      (s.mirroring = false ∨ use = .never → data t = data s) ∧ (b.left = false →
      ((u.emptyBand use n).2 = false → t.attn.noFree = true) ∧
      ((u.emptyBand use n).2 = true → s.mirroring = false ∨ use = .never →
        t.kv.versions.all (fun v => v.folded.all fun p => bandOf p != n) = true ∧
        (u.bandRead n = false → t.band? n = none) ∧ (u.bandRead n = true → ∃ q, t.band? n = some q ∧ q.left = true)))
    let collects := s.mayProgram = true ∧ (b.due ≠ 0 ∨ s.isVictim b = true) ∧ (b.due = 2 ∨ s.suspended b = false)
    let refreshes := s.mayProgram = true ∧ s.isAged b = true ∧ s.suspended b = false
    let turns := s.mayProgram = true ∧ s.mode.mode ≠ .custody
    let u : State := { s with media := { s.media with levelling := s.levels } }
    let levels := s.levels = true ∧ 0 < s.bandPages n ∧ s.levelsNext b = true ∧ s.suspended b = false
    (collects → Runs (.garbageCollection n) s (moved (if b.due = 0 then .never else .last) s)) ∧ (¬collects → exec (.garbageCollection n) s = .next s) ∧
    (refreshes → Runs (.ageRefresh (.band n)) s (moved .last s)) ∧ (¬refreshes → exec (.ageRefresh (.band n)) s = .next s) ∧
    (s.mayProgram = true → s.slcAged i = true →
      exec (.ageRefresh (.slc i)) s = .next (s.setBlock { s.block i with due := true })) ∧
    (s.mayProgram = false ∨ s.slcAged i = false → exec (.ageRefresh (.slc i)) s = .next s) ∧
    (turns → levels → Runs (.wearLevelling n) s (moved .never u)) ∧ (turns → ¬levels → exec (.wearLevelling n) s = .next u) ∧
    (¬turns → exec (.wearLevelling n) s = .next s))

/-- Counters and clocks of the media: a block at its read-disturb threshold is queued, and one past twice its threshold is
logged once while WARMING; counters are saved, each second advances a die's clock by its ageing factor, a sample that is due
marks its block and is a finding unless clean, a block is retired for good. A rebuild that has done its work is gone, and
its moon is read directly again once nothing of it is lost and no other rebuild of it runs; what it has written changes the
key, CSN and value of no version. A daily sample of a monitor joins the latest 4,096 of its unit; that of a link's eye is
its port's eye margin. (09 R359, 09 R370, 09 R371, 09 R372, 09 R373, 08 R343, 16 R617) -/
def Obligations.MediaCountersAndSamples : Prop :=
  (∀ (i : BlockId) (x : Sample) (cause : RetireCause) (moon die : Nat) (temp y : Int) (temps : List (Nat × Nat × Int))
    (q : Moon) (s : State),
    let b := s.block i
    let clock := s.dieClock i.moon i.die
    let past := s.mode.warming = true ∧ 2 * b.threshold < b.reads
    let samples := s.mediaRuns = true ∧ b.inService = true ∧ s.partOut i = false ∧ s.sampleDue b = true
    let data := fun (t : State) => t.kv.versions.map fun v => (v.nsid, v.key, v.csn, v.value)
    let retires := s.mediaRuns = true ∧ b.inService = true ∧ i.moon < 8 ∧ i.die < 512 ∧ s.mayRetire b cause = true
    (s.mediaRuns = true → b.inService = true → Runs (.readDisturbRefresh i) s fun t =>
      (t.block i).reads = max b.reads b.threshold ∧ (t.block i).count = b.count ∧ ((t.block i).logged = true ↔ b.logged = true ∨ past) ∧
        (b.mode = .slc → (t.block i).due = true) ∧
        (b.mode ≠ .slc → ∀ n, s.bandWith i = some n → ∃ r, t.band? n.num = some r ∧ 0 < r.due ∧ r.due ≤ 2) ∧ t.kv = s.kv) ∧
    (s.mediaRuns = false ∨ b.inService = false → exec (.readDisturbRefresh i) s = .next s) ∧
    (samples → s.media.moons[i.moon]? = some q → Runs (.retentionSample i x) s fun t => b.reads ≤ (t.block i).reads ∧
      (t.block i).pass = s.media.starts ∧ (t.block i).sampleAge = clock ∧ (t.block i).sampleTime = s.time.now ∧
        (t.block i).undec = (if x.cls = .undecodable then some clock else b.undec) ∧
        (x.cls = .undecodable → (∃ n, b.undec = some n ∧ clock ≤ n + thirtyDays) → (t.block i).twice = true) ∧
        (∃ r, t.media.moons[i.moon]? = some r ∧
          r.findings = if x.cls = .clean then q.findings else q.findings ++ [(i.die, clock)]) ∧
        (x.cls ≠ .undecodable ∨ x.lost = [] → t.kv = s.kv)) ∧
    (¬samples → exec (.retentionSample i x) s = .next s) ∧
    (retires → i.block < 18312 + s.dieSparesUsed i.moon i.die → Runs (.blockRetire i cause) s fun t =>
      (t.block i).mode = .retired ∧ (t.block i).count = b.count ∧ (s.mirroring = false → data t = data s)) ∧
    (¬retires → exec (.blockRetire i cause) s = .next s) ∧
    (s.mayProgram = true → Runs (.readCounterSave moon) s fun t =>
      t.media.blocks = s.media.blocks.map (fun b => if b.id.moon == moon then { b with saved := b.reads } else b) ∧ t.kv = s.kv) ∧
    (s.mayProgram = false → exec (.readCounterSave moon) s = .next s) ∧
    (s.power.step ≠ 0 → s.power.shutDone = false →
      (moon < 8 → die < 512 → Sensor.die moon die ∉ s.thermal.broken → Runs (.ageClockTick [(moon, die, temp)]) s fun t =>
        t.dieClock moon die = s.dieClock moon die + ageFactor temp ∧ t.dieTemp moon die = temp ∧
          ∀ m d, (m, d) ≠ (moon, die) → t.dieClock m d = s.dieClock m d) ∧
      (leastInt ((s.soundReadings temps).map (·.2.2)) = some y → Runs (.ageClockTick temps) s fun t => t.thermal.coldest = y ∧
        t.win = s.win.chill y ∧ t.kv = s.kv) ∧
      Runs (.ageClockTick []) s fun t => t.thermal = s.thermal ∧ t.win = s.win ∧ t.media = s.media ∧ t.kv = s.kv) ∧
    (s.power.step = 0 ∨ s.power.shutDone = true → exec (.ageClockTick temps) s = .next s)) ∧
  (∀ (num : Nat) (k : Comet) (s : State), s.comet? num = some k →
    let ends := k.kind = .rebuild ∧ k.isRunning = true ∧ s.mayProgram = true
    let data := fun (v : Version) => (v.nsid, v.key, v.csn, v.value)
    (ends → Runs (.rebuildDone num) s fun t => t.comet? num = none ∧
      (s.mirroring = false → t.kv.versions.map data = s.kv.versions.map data) ∧
      (s.bandsOn k.moon k.die k.channel = [] → k.rebuildKind ≠ 2 → t.kv = s.kv ∧ t.media.bands = s.media.bands) ∧
      ∀ r, t.media.moons[k.moon]? = some r →
        r.degraded = ((t.comets.list.any fun q => q.isRunning && q.kind == .rebuild && q.moon == k.moon) || t.lostBlocks k.moon)) ∧
    (¬ends → exec (.rebuildDone num) s = .next s)) ∧
  (∀ (n u x : Nat) (v : Int) (values : List (Nat × Nat × Nat × Int)) (s : State),
    let runs := s.power.step = 12 ∧ s.power.shutDone = false
    (runs → Runs (.healthDailySample values) s fun t => t.health.days = s.health.days + 1 ∧ t.kv = s.kv) ∧
    (runs → 2 ≤ n → n ≤ 4 → Runs (.healthDailySample [(n, u, x, v)]) s fun t =>
      (∃ m ∈ t.health.monitors, m.monitor = n ∧ m.unit = u ∧ m.idx = x ∧ (s.health.days + 1, v) ∈ m.samples) ∧
        (n = 3 → u = 0x30 → x < s.ports.hosts.length → (t.host x).eyeMin = v.toNat % 65536)) ∧
    (¬runs → exec (.healthDailySample values) s = .next s) ∧
    ∀ (day mon : Nat) (l : List Monitor), (∀ m ∈ l, m.samples.length ≤ 4096) →
      ∀ m ∈ addSample day mon u x v l, m.samples.length ≤ 4096)

/-- The logical ports of a failed host port lose their links, their addresses and their sessions to the twins, with ATTN#,
and take addresses and sessions back after 10 s of stable link. A trained link of a started module is up: a host link with
its failure over, a pair link with its HELLO; announcements repeat until they are due no more, and one with an uncorrectable
error is discarded and counted; each direction of a link changes gear by itself. (16 R602, 01 R27, 17 R625, 17 R629, 17
R633, 17 R639, 15 R574) -/
def Obligations.PortsAndLinks : Prop :=
  (∀ (port cause l : Nat) (sub : Option Nat) (s : State),
    let fails := s.powered = true ∧ port < 32 ∧ s.failing port sub ≠ []
    let returns := l < 128 ∧ (s.logical l).away = true ∧ bitOf (s.host (l / 4)).linkUp (l % 4) = true
    (s.ports.hosts.length = 32 → s.ports.logical.length = 128 →
      (fails → (s.host port).live.breakout ≤ 2 → Runs (.hostPortFailed port sub cause) s fun t =>
        t.attn.causes.getLsbD cPort = true ∧ ∀ k ∈ s.failing port sub,
          bitOf (t.host port).failed k = true ∧ (t.logical (4 * port + k)).away = true ∧
            ((s.logical (4 * port + k)).away = false →
              ∀ x ∈ t.sess.sessions, x.lport = 4 * port + k → x.front = portFront (twinOf (4 * port + k)))) ∧
      (returns → Runs (.portReturn l) s fun t => (t.logical l).away = false ∧ t.out = s.out ++ [.announce l] ∧
        (∀ x ∈ t.sess.sessions, x.lport = l → x.front = portFront l) ∧
          t.sess.sessions.filter (·.lport != l) = s.sess.sessions.filter (·.lport != l))) ∧
    (¬fails → exec (.hostPortFailed port sub cause) s = .next s) ∧ (¬returns → exec (.portReturn l) s = .next s)) ∧
  (∀ (l n : Nat) (rx : Bool) (tx : TxFate) (k : LinkId) (q : PairLink) (s : State),
    let serves := s.onAir = true ∧ s.portExists l = true ∧ s.frontIn (if l < 64 then .a else .b) = true
    let carrier := if (s.logical l).away then twinOf l else l
    let row := Instr.announceRepeat ⟨.port l, tx⟩
    let shifts := fun (i : Instr) (f : Gear → Gear) => Runs i s fun t => t.ports.links = s.ports.links ∧ t.host (l / 4) =
      if rx then { s.host (l / 4) with gearRx := f (s.host (l / 4)).gearRx }
      else { s.host (l / 4) with gearTx := f (s.host (l / 4)).gearTx }
    let shiftsPair := fun (i : Instr) (f : Gear → Gear) => Runs i s fun t => t.ports.hosts = s.ports.hosts ∧
      t.ports.links[n]? = some (if rx then { q with gearRx := f q.gearRx } else { q with gearTx := f q.gearTx })
    (serves → Runs (.linkUp (.port l)) s fun t => bitOf (t.host (l / 4)).linkUp (l % 4) = true ∧
      bitOf (t.host (l / 4)).failed (l % 4) = false ∧ t.sess = s.sess ∧ t.attn.causes = s.attn.causes) ∧
    (¬serves → exec (.linkUp (.port l)) s = .next s) ∧
    (s.onAir = true → s.ports.links[n]? = some q → Runs (.linkUp (.pair n)) s fun t =>
      t.ports.links[n]? = some { q with trained := true, seq := q.seq + 1 } ∧
        ∃ header, t.out = s.out ++ [.pairFrame n (header ++ s.hello)]) ∧
    (s.onAir = false ∨ s.ports.links[n]? = none → exec (.linkUp (.pair n)) s = .next s) ∧
    (l < s.ports.logical.length → 0 < (s.logical l).announce → s.onAir = true →
      (Runs row s fun t => (t.logical l).announce = (s.logical l).announce - 1 ∧ t.sess = s.sess ∧
        t.out = if tx = .eccError then s.out else s.out ++ [.announce carrier]) ∧
      (tx = .eccError → carrier < s.ports.logical.length → (s.logical carrier).counters.length = 22 → Runs row s fun t =>
        (t.logical carrier).counters.getD txDropInternal 0 = (s.logical carrier).counters.getD txDropInternal 0 + 1)) ∧
    ((s.logical l).announce = 0 ∨ s.onAir = false → exec row s = .next s) ∧ exec (.announceRepeat ⟨.pair n, tx⟩) s = .next s ∧
    (s.powered = true → l / 4 < s.ports.hosts.length →
      shifts (.gearDown (.port l) rx) Gear.down ∧ shifts (.gearUp (.port l) rx) Gear.up) ∧
    (s.powered = true → s.ports.links[n]? = some q →
      shiftsPair (.gearDown (.pair n) rx) Gear.down ∧ shiftsPair (.gearUp (.pair n) rx) Gear.up) ∧
    (s.powered = false → exec (.gearDown k rx) s = .next s ∧ exec (.gearUp k rx) s = .next s))

/-- A received frame falls to exactly one counter of its link, in the order of 17 Table 17.4, or is delivered and counted
with its bytes; requests for a carried address are answered; PFC, CNP and ECN act on their own port; a frame to be sent that
has an uncorrectable error, or whose queue TQ4 is full, is counted and not sent. (17 R630, 17 R633, 17 R634, 17 R635, 17
R636) -/
def Obligations.FramesAreCountedOnce : Prop :=
  ∀ (l n kind : Nat) (f : RxFrame) (target : Bytes) (paused : Bool) (tx : TxFate) (q : PairLink) (s : State),
    let counts := fun (k : Nat) => (s.logical l).counters.getD k 0
    let after := fun (t : State) (k : Nat) => (t.logical l).counters.getD k 0
    let frame := fun (fate : Option Nat) (was now : Nat → Nat) => ∀ j, now j = was j + match fate with
      | some k => if j = k then 1 else 0
      | none => if j = rxFrames then 1 else if j = rxBytes then f.length else 0
    let here := s.powered = true ∧ s.portExists l = true
    let asks := s.onAir = true ∧ l < 128 ∧ target ∈ s.carried l
    let request := Instr.addressResolutionRequest l target ⟨kind, tx⟩
    let answers := s.onAir = true ∧ s.portExists l = true
    (l < s.ports.logical.length → (s.logical l).counters.length = 22 →
      (here → Runs (.frameReceive (.port l) f) s fun t => frame (frameFate false (lpVlan (s.logical l).live) f) counts (after t)) ∧
      (asks → Runs request s fun t => t.out = (if tx = .sent then s.out ++ [.addressReply l target kind] else s.out) ∧
        ∀ j, after t j = counts j + if (tx = .eccError ∧ j = txDropInternal) ∨ (tx = .queueFull ∧ j = txDropTq4) then 1 else 0) ∧
      (here → (s.host (l / 4)).live.pfcEn = true → Runs (.pfcFrame l paused) s fun t =>
        t.logical l = { s.logical l with paused := paused } ∧ t.sess = s.sess) ∧
      (here → Runs (.cnpReceive l) s fun t => t.logical l = { s.logical l with reduced := (s.logical l).reduced + 1 } ∧
        ∀ m, m ≠ l → t.logical m = s.logical m) ∧
      (answers → Runs (.ecnMarkedPacket ⟨l, tx⟩) s fun t => t.out = (if tx = .eccError then s.out else s.out ++ [.cnp l]) ∧
        ∀ j, after t j = counts j + if j = rxEcn ∨ j = (if tx = .eccError then txDropInternal else txCnp) then 1 else 0)) ∧
    (¬here → exec (.frameReceive (.port l) f) s = .next s ∧ exec (.cnpReceive l) s = .next s) ∧
    (¬here ∨ (s.host (l / 4)).live.pfcEn = false → exec (.pfcFrame l paused) s = .next s) ∧
    (¬asks → exec request s = .next s) ∧ (¬answers → exec (.ecnMarkedPacket ⟨l, tx⟩) s = .next s) ∧
    (s.ports.links[n]? = some q → q.counters.length = 22 → s.powered = true → Runs (.frameReceive (.pair n) f) s fun t =>
      ∃ r, t.ports.links[n]? = some r ∧ frame (frameFate true none f) (q.counters.getD · 0) (r.counters.getD · 0)) ∧
    (s.powered = false → exec (.frameReceive (.pair n) f) s = .next s)

/-- PTP locks at the sixteenth Sync in a row within 100 ns and disciplines the time island; an edge of PPS_IN that is
accepted starts the second written for it; once the time of day is set an offset is slewed out within its limit; an edge
more than 10 µs off is counted, as is a PTP message of another logical port or of the peer delay mechanism, and ignored; one
of another domain is ignored; the loss of a source begins holdover. Module time never steps backwards. (17 R642, 17 R644, 17
R645, 01 R30) -/
def Obligations.TimeIsDisciplined : Prop :=
  ∀ (o k : Int) (w p : Nat) (m : PtpMsg) (s : State),
    let src := s.settings.timeSource
    let d := s.ptpDomain
    let ptp := s.powered = true ∧ s.time.up = true ∧ (src = 1 ∨ src = 3)
    let pps := s.time.up = true ∧ (src = 2 ∨ src = 3) ∧ 100 ≤ w ∧ s.shorted pinPps = false
    let good := if -100 ≤ o ∧ o ≤ 100 then min 16 (s.time.goodSyncs + 1) else 0
    let off := s.time.ppsOk = true ∧ (o < -10000 ∨ 10000 < o)
    let slewed := fun (t : State) (most : Int) => (t.time.now : Int) = s.time.now + min most (max 0 (-o))
    let lost := { s.time with disciplined := false, holdover := s.time.holdover || s.time.disciplined, ptpLocked := false,
                              ppsOk := false, goodSyncs := 0 }
    (ptp → p = s.ptpSource →
      (-7 ≤ k → k ≤ 1 → Runs (.ptpMessage p ⟨d, .sync o k⟩) s fun t => t.time.goodSyncs = good ∧
        t.time.ptpLocked = (s.time.ptpLocked || good == 16) ∧ t.time.offset = o ∧ t.time.todSet = true ∧
          t.time.disciplined = (s.time.disciplined || t.qualifies) ∧ s.time.now ≤ t.time.now ∧
          (s.time.todSet = true → src = 1 → slewed t (slewLimit k)) ∧ (s.time.todSet = true → src = 3 → t.time.now = s.time.now) ∧
          (s.time.todSet = false → t.time.now =
            max s.time.now ((s.time.now : Int) - if src = 3 then wholeSeconds o else o).toNat)) ∧
      (k < -7 ∨ 1 < k → exec (.ptpMessage p ⟨d, .sync o k⟩) s = .next s) ∧
      exec (.ptpMessage p ⟨d, .delayResp o⟩) s = .next { s with time := { s.time with offset := o } } ∧
      exec (.ptpMessage p ⟨d, .announce⟩) s = .next s ∧
      exec (.ptpMessage p ⟨d, .pdelay⟩) s = .next { s with time := { s.time with ptpIgnored := s.time.ptpIgnored + 1 } }) ∧
    (ptp → p = s.ptpSource → m.domain ≠ d → exec (.ptpMessage p m) s = .next s) ∧
    (ptp → p ≠ s.ptpSource →
      exec (.ptpMessage p m) s = .next { s with time := { s.time with ptpIgnored := s.time.ptpIgnored + 1 } }) ∧
    (¬ptp → exec (.ptpMessage p m) s = .next s) ∧
    (s.time.up = true → src = 1 → Runs .ptpTimeout s fun t => t.time = lost ∧ t.attn.warnings.getLsbD 7 = lost.holdover) ∧
    (s.time.up = true → src = 3 →
      exec .ptpTimeout s = .next { s with time := { s.time with ptpLocked := false, goodSyncs := 0 } }) ∧
    (s.time.up = false ∨ ¬(src = 1 ∨ src = 3) → exec .ptpTimeout s = .next s) ∧
    (pps → ¬off → Runs (.ppsEdge o w) s fun t => t.time.ppsOk = true ∧ t.time.offset = o ∧
      (∀ n : Nat, src = 2 → s.time.ppsSeconds = some n → t.time.now = max s.time.now (n * 1000000000) ∧
        t.time.ppsSeconds = none ∧ t.time.disciplined = true) ∧
      (src = 3 ∨ s.time.ppsSeconds = none → t.time.ppsSeconds = s.time.ppsSeconds ∧
        (s.time.todSet = true → slewed t 10000 ∧ t.time.disciplined = true) ∧
        (s.time.todSet = false → t.time.now = s.time.now ∧ t.time.disciplined = s.time.disciplined))) ∧
    (pps → off → exec (.ppsEdge o w) s =
      .next { s with time := { s.time with ppsRejected := s.time.ppsRejected + 1 } }) ∧
    (¬pps → exec (.ppsEdge o w) s = .next s) ∧
    (s.time.up = true → src = 2 ∨ src = 3 → s.time.ppsOk = true → Runs .ppsLoss s fun t =>
      t.time = lost ∧ t.attn.warnings.getLsbD 7 = lost.holdover) ∧
    (s.time.up = false ∨ ¬(src = 2 ∨ src = 3) ∨ s.time.ppsOk = false → exec .ppsLoss s = .next s)

/-- A format with the right serial number: no version, object session or pin is left, and the mode is COMMISSION; it
completes when nothing that holds its lock is in flight, and no namespace is left then. A format that may not run, or has
another number, is refused. Attestation, health and log reads write their record into the host's buffer and complete with
its length, or with a remote access error orphan their session; a health acknowledgement clears the causes of its mask whose
conditions are over, and answers with those that remain; a value out of range, or another role, is refused. (02 R61, 14
R553, 16 R609, 16 R615, 16 R616) -/
def Obligations.DeviceRecordsAndFormat : Prop :=
  (∀ (ref : Nat) (c : Cmd) (s : State), s.Ready ref c (fun d => dOpcode d == 0x57) →
    let row := Instr.admFormat ref
    let empty := fun (t : State) => t.mode.mode = .commission ∧ t.kv.versions = [] ∧ t.kv.objects = [] ∧ t.kv.pins = [] ∧
      (∀ k ∈ t.creds.list, k.grants = []) ∧ t.settings = s.settings ∧ t.vault.slots = s.vault.slots
    let idle := ∀ n ∈ s.ns, s.inFlightOf n.nsid = false
    (c.decided = false →
      (∀ k : Comp, s.formatRefusal c.desc = some k → exec row s = .next ((s.passed ref).finish ref k)) ∧
      (s.formatRefusal c.desc = none → Runs row s fun t => empty t ∧ ∀ n ∈ t.ns, n.gone = true) ∧
      (s.formatRefusal c.desc = none → idle →
        Completes row s ref (Comp.okResult (s.ns.filter (!·.gone)).length) fun t => empty t ∧ t.ns = [])) ∧
    (c.decided = true →
      (idle → Completes row s ref (Comp.okResult c.acc) fun t => t.ns = [] ∧ t.kv.versions = [] ∧ t.mode = s.mode) ∧
      (¬idle → exec row s = .next (s.passed ref)))) ∧
  (∀ (ref : Nat) (c : Cmd) (s : State),
    let refused := fun (i : Instr) (d : Nat) => exec i s = .next ((s.passed ref).finish ref (Comp.denied d))
    let orphans := fun (i : Instr) => exec i s = .next ((s.passed ref).hostAccess ref (Comp.plain .hostAccess))
    let es := s.logFrom (u64At c.desc 24) (u32At c.desc 32)
    let entries : Comp := { status := .ok, result := es.length, aux := s.logMissed (u64At c.desc 24) }
    (s.isOrphan c.sid = false → s.session? c.sid ≠ none →
      (s.Ready ref c (fun d => dOpcode d == 0x58) → 432 ≤ dValueLen c.desc → ∃ m sig : Bytes,
        Completes (.admAttest ref .acked) s ref (Comp.okResult 432) fun t =>
          t.out = s.out ++ [.write c.sid (u32At c.desc 12) (u64At c.desc 16) (m ++ sig)] ∧
            m = s.attestBody (slice c.desc 24 32) ∧ sig.length = 96 ∧ t.fresh = s.fresh + 1) ∧
      (s.Ready ref c (isAdm 0x59 1) → Completes (.healthRead ref .acked) s ref (Comp.okResult 320) fun t =>
        t.out = s.out ++ [.write c.sid (u32At c.desc 12) (u64At c.desc 16) (s.healthRecord (bitsOf (u16At c.desc 24) 0 12))]) ∧
      (s.Ready ref c (fun d => dOpcode d == 0x5A) → 1 ≤ u32At c.desc 32 → u32At c.desc 32 ≤ 65536 → es ≠ [] →
        Completes (.admLogRead ref .acked) s ref entries fun t =>
          t.out = s.out ++ [.write c.sid (u32At c.desc 12) (u64At c.desc 16) (es.flatMap logBytes)] ∧ t.attn = s.attn)) ∧
    (s.Ready ref c (fun d => dOpcode d == 0x58) →
      (432 ≤ dValueLen c.desc → orphans (.admAttest ref .accessError)) ∧
      (dValueLen c.desc < 432 → ∀ w, refused (.admAttest ref w) 7)) ∧
    (s.Ready ref c (isAdm 0x59 1) → orphans (.healthRead ref .accessError)) ∧
    (s.Ready ref c (isAdm 0x59 2) → (s.isCustodian c = false → refused (.healthAck ref) 4) ∧
      (s.isCustodian c = true → ∃ u : State,
        exec (.healthAck ref) s = .next (u.finish ref (Comp.okResult u.attn.causes.toNat)) ∧ u.attn.log = s.attn.log ∧
          ∀ b, b < 32 → u.attn.causes.getLsbD b =
            (s.attn.causes.getLsbD b && !(b != 0 && bitOf (u32At c.desc 28) b && !s.conditionHolds b)))) ∧
    (s.Ready ref c (fun d => dOpcode d == 0x5A) →
      (u32At c.desc 32 = 0 ∨ 65536 < u32At c.desc 32 → ∀ w, refused (.admLogRead ref w) 7) ∧
      (1 ≤ u32At c.desc 32 → u32At c.desc 32 ≤ 65536 →
        (es = [] → ∀ w, exec (.admLogRead ref w) s = .next ((s.passed ref).finish ref entries)) ∧
        (es ≠ [] → orphans (.admLogRead ref .accessError)))))

/-- The lights show what a row leaves: POWER and SAFE go out with the management island and ATTENTION follows ATTN#; a fatal
fault turns ATTENTION red; a clean shutdown turns SAFE blue and POWER amber; POWER blinks during start-up. (21 R726, 16
R608, 02 R77) -/
def Obligations.LightsShowTheState : Prop :=
  ∀ (cause : Nat) (facts : StartFacts) (s : State),
    (s.feeds.mgmtUp = true → s.feeds.bulkUp = true → s.attn.causes.getLsbD cFatal = false → Runs .mgmtWatchdog s fun t =>
      t.powerLight = .off ∧ t.safeLight = .off ∧ t.attentionLight = .amber) ∧
    (s.powered = true → s.mode.fatal = false → Runs (.fatalFault cause) s fun t => t.attentionLight = .red) ∧
    (s.power.shutdown = some .stay → s.feeds.mgmtUp = true → Runs .cleanShutdownDone s fun t =>
      t.powerLight = .amber ∧ t.safeLight = .blue) ∧
    (0 < s.power.step → s.power.step < 11 → s.power.shutDone = false → s.feeds.mgmtUp = true → s.feeds.loss = .none →
      Runs (.startStepReached facts) s fun t => t.powerLight = .amberBlink ∧ t.safeLight = .off)
end

