-- ==== Sys2Proof/Laws/Base.lean ====
section
/-! SUPPORT. What every operation of Machine/ but the tag's block writes leaves as it is: the queue, the memory of the
shelf tag and the identity that its factory image shows. One lemma for each operation; callers cite it and never unfold
the operation. -/

namespace Sys2Proof.Machine

/-- What no row but two changes: the queue, and the tag's memory with what its factory image shows of the module's
identity. -/
def State.base (s : State) : List Instr × List (Nat × Byte) × Bytes × Bytes × Bytes × Nat :=
  (s.pending, s.tag.mem, s.ident.serial, s.ident.certDigest, s.ident.tagUid, s.ident.madeTime)

@[simp] theorem base_mk x_pending x_out x_fresh x_ident x_mode x_power x_ctrl x_settings x_time x_sess x_cmds x_locks x_kv x_seq x_win x_ns x_creds x_asu x_vault x_programs x_comets x_media x_attn x_health x_ports x_pair x_fw x_usb x_tag x_feeds x_thermal x_pins :
    (State.mk x_pending x_out x_fresh x_ident x_mode x_power x_ctrl x_settings x_time x_sess x_cmds x_locks x_kv x_seq x_win x_ns x_creds x_asu x_vault x_programs x_comets x_media x_attn x_health x_ports x_pair x_fw x_usb x_tag x_feeds x_thermal x_pins).base =
      (x_pending, x_tag.mem, x_ident.serial, x_ident.certDigest, x_ident.tagUid, x_ident.madeTime) := (rfl)

@[simp] theorem base_fold (s : State) :
    (s.pending, s.tag.mem, s.ident.serial, s.ident.certDigest, s.ident.tagUid, s.ident.madeTime) = s.base := (rfl)

@[simp] theorem base_ite (p : Prop) [Decidable p] (a b : State) :
    (if p then a else b).base = if p then a.base else b.base := by
  split <;> rfl

@[simp] theorem foldl_base {α : Type} (f : State → α → State) (h : ∀ s a, (f s a).base = s.base) (l : List α) (s : State) :
    (l.foldl f s).base = s.base := by
  induction l generalizing s with
  | nil => rfl
  | cons a l ih => simp [ih, h]

@[simp] theorem State.emit_base (s : State) (o : Output) :
    (State.emit s o).base = s.base := by
  unfold State.emit
  simp

@[simp] theorem State.emitAll_base (s : State) (os : List Output) :
    (State.emitAll s os).base = s.base := by
  unfold State.emitAll
  simp

@[simp] theorem State.draw_base (s : State) :
    (State.draw s).base = s.base := by
  unfold State.draw
  simp

@[simp] theorem State.logEvent_base (s : State) (code unit index : Nat) (data : List (Nat × Bytes)) :
    (State.logEvent s code unit index data).base = s.base := by
  rfl

@[simp] theorem State.setCause_base (s : State) (bit : Nat) :
    (State.setCause s bit).base = s.base := by
  unfold State.setCause
  simp

@[simp] theorem State.clearCause_base (s : State) (bit : Nat) :
    (State.clearCause s bit).base = s.base := by
  unfold State.clearCause
  simp

@[simp] theorem State.setWarning_base (s : State) (bit : Nat) (on : Bool) :
    (State.setWarning s bit on).base = s.base := by
  unfold State.setWarning
  simp

@[simp] theorem State.sendOn_base (s : State) (n kind : Nat) (body : Bytes) :
    (State.sendOn s n kind body).base = s.base := by
  unfold State.sendOn
  split <;> simp

@[simp] theorem State.sendPair_base (s : State) (kind : Nat) (body : Bytes) :
    (State.sendPair s kind body).base = s.base := by
  unfold State.sendPair
  split <;> simp

@[simp] theorem State.modSession_base (s : State) (sid : Nat) (f : Session → Session) :
    (State.modSession s sid f).base = s.base := by
  unfold State.modSession
  simp

@[simp] theorem State.modRing_base (s : State) (sid idx : Nat) (f : Ring → Ring) :
    (State.modRing s sid idx f).base = s.base := by
  unfold State.modRing
  simp

@[simp] theorem State.refresh_base (s : State) (sid : Nat) :
    (State.refresh s sid).base = s.base := by
  unfold State.refresh
  simp

@[simp] theorem State.toHost_base (s : State) (sid : Nat) (o : Output) :
    (State.toHost s sid o).base = s.base := by
  unfold State.toHost
  split <;> simp

@[simp] theorem State.modCmd_base (s : State) (ref : Nat) (f : Cmd → Cmd) :
    (State.modCmd s ref f).base = s.base := by
  unfold State.modCmd
  simp

@[simp] theorem State.dropCmd_base (s : State) (ref : Nat) :
    (State.dropCmd s ref).base = s.base := by
  unfold State.dropCmd
  simp

@[simp] theorem State.releaseLocks_base (s : State) (ref : Nat) :
    (State.releaseLocks s ref).base = s.base := by
  unfold State.releaseLocks
  simp

@[simp] theorem State.releaseReserved_base (s : State) (c : Cmd) :
    (State.releaseReserved s c).base = s.base := by
  unfold State.releaseReserved
  simp

@[simp] theorem State.modMoon_base (s : State) (m : Nat) (f : Moon → Moon) :
    (State.modMoon s m f).base = s.base := by
  unfold State.modMoon
  simp

@[simp] theorem State.unstageAll_base (s : State) (es : List Extent) :
    (State.unstageAll s es).base = s.base := by
  unfold State.unstageAll
  simp

@[simp] theorem State.logMap_base (s : State) (moon page : Nat) (c : MapChange) :
    (State.logMap s moon page c).base = s.base := by
  unfold State.logMap
  simp

@[simp] theorem State.logToken_base (s : State) (es : List Extent) (token : Option Nat) (f : Nat → MapChange) :
    (State.logToken s es token f).base = s.base := by
  unfold State.logToken
  split <;> simp

@[simp] theorem State.blindPages_base (s : State) (token : Option Nat) :
    (State.blindPages s token).base = s.base := by
  unfold State.blindPages
  simp

@[simp] theorem State.dropExtents_base (s : State) (es : List Extent) (token : Option Nat) :
    (State.dropExtents s es token).base = s.base := by
  unfold State.dropExtents
  simp

@[simp] theorem State.modExtent_base (s : State) (e : Extent) (f : Extent → Extent) :
    (State.modExtent s e f).base = s.base := by
  unfold State.modExtent
  simp

@[simp] theorem State.undo_base (s : State) (c : Cmd) :
    (State.undo s c).base = s.base := by
  unfold State.undo
  simp

@[simp] theorem State.putComp_base (s : State) (sid : Nat) (r : Ring) (tag : Nat) (k : Comp) :
    (State.putComp s sid r tag k).base = s.base := by
  unfold State.putComp
  simp

@[simp] theorem State.writeComp_base (s : State) (c : Cmd) (k : Comp) :
    (State.writeComp s c k).base = s.base := by
  unfold State.writeComp
  split <;> simp

@[simp] theorem State.flushRing_base (fuel sid ring : Nat) (s : State) :
    (State.flushRing fuel sid ring s).base = s.base := by
  induction fuel generalizing s with
  | zero => rfl
  | succ fuel ih => unfold State.flushRing; split <;> simp [ih]

@[simp] theorem State.releaseFences_base (s : State) (sid ring : Nat) :
    (State.releaseFences s sid ring).base = s.base := by
  unfold State.releaseFences
  simp

@[simp] theorem State.forwardSession_base (s : State) (c : Cmd) :
    (State.forwardSession s c).base = s.base := by
  unfold State.forwardSession
  split <;> simp

@[simp] theorem State.fix_base (s : State) (ref : Nat) (k : Comp) :
    (State.fix s ref k).base = s.base := by
  unfold State.fix
  split <;> simp

@[simp] theorem State.writeOut_base (s : State) (sid ring : Nat) :
    (State.writeOut s sid ring).base = s.base := by
  unfold State.writeOut
  simp

@[simp] theorem State.finish_base (s : State) (ref : Nat) (k : Comp) :
    (State.finish s ref k).base = s.base := by
  unfold State.finish
  split <;> simp

@[simp] theorem State.finishAll_base (s : State) (refs : List (Nat × Comp)) :
    (State.finishAll s refs).base = s.base := by
  unfold State.finishAll
  simp

@[simp] theorem State.reclaim_base (s : State) :
    (State.reclaim s).base = s.base := by
  unfold State.reclaim
  simp

@[simp] theorem State.takePin_base (s : State) (csn : Nat) (resync : Bool) :
    (State.takePin s csn resync).base = s.base := by
  unfold State.takePin
  simp

@[simp] theorem State.modComet_base (s : State) (num : Nat) (f : Comet → Comet) :
    (State.modComet s num f).base = s.base := by
  unfold State.modComet
  simp

@[simp] theorem State.writeStatus_base (s : State) (num : Nat) :
    (State.writeStatus s num).base = s.base := by
  unfold State.writeStatus
  split <;> simp

@[simp] theorem State.endComet_base (s : State) (num : Nat) (st : CometState) (cause status : Nat) (quiet : Bool) :
    (State.endComet s num st cause status quiet).base = s.base := by
  unfold State.endComet
  split <;> simp

@[simp] theorem State.endComets_base (s : State) (p : Comet → Bool) (st : CometState) (cause status : Nat) (quiet : Bool) :
    (State.endComets s p st cause status quiet).base = s.base := by
  unfold State.endComets
  simp

@[simp] theorem State.endPin_base (s : State) (csn : Nat) :
    (State.endPin s csn).base = s.base := by
  unfold State.endPin
  simp

@[simp] theorem State.endPins_base (s : State) :
    (State.endPins s).base = s.base := by
  unfold State.endPins
  simp

@[simp] theorem State.endObjects_base (s : State) (p : ObjSession → Bool) :
    (State.endObjects s p).base = s.base := by
  unfold State.endObjects
  simp

@[simp] theorem State.releaseHeld_base (s : State) (p : Cmd → Bool) :
    (State.releaseHeld s p).base = s.base := by
  unfold State.releaseHeld
  simp

@[simp] theorem State.acceptReset_base (s : State) (sid ring : Nat) (t : ResetRec) (spare : List Nat) :
    (State.acceptReset s sid ring t spare).base = s.base := by
  unfold State.acceptReset
  split <;> simp

@[simp] theorem State.putReport_base (s : State) (sid : Nat) (r : Ring) (t : ResetRec) :
    (State.putReport s sid r t).base = s.base := by
  unfold State.putReport
  simp

@[simp] theorem State.returnAdmin_base (s : State) (x : Session) :
    (State.returnAdmin s x).base = s.base := by
  unfold State.returnAdmin
  split <;> simp

@[simp] theorem State.endSession_base (s : State) (sid : Nat) (dreq : Bool) :
    (State.endSession s sid dreq).base = s.base := by
  unfold State.endSession
  split <;> simp

@[simp] theorem State.endSessions_base (s : State) (p : Session → Bool) (dreq : Bool) :
    (State.endSessions s p dreq).base = s.base := by
  unfold State.endSessions
  simp

@[simp] theorem State.holdSession_base (s : State) (sid : Nat) :
    (State.holdSession s sid).base = s.base := by
  unfold State.holdSession
  simp

@[simp] theorem State.endNeedy_base (s : State) (sid : Nat) :
    (State.endNeedy s sid).base = s.base := by
  unfold State.endNeedy
  simp

@[simp] theorem State.orphan_base (s : State) (sid : Nat) :
    (State.orphan s sid).base = s.base := by
  unfold State.orphan
  split <;> simp

@[simp] theorem State.hostAccess_base (s : State) (ref : Nat) (k : Comp) :
    (State.hostAccess s ref k).base = s.base := by
  unfold State.hostAccess
  split <;> simp

@[simp] theorem State.toHostOr_base (s : State) (c : Cmd) (w : HostWrite) (next : State → State) (h_next : ∀ a0, (next a0).base = a0.base) :
    (State.toHostOr s c w next).base = s.base := by
  unfold State.toHostOr
  (repeat' split) <;> simp [h_next]

@[simp] theorem State.writePieces_base (s : State) (sid : Nat) (ps : List (Nat × Nat × Bytes)) :
    (State.writePieces s sid ps).base = s.base := by
  unfold State.writePieces
  simp

@[simp] theorem State.wake_base (s : State) :
    (State.wake s).base = s.base := by
  unfold State.wake
  (repeat' split) <;> simp

@[simp] theorem State.withReady_base (s : State) (ref : Nat) (p : Bytes → Bool) (k : Cmd → State → State) (h_k : ∀ a0 a1, (k a0 a1).base = a1.base) :
    (State.withReady s ref p k).base = s.base := by
  unfold State.withReady
  (repeat' split) <;> simp [h_k]

theorem placeExtent_base (st : State × List Extent) (k : Cut) : (placeExtent st k).1.base = st.1.base := by
  unfold placeExtent; split <;> simp

theorem placeExtents_base (f : Nat × Nat → Cut) (l : List (Nat × Nat)) (st : State × List Extent) :
    (l.foldl (fun st cut => placeExtent st (f cut)) st).1.base = st.1.base := by
  induction l generalizing st with
  | nil => rfl
  | cons a l ih => simp [ih, placeExtent_base]

@[simp] theorem State.giveObject_base (s : State) (ref part : Nat) : (s.giveObject ref part).1.base = s.base := by
  unfold State.giveObject; (try dsimp only); (repeat' split) <;> simp

@[simp] theorem State.placeValue_base (s : State) (ref i : Nat) (p : Part) :
    (State.placeValue s ref i p).base = s.base := by
  unfold State.placeValue; dsimp only; simp only [base_mk, base_fold, State.modCmd_base]
  exact (placeExtents_base _ _ _).trans (by simp)

@[simp] theorem State.placeParts_base (s : State) (c : Cmd) :
    (State.placeParts s c).base = s.base := by
  unfold State.placeParts
  simp

@[simp] theorem State.placeObject_base (s : State) (o : ObjSession) :
    (State.placeObject s o).base = s.base := by
  unfold State.placeObject; dsimp only; split
  · rfl
  · exact placeExtents_base _ _ _

@[simp] theorem State.placeWaiting_base (s : State) :
    (State.placeWaiting s).base = s.base := by
  unfold State.placeWaiting
  simp

@[simp] theorem State.raise_base (s : State) (bit code unit index : Nat) (data : List (Nat × Bytes)) :
    (State.raise s bit code unit index data).base = s.base := by
  unfold State.raise
  simp

@[simp] theorem State.setBlock_base (s : State) (b : Block) :
    (State.setBlock s b).base = s.base := by
  unfold State.setBlock
  simp

@[simp] theorem State.modDie_base (s : State) (moon die : Nat) (f : Die → Die) :
    (State.modDie s moon die f).base = s.base := by
  unfold State.modDie
  simp

@[simp] theorem State.modBand_base (s : State) (n : Nat) (f : Band → Band) :
    (State.modBand s n f).base = s.base := by
  unfold State.modBand
  simp

@[simp] theorem State.readFlash_base (s : State) (p : Page) (cws : List Nat) (retry : Bool) :
    (State.readFlash s p cws retry).base = s.base := by
  unfold State.readFlash
  simp

@[simp] theorem State.readAround_base (s : State) (p : Page) (cws : List Nat) :
    (State.readAround s p cws).base = s.base := by
  unfold State.readAround
  simp

@[simp] theorem State.readPage_base (s : State) (p : Page) (cws : List Nat) :
    (State.readPage s p cws).base = s.base := by
  unfold State.readPage
  simp

@[simp] theorem State.retryPage_base (s : State) (p : Page) (cws : List Nat) :
    (State.retryPage s p cws).base = s.base := by
  unfold State.retryPage
  simp

@[simp] theorem State.onMedia_base (s : State) (f : State → State) (h_f : ∀ a0, (f a0).base = a0.base) :
    (State.onMedia s f).base = s.base := by
  unfold State.onMedia
  simp [h_f]

@[simp] theorem State.startBlock_base (s : State) (i : BlockId) :
    (State.startBlock s i).base = s.base := by
  unfold State.startBlock
  simp

@[simp] theorem State.addPage_base (s : State) (p : Page) :
    (State.addPage s p).base = s.base := by
  unfold State.addPage
  simp

@[simp] theorem State.programSlc_base (s : State) (moon : Nat) (g : Image) :
    (State.programSlc s moon g).base = s.base := by
  unfold State.programSlc
  simp

@[simp] theorem State.programPair_base (s : State) (e : Extent) (g : Image) :
    (State.programPair s e g).base = s.base := by
  unfold State.programPair
  simp

@[simp] theorem State.programExtent_base (s : State) (w : PageOwner) (token : Option Nat) (e : Extent) :
    (State.programExtent s w token e).base = s.base := by
  unfold State.programExtent
  simp

@[simp] theorem State.programVersion_base (s : State) (v : Version) :
    (State.programVersion s v).base = s.base := by
  unfold State.programVersion
  simp

@[simp] theorem State.programStaged_base (s : State) :
    (State.programStaged s).base = s.base := by
  unfold State.programStaged
  simp

@[simp] theorem State.settleVersion_base (s : State) (obj : Nat) :
    (State.settleVersion s obj).base = s.base := by
  unfold State.settleVersion
  simp

@[simp] theorem State.leaveWindow_base (s : State) (e : Extent) :
    (State.leaveWindow s e).base = s.base := by
  unfold State.leaveWindow
  simp

@[simp] theorem State.programJob_base (s : State) (j : SlcJob) :
    (State.programJob s j).base = s.base := by
  unfold State.programJob
  simp

@[simp] theorem State.passTurn_base (s : State) (j : SlcJob) :
    (State.passTurn s j).base = s.base := by
  unfold State.passTurn
  simp

@[simp] theorem State.programAll_base (s : State) :
    (State.programAll s).base = s.base := by
  unfold State.programAll
  simp

@[simp] theorem State.logCopy_base (s : State) (owner : Nat) (r : MapRec) (copy : Nat) :
    (State.logCopy s owner r copy).base = s.base := by
  unfold State.logCopy
  simp

@[simp] theorem State.programLog_base (s : State) (m : Nat) :
    (State.programLog s m).base = s.base := by
  unfold State.programLog
  simp

@[simp] theorem State.programLogs_base (s : State) :
    (State.programLogs s).base = s.base := by
  unfold State.programLogs
  simp

@[simp] theorem State.setStripe_base (s : State) (t : Stripe) :
    (State.setStripe s t).base = s.base := by
  unfold State.setStripe
  simp

@[simp] theorem State.programQlc_base (s : State) (n moon : Nat) (g : Image) :
    (State.programQlc s n moon g).base = s.base := by
  unfold State.programQlc
  split <;> simp

@[simp] theorem State.programData_base (s : State) (n moon : Nat) (g : Image) :
    (State.programData s n moon g).base = s.base := by
  unfold State.programData
  simp

@[simp] theorem State.sealStripe_base (s : State) (n : Nat) :
    (State.sealStripe s n).base = s.base := by
  unfold State.sealStripe
  simp

@[simp] theorem State.closeStripes_base (s : State) :
    (State.closeStripes s).base = s.base := by
  unfold State.closeStripes
  simp

@[simp] theorem State.takeRow_base (s : State) (r : LockRow) :
    (State.takeRow s r).base = s.base := by
  unfold State.takeRow
  simp

@[simp] theorem State.requestLock_base (s : State) (r : LockRow) :
    (State.requestLock s r).base = s.base := by
  unfold State.requestLock
  simp

@[simp] theorem State.tryRow_base (s : State) (ref : Nat) :
    (State.tryRow s ref).base = s.base := by
  unfold State.tryRow
  simp

@[simp] theorem State.leaveQueue_base (s : State) (ref : Nat) :
    (State.leaveQueue s ref).base = s.base := by
  unfold State.leaveQueue
  split <;> simp

@[simp] theorem State.stall_base (s : State) (shard : Nat) :
    (State.stall s shard).base = s.base := by
  unfold State.stall
  simp

@[simp] theorem State.requestLocks_base (fuel ref : Nat) (s : State) :
    (State.requestLocks fuel ref s).base = s.base := by
  induction fuel generalizing s with
  | zero => rfl
  | succ fuel ih => unfold State.requestLocks; (repeat' split) <;> simp [ih] <;> split <;> simp [ih]

@[simp] theorem State.numberGrant_base (s : State) (ref : Nat) :
    (State.numberGrant s ref).base = s.base := by
  unfold State.numberGrant
  simp

@[simp] theorem State.askCsn_base (s : State) (ref : Nat) :
    (State.askCsn s ref).base = s.base := by
  unfold State.askCsn
  split <;> simp

@[simp] theorem State.failDecide_base (s : State) (c : Cmd) (k : Comp) :
    (State.failDecide s c k).base = s.base := by
  unfold State.failDecide
  split <;> simp

@[simp] theorem State.decideMutation_base (s : State) (ref : Nat) :
    (State.decideMutation s ref).base = s.base := by
  unfold State.decideMutation
  (repeat' split) <;> simp

@[simp] theorem State.afterLocks_base (s : State) (ref : Nat) :
    (State.afterLocks s ref).base = s.base := by
  unfold State.afterLocks
  split <;> simp

@[simp] theorem State.askLocks_base (s : State) (ref : Nat) :
    (State.askLocks s ref).base = s.base := by
  unfold State.askLocks
  split <;> simp

@[simp] theorem State.startMutation_base (s : State) (ref : Nat) :
    (State.startMutation s ref).base = s.base := by
  unfold State.startMutation
  split <;> simp

@[simp] theorem State.forward_base (s : State) (ref : Nat) :
    (State.forward s ref).base = s.base := by
  unfold State.forward
  simp

@[simp] theorem State.forwardMark_base (s : State) :
    (State.forwardMark s).base = s.base := by
  unfold State.forwardMark
  simp

@[simp] theorem State.grantCsn_base (s : State) (c : Cmd) :
    (State.grantCsn s c).base = s.base := by
  unfold State.grantCsn
  simp

@[simp] theorem State.drawQuantum_base (s : State) (moon slot : Nat) :
    (State.drawQuantum s moon slot).base = s.base := by
  unfold State.drawQuantum
  split <;> simp

@[simp] theorem State.forwardAccount_base (s : State) (slot : Nat) :
    (State.forwardAccount s slot).base = s.base := by
  unfold State.forwardAccount
  simp

@[simp] theorem State.useBlocks_base (s : State) (moon slot blocks : Nat) :
    (State.useBlocks s moon slot blocks).base = s.base := by
  unfold State.useBlocks
  simp

@[simp] theorem State.putVersion_base (s : State) (v : Version) (g : Int × Int) :
    (State.putVersion s v g).base = s.base := by
  unfold State.putVersion
  simp

@[simp] theorem State.commitPart_base (c : Cmd) (s : State) (p : Part) :
    (State.commitPart c s p).base = s.base := by
  unfold State.commitPart
  simp

@[simp] theorem State.closeObject_base (s : State) (h : Nat) :
    (State.closeObject s h).base = s.base := by
  unfold State.closeObject
  simp

@[simp] theorem State.commit_base (s : State) (c : Cmd) :
    (State.commit s c).base = s.base := by
  unfold State.commit
  split <;> simp

@[simp] theorem State.completeMutation_base (s : State) (c : Cmd) (w : HostWrite) :
    (State.completeMutation s c w).base = s.base := by
  unfold State.completeMutation
  (repeat' split) <;> simp

@[simp] theorem State.makeDurable_base (s : State) (csn : Nat) :
    (State.makeDurable s csn).base = s.base := by
  unfold State.makeDurable
  simp

@[simp] theorem State.tryDurable_base (s : State) (ref : Nat) (w : HostWrite) :
    (State.tryDurable s ref w).base = s.base := by
  unfold State.tryDurable
  split <;> simp

@[simp] theorem State.startAppend_base (s : State) (c : Cmd) (o : ObjSession) :
    (State.startAppend s c o).base = s.base := by
  unfold State.startAppend
  simp

@[simp] theorem State.takeTurn_base (s : State) (ref : Nat) :
    (State.takeTurn s ref).base = s.base := by
  unfold State.takeTurn
  (repeat' split) <;> simp

@[simp] theorem State.settle_base (s : State) :
    (State.settle s).base = s.base := by
  unfold State.settle
  simp

@[simp] theorem State.readRange_base (s : State) (v : Version) (off n : Nat) :
    (State.readRange s v off n).base = s.base := by
  unfold State.readRange
  first
  | ((repeat' split) <;> simp; done)
  | ((repeat' split) <;> (try simp) <;>
      (rw [foldl_base _ (by intro s a; (repeat' split) <;> simp)]) <;> simp)

@[simp] theorem State.beginPages_base (s : State) (c : Cmd) (v : Version) :
    (State.beginPages s c v).base = s.base := by
  unfold State.beginPages
  simp

@[simp] theorem State.needKey_base (s : State) (c : Cmd) (v : Version) :
    (State.needKey s c v).base = s.base := by
  unfold State.needKey
  simp

@[simp] theorem State.headServed_base (s : State) (c : Cmd) (v : Version) (w : Option HostWrite) :
    (State.headServed s c v w).base = s.base := by
  unfold State.headServed
  (repeat' split) <;> simp

@[simp] theorem State.served_base (s : State) (c : Cmd) (v : Version) (w : Option HostWrite) :
    (State.served s c v w).base = s.base := by
  unfold State.served
  simp

@[simp] theorem State.mapChanged_base (s : State) (v : Version) :
    (State.mapChanged s v).base = s.base := by
  unfold State.mapChanged
  simp

@[simp] theorem State.readMapPage_base (s : State) (moon obj : Nat) :
    (State.readMapPage s moon obj).base = s.base := by
  unfold State.readMapPage
  split <;> simp

@[simp] theorem State.queueMapRead_base (s : State) (c : Cmd) (v : Version) (moon : Nat) :
    (State.queueMapRead s c v moon).base = s.base := by
  unfold State.queueMapRead
  simp

@[simp] theorem State.lookup_base (s : State) (c : Cmd) (v : Version) (w : Option HostWrite) :
    (State.lookup s c v w).base = s.base := by
  unfold State.lookup; (try dsimp only)
  (repeat' split) <;> simp

@[simp] theorem State.located_base (s : State) (c : Cmd) (v : Version) (w : Option HostWrite) :
    (State.located s c v w).base = s.base := by
  unfold State.located
  simp

@[simp] theorem State.numberRead_base (s : State) (c : Cmd) :
    (State.numberRead s c).base = s.base := by
  unfold State.numberRead
  simp

@[simp] theorem State.locate_base (s0 : State) (c : Cmd) (p : Part) (w : Option HostWrite) :
    (State.locate s0 c p w).base = s0.base := by
  unfold State.locate; (try dsimp only)
  (repeat' split) <;> simp

@[simp] theorem State.startRead_base (s : State) (c : Cmd) (w : Option HostWrite) :
    (State.startRead s c w).base = s.base := by
  unfold State.startRead
  split <;> simp

@[simp] theorem State.deliver_base (s : State) (c : Cmd) (v : Version) :
    (State.deliver s c v).base = s.base := by
  unfold State.deliver
  simp

@[simp] theorem State.markLost_base (s : State) (v : Version) (part : Nat × Nat) :
    (State.markLost s v part).base = s.base := by
  unfold State.markLost
  simp

@[simp] theorem State.loseMeta_base (s : State) (c : Cmd) (v : Version) :
    (State.loseMeta s c v).base = s.base := by
  unfold State.loseMeta
  simp

@[simp] theorem State.pagesGot_base (s : State) (c : Cmd) (v : Version) (deg : Bool) (w : HostWrite) :
    (State.pagesGot s c v deg w).base = s.base := by
  unfold State.pagesGot
  simp

@[simp] theorem State.readShadows_base (s : State) (v : Version) (off n : Nat) :
    (State.readShadows s v off n).base = s.base := by
  unfold State.readShadows
  first
  | ((repeat' split) <;> simp; done)
  | ((repeat' split) <;> (try simp) <;>
      (rw [foldl_base _ (by intro s a; (repeat' split) <;> simp)]) <;> simp)

@[simp] theorem State.pagesRead_base (s : State) (c : Cmd) (v : Version) (o : PageOutcome) (w : HostWrite) :
    (State.pagesRead s c v o w).base = s.base := by
  unfold State.pagesRead
  split <;> simp

@[simp] theorem State.sealFailed_base (s : State) (v : Version) :
    (State.sealFailed s v).base = s.base := by
  unfold State.sealFailed
  simp

@[simp] theorem State.sealVerdict_base (s : State) (c : Cmd) (v : Version) (pass : Bool) (w : HostWrite) :
    (State.sealVerdict s c v pass w).base = s.base := by
  unfold State.sealVerdict
  simp

@[simp] theorem State.lookAgain_base (s : State) (moon : Nat) :
    (State.lookAgain s moon).base = s.base := by
  unfold State.lookAgain
  first
  | ((repeat' split) <;> simp; done)
  | ((repeat' split) <;> (try simp) <;>
      (rw [foldl_base _ (by intro s a; (repeat' split) <;> simp)]) <;> simp)

@[simp] theorem State.mapFilled_base (s : State) (moon : Nat) :
    (State.mapFilled s moon).base = s.base := by
  unfold State.mapFilled
  split <;> simp

@[simp] theorem State.mapPageRead_base (s : State) (v : Version) :
    (State.mapPageRead s v).base = s.base := by
  unfold State.mapPageRead
  simp

@[simp] theorem State.mapInvalidated_base (s : State) (moon : Nat) :
    (State.mapInvalidated s moon).base = s.base := by
  unfold State.mapInvalidated
  simp

@[simp] theorem State.sharePin_base (s : State) (csn : Nat) :
    (State.sharePin s csn).base = s.base := by
  unfold State.sharePin
  simp

@[simp] theorem State.sendVersion_base (s : State) (k : Comet) (v : Version) :
    (State.sendVersion s k v).base = s.base := by
  unfold State.sendVersion
  simp

@[simp] theorem State.submitExport_base (s : State) (num : Nat) :
    (State.submitExport s num).base = s.base := by
  unfold State.submitExport
  split <;> simp

@[simp] theorem State.cometCommit_base (s : State) (c : Cmd) (kind : CometKind) :
    (State.cometCommit s c kind).base = s.base := by
  unfold State.cometCommit
  simp

@[simp] theorem cometBody_base (kind : CometKind) (c : Cmd) (s : State) :
    (cometBody kind c s).base = s.base := by
  unfold cometBody
  (repeat' split) <;> simp

@[simp] theorem getBody_base (c : Cmd) (s : State) :
    (getBody c s).base = s.base := by
  unfold getBody
  simp

@[simp] theorem beginBody_base (c : Cmd) (s : State) :
    (beginBody c s).base = s.base := by
  unfold beginBody
  simp

@[simp] theorem objectBody_base (c : Cmd) (s : State) :
    (objectBody c s).base = s.base := by
  unfold objectBody
  split <;> simp

@[simp] theorem State.failAreas_base (s : State) (c : Cmd) (k : Comp) :
    (State.failAreas s c k).base = s.base := by
  unfold State.failAreas
  simp

@[simp] theorem State.areasRead_base (s : State) (c : Cmd) (a : HostAreas) :
    (State.areasRead s c a).base = s.base := by
  unfold State.areasRead; (try dsimp only)
  (repeat' split) <;> simp

@[simp] theorem State.leaveOrder_base (s : State) (c : Cmd) :
    (State.leaveOrder s c).base = s.base := by
  unfold State.leaveOrder
  simp

@[simp] theorem State.leaveLockWait_base (s : State) (c : Cmd) :
    (State.leaveLockWait s c).base = s.base := by
  unfold State.leaveLockWait
  simp

@[simp] theorem State.leaveReadWait_base (s : State) (c : Cmd) :
    (State.leaveReadWait s c).base = s.base := by
  unfold State.leaveReadWait
  (repeat' split) <;> simp

@[simp] theorem State.appendReceived_base (s : State) (c : Cmd) (data : Bytes) :
    (State.appendReceived s c data).base = s.base := by
  unfold State.appendReceived
  split <;> simp

@[simp] theorem State.valueReceived_base (s : State) (c : Cmd) (sub : Nat) (p : Part) (bs : Bytes) :
    (State.valueReceived s c sub p bs).base = s.base := by
  unfold State.valueReceived
  simp

@[simp] theorem State.valueFailed_base (s : State) (c : Cmd) (sub : Nat) :
    (State.valueFailed s c sub).base = s.base := by
  unfold State.valueFailed
  simp

@[simp] theorem State.cacheKeys_base (s : State) (e : Extent) :
    (State.cacheKeys s e).base = s.base := by
  unfold State.cacheKeys
  simp

@[simp] theorem State.noteStaged_base (s : State) (e : Extent) (gen : Nat) :
    (State.noteStaged s e gen).base = s.base := by
  unfold State.noteStaged
  simp

@[simp] theorem State.writeJournal_base (s : State) (dir : Bool) :
    (State.writeJournal s dir).base = s.base := by
  unfold State.writeJournal
  simp

@[simp] theorem State.noteJournal_base (s : State) (c : Cmd) :
    (State.noteJournal s c).base = s.base := by
  unfold State.noteJournal
  simp

@[simp] theorem State.checkpointLogs_base (s : State) :
    (State.checkpointLogs s).base = s.base := by
  unfold State.checkpointLogs
  simp

@[simp] theorem State.countToken_base (s : State) :
    (State.countToken s).base = s.base := by
  unfold State.countToken
  simp

@[simp] theorem State.cmdToken_base (s : State) (c : Cmd) : (s.cmdToken c).1.base = s.base := by
  unfold State.cmdToken; split <;> simp

@[simp] theorem State.objectToken_base (s : State) (o : ObjSession) : (s.objectToken o).1.base = s.base := by
  unfold State.objectToken; split <;> simp

@[simp] theorem State.cmdJob_base (s : State) (c : Cmd) (e : Extent) : (s.cmdJob c e).1.base = s.base := by
  unfold State.cmdJob; (repeat' split) <;> simp

@[simp] theorem State.jobAt_base (s : State) (ref : Nat) (x : ExtentRef) (p : PageOwner) (e : Extent) :
    (s.jobAt ref x p e).1.base = s.base := by
  unfold State.jobAt; (repeat' split) <;> simp

@[simp] theorem State.markProgrammed_base (s : State) (ref : Nat) :
    (State.markProgrammed s ref).base = s.base := by
  unfold State.markProgrammed
  simp

@[simp] theorem State.reportMedia_base (s0 s : State) (csn : Nat) : (State.reportMedia s0 s csn).base = s.base := by
  unfold State.reportMedia; split <;> simp

@[simp] theorem State.jobDone_base (s0 s : State) (ref : Nat) (j : SlcJob) : (State.jobDone s0 s ref j).base = s.base := by
  unfold State.jobDone; dsimp only; split <;> simp

@[simp] theorem State.doJob_base (s : State) (ref : Nat) (j : SlcJob) :
    (State.doJob s ref j).base = s.base := by
  unfold State.doJob
  simp

@[simp] theorem State.doPack_base (s : State) (js : List (Nat × SlcJob)) :
    (State.doPack s js).base = s.base := by
  unfold State.doPack
  split <;> simp

@[simp] theorem State.programCmd_base (s : State) (c : Cmd) : (s.programCmd c).base = s.base := by
  unfold State.programCmd; exact foldl_base _ (fun s e => by simp) _ _

@[simp] theorem State.releaseCharge_base (s : State) (q : Charge) :
    (State.releaseCharge s q).base = s.base := by
  unfold State.releaseCharge
  first
  | ((repeat' split) <;> simp; done)
  | ((repeat' split) <;> (try simp) <;>
      (rw [foldl_base _ (by intro s a; (repeat' split) <;> simp)]) <;> simp)

@[simp] theorem State.recordProgrammed_base (s : State) (ref : Nat) (w : HostWrite) :
    (State.recordProgrammed s ref w).base = s.base := by
  unfold State.recordProgrammed
  (repeat' split) <;> simp

@[simp] theorem State.output_base (s : State) (c : Cmd) (w : HostWrite) (rkey addr : Nat) (data : Bytes) (next : State → State) (h_next : ∀ a0, (next a0).base = a0.base) :
    (State.output s c w rkey addr data next).base = s.base := by
  unfold State.output
  split <;> simp [h_next]

@[simp] theorem beginLogin_base (w : HostWrite) (c : Cmd) (s : State) :
    (beginLogin w c s).base = s.base := by
  unfold beginLogin
  split <;> simp

@[simp] theorem State.countFailure_base (s : State) (cred : Nat) :
    (State.countFailure s cred).base = s.base := by
  unfold State.countFailure
  simp

@[simp] theorem State.failProve_base (s : State) (c : Cmd) (x : Session) (b : BeginRec) :
    (State.failProve s c x b).base = s.base := by
  unfold State.failProve
  simp

@[simp] theorem writeHeld_base (sid : Nat) (s : State) (h : Held) :
    (writeHeld sid s h).base = s.base := by
  unfold writeHeld
  split <;> simp

@[simp] theorem heldEvents_base (sid : Nat) (s : State) :
    (heldEvents sid s).base = s.base := by
  unfold heldEvents
  split <;> simp

@[simp] theorem State.resume_base (s : State) (sid : Nat) (o : Session) :
    (State.resume s sid o).base = s.base := by
  unfold State.resume
  split <;> simp

@[simp] theorem State.adopts_base (s : State) (x : Session) :
    (State.adopts s x).base = s.base := by
  unfold State.adopts
  (repeat' split) <;> simp

@[simp] theorem State.adoptProved_base (s : State) :
    (State.adoptProved s).base = s.base := by
  unfold State.adoptProved
  simp

@[simp] theorem State.passProve_base (s : State) (c : Cmd) (x : Session) (b : BeginRec) :
    (State.passProve s c x b).base = s.base := by
  unfold State.passProve; (try dsimp only)
  split <;> simp

@[simp] theorem proveLogin_base (c : Cmd) (s : State) :
    (proveLogin c s).base = s.base := by
  unfold proveLogin
  (repeat' split) <;> simp

@[simp] theorem State.addRing_base (s : State) (sid : Nat) (r : Ring) :
    (State.addRing s sid r).base = s.base := by
  unfold State.addRing
  simp

@[simp] theorem State.dropRing_base (s : State) (sid idx : Nat) :
    (State.dropRing s sid idx).base = s.base := by
  unfold State.dropRing
  simp

@[simp] theorem ringCreate_base (c : Cmd) (s : State) :
    (ringCreate c s).base = s.base := by
  unfold ringCreate
  simp

@[simp] theorem ringStart_base (c : Cmd) (s : State) :
    (ringStart c s).base = s.base := by
  unfold ringStart
  simp

@[simp] theorem ringResize_base (c : Cmd) (s : State) :
    (ringResize c s).base = s.base := by
  unfold ringResize
  simp

@[simp] theorem ringQuery_base (w : HostWrite) (c : Cmd) (s : State) :
    (ringQuery w c s).base = s.base := by
  unfold ringQuery
  split <;> simp

@[simp] theorem State.report_base (s : State) (sid : Nat) (r : Ring) (t : ResetRec) :
    (State.report s sid r t).base = s.base := by
  unfold State.report
  simp

@[simp] theorem State.resetStopped_base (s : State) (c : Cmd) (r : Ring) (w : HostWrite) :
    (State.resetStopped s c r w).base = s.base := by
  unfold State.resetStopped
  simp

@[simp] theorem ringReset_base (cause : Nat) (w : HostWrite) (c : Cmd) (s : State) :
    (ringReset cause w c s).base = s.base := by
  unfold ringReset
  (repeat' split) <;> simp

@[simp] theorem State.resetWaited_base (s : State) (q : Nat × HostWrite) :
    (State.resetWaited s q).base = s.base := by
  unfold State.resetWaited
  (repeat' split) <;> simp

@[simp] theorem State.resetEnded_base (s : State) (sid : Nat) (r : Ring) (t : ResetRec) (w : HostWrite) (later : List HostWrite) :
    (State.resetEnded s sid r t w later).base = s.base := by
  unfold State.resetEnded
  split <;> simp

@[simp] theorem State.operand_base (s : State) (c : Cmd) (r : HostRead) (rkey addr len : Nat) (next : Bytes → State → State) (h_next : ∀ a0 a1, (next a0 a1).base = a1.base) :
    (State.operand s c r rkey addr len next).base = s.base := by
  unfold State.operand
  split <;> simp [h_next]

@[simp] theorem State.unwrapped_base (s : State) (c : Cmd) (r : HostRead) (rkey addr : Nat) (label : String) (next : Bytes → State → State) (h_next : ∀ a0 a1, (next a0 a1).base = a1.base) :
    (State.unwrapped s c r rkey addr label next).base = s.base := by
  unfold State.unwrapped
  refine State.operand_base _ _ _ _ _ _ _ ?_
  intro bs t; (try dsimp only); split <;> simp [h_next]

@[simp] theorem State.refuseUnlocked_base (s : State) :
    (State.refuseUnlocked s).base = s.base := by
  unfold State.refuseUnlocked
  simp

@[simp] theorem State.setMode_base (s : State) (m : Mode) (cause : Nat) :
    (State.setMode s m cause).base = s.base := by
  unfold State.setMode
  simp

@[simp] theorem State.endForMode_base (s : State) :
    (State.endForMode s).base = s.base := by
  unfold State.endForMode
  simp

@[simp] theorem State.gasp_base (s : State) :
    (State.gasp s).base = s.base := by
  unfold State.gasp
  simp

@[simp] theorem State.leavePair_base (s : State) :
    (State.leavePair s).base = s.base := by
  unfold State.leavePair
  simp

@[simp] theorem State.dropUncommitted_base (s : State) :
    (State.dropUncommitted s).base = s.base := by
  unfold State.dropUncommitted
  simp

@[simp] theorem State.commitForwarded_base (s : State) :
    (State.commitForwarded s).base = s.base := by
  unfold State.commitForwarded
  simp

@[simp] theorem State.yieldGranted_base (s : State) :
    (State.yieldGranted s).base = s.base := by
  unfold State.yieldGranted
  simp

@[simp] theorem State.handOver_base (s : State) :
    (State.handOver s).base = s.base := by
  unfold State.handOver
  simp

@[simp] theorem State.toCustody_base (s : State) (cause : Nat) :
    (State.toCustody s cause).base = s.base := by
  unfold State.toCustody
  split <;> simp

@[simp] theorem State.custodyEnded_base (s : State) (cause : Nat) :
    (State.custodyEnded s cause).base = s.base := by
  unfold State.custodyEnded
  simp

@[simp] theorem State.enterOrCustody_base (s : State) (m : Mode) (cause : Nat) :
    (State.enterOrCustody s m cause).base = s.base := by
  unfold State.enterOrCustody
  simp

@[simp] theorem State.enterService_base (s : State) (cause : Nat) :
    (State.enterService s cause).base = s.base := by
  unfold State.enterService
  simp

@[simp] theorem State.rejoin_base (s : State) :
    (State.rejoin s).base = s.base := by
  unfold State.rejoin
  simp

@[simp] theorem State.leaveService_base (s : State) (cause : Nat) :
    (State.leaveService s cause).base = s.base := by
  unfold State.leaveService
  simp

@[simp] theorem State.endForMirror_base (s : State) :
    (State.endForMirror s).base = s.base := by
  unfold State.endForMirror
  simp

@[simp] theorem State.loseLease_base (s : State) :
    (State.loseLease s).base = s.base := by
  unfold State.loseLease
  simp

@[simp] theorem State.giveWay_base (s : State) (cause : Nat) :
    (State.giveWay s cause).base = s.base := by
  unfold State.giveWay
  simp

@[simp] theorem State.enterEclipse_base (s : State) :
    (State.enterEclipse s).base = s.base := by
  unfold State.enterEclipse
  simp

@[simp] theorem State.rewrite_base (x : Session) (s : State) (r : CompletionRecord) :
    (State.rewrite x s r).base = s.base := by
  unfold State.rewrite
  split <;> simp

@[simp] theorem State.adoptCarried_base (s : State) (x : CarriedSession) :
    (State.adoptCarried s x).base = s.base := by
  unfold State.adoptCarried
  simp

@[simp] theorem State.takeover_base (s : State) (cause : Nat) :
    (State.takeover s cause).base = s.base := by
  unfold State.takeover
  simp

@[simp] theorem State.dissolve_base (s : State) :
    (State.dissolve s).base = s.base := by
  unfold State.dissolve
  simp

@[simp] theorem State.checkReserve_base (s : State) :
    (State.checkReserve s).base = s.base := by
  unfold State.checkReserve
  simp

@[simp] theorem State.forgetNamespaces_base (s : State) (p : Nat → Bool) :
    (State.forgetNamespaces s p).base = s.base := by
  unfold State.forgetNamespaces
  simp

@[simp] theorem State.reapNamespaces_base (s : State) :
    (State.reapNamespaces s).base = s.base := by
  unfold State.reapNamespaces
  simp

@[simp] theorem State.clearNamespace_base (s : State) (p : Nat → Bool) :
    (State.clearNamespace s p).base = s.base := by
  unfold State.clearNamespace
  simp

@[simp] theorem State.deletePoint_base (s : State) (nsid : Nat) :
    (State.deletePoint s nsid).base = s.base := by
  unfold State.deletePoint
  simp

@[simp] theorem State.modCred_base (s : State) (cred : Nat) (f : Credential → Credential) :
    (State.modCred s cred f).base = s.base := by
  unfold State.modCred
  simp

@[simp] theorem State.grant_base (s : State) (cred nsid : Nat) :
    (State.grant s cred nsid).base = s.base := by
  unfold State.grant
  simp

@[simp] theorem State.modProg_base (s : State) (n : Nat) (f : ProgSlot → ProgSlot) :
    (State.modProg s n f).base = s.base := by
  unfold State.modProg
  simp

@[simp] theorem State.mapApplied_base (s : State) (ref limit : Nat) (list : Bytes) :
    (State.mapApplied s ref limit list).base = s.base := by
  unfold State.mapApplied
  simp

@[simp] theorem State.installMap_base (s : State) (epoch : Nat) (list : Bytes) :
    (State.installMap s epoch list).base = s.base := by
  unfold State.installMap
  split <;> simp

@[simp] theorem State.onlySettings_base (s : State) (nss creds outs slots : List Nat) :
    (State.onlySettings s nss creds outs slots).base = s.base := by
  unfold State.onlySettings
  simp

@[simp] theorem State.applyChange_base (s : State) (x : SettingsChange) :
    (State.applyChange s x).base = s.base := by
  unfold State.applyChange
  split <;> simp

@[simp] theorem State.afterChange_base (s : State) (x : SettingsChange) :
    (State.afterChange s x).base = s.base := by
  unfold State.afterChange
  split <;> simp

@[simp] theorem State.conclude_base (s : State) (p : PendingChange) :
    (State.conclude s p).base = s.base := by
  have h := foldl_base State.applyChange (fun s a => State.applyChange_base s a) p.changes s
  unfold State.conclude
  rw [foldl_base State.afterChange (fun s a => State.afterChange_base s a)]
  split <;> simp [h]

@[simp] theorem State.config_base (s : State) (c : Cmd) :
    (State.config s c).base = s.base := by
  unfold State.config
  simp

@[simp] theorem State.configure_base (s : State) (c : Cmd) (after : ChangeEnd) (changes : List SettingsChange) :
    (State.configure s c after changes).base = s.base := by
  unfold State.configure
  simp

@[simp] theorem State.configured_base (s : State) (c : Cmd) (k : Comp) (changes : List SettingsChange) :
    (State.configured s c k changes).base = s.base := by
  unfold State.configured
  simp

@[simp] theorem State.settleChange_base (s : State) :
    (State.settleChange s).base = s.base := by
  unfold State.settleChange
  split <;> simp

@[simp] theorem State.inTurn_base (s : State) (row : State → State) (h_row : ∀ a0, (row a0).base = a0.base) :
    (State.inTurn s row).base = s.base := by
  unfold State.inTurn
  simp [h_row]

@[simp] theorem State.issueCas_base (s : State) (why : CasFor) (new : Nat) :
    (State.issueCas s why new).base = s.base := by
  unfold State.issueCas
  simp

@[simp] theorem State.witnessFailed_base (s : State) :
    (State.witnessFailed s).base = s.base := by
  unfold State.witnessFailed
  simp

@[simp] theorem State.witnessOk_base (s : State) (w : Nat) :
    (State.witnessOk s w).base = s.base := by
  unfold State.witnessOk
  simp

@[simp] theorem State.leased_base (s : State) (issued : Nat) :
    (State.leased s issued).base = s.base := by
  unfold State.leased
  simp

@[simp] theorem State.retryDurable_base (s : State) :
    (State.retryDurable s).base = s.base := by
  unfold State.retryDurable
  simp

@[simp] theorem State.setInStep_base (s : State) (on : Bool) :
    (State.setInStep s on).base = s.base := by
  unfold State.setInStep
  simp

@[simp] theorem State.loseMirroring_base (s : State) :
    (State.loseMirroring s).base = s.base := by
  unfold State.loseMirroring
  simp

@[simp] theorem State.modLink_base (s : State) (n : Nat) (f : PairLink → PairLink) :
    (State.modLink s n f).base = s.base := by
  unfold State.modLink
  simp

@[simp] theorem State.linkWarning_base (s : State) :
    (State.linkWarning s).base = s.base := by
  unfold State.linkWarning
  simp

@[simp] theorem State.checkPartner_base (s : State) :
    (State.checkPartner s).base = s.base := by
  unfold State.checkPartner
  simp

@[simp] theorem State.promoted_base (s : State) (w cause : Nat) :
    (State.promoted s w cause).base = s.base := by
  unfold State.promoted
  simp

@[simp] theorem State.startResync_base (s : State) :
    (State.startResync s).base = s.base := by
  unfold State.startResync
  simp

@[simp] theorem State.restartResync_base (s : State) :
    (State.restartResync s).base = s.base := by
  unfold State.restartResync
  simp

@[simp] theorem State.runSwap_base (s : State) (cas : WitnessAnswer) (done : Nat → State → State) (h_done : ∀ a0 a1, (done a0 a1).base = a1.base) :
    (State.runSwap s cas done).base = s.base := by
  unfold State.runSwap
  split <;> simp [h_done]

@[simp] theorem State.append_base (s : State) (k : Comet) (data : Bytes) :
    (State.append s k data).base = s.base := by
  unfold State.append
  simp

@[simp] theorem State.waitCredit_base (s : State) (k : Comet) :
    (State.waitCredit s k).base = s.base := by
  unfold State.waitCredit
  simp

@[simp] theorem State.cometAccess_base (s : State) (k : Comet) :
    (State.cometAccess s k).base = s.base := by
  unfold State.cometAccess
  simp

@[simp] theorem State.addRecord_base (s : State) (k : Comet) (rec : Bytes) (w : HostWrite) (next : Comet → Comet) :
    (State.addRecord s k rec w next).base = s.base := by
  unfold State.addRecord; (try dsimp only)
  (repeat' split) <;> simp

@[simp] theorem State.peerShown_base (s : State) (k : Comet) :
    (State.peerShown s k).base = s.base := by
  unfold State.peerShown
  simp

@[simp] theorem State.notExamined_base (s : State) (k : Comet) (v : Version) (deg : Bool) (lost : Option (Nat × Nat)) (keyLost : Bool) (w : HostWrite) :
    (State.notExamined s k v deg lost keyLost w).base = s.base := by
  unfold State.notExamined
  split <;> simp

@[simp] theorem State.examine_base (s : State) (k : Comet) (v : Version) (deg sealFail : Bool) (computed : Option Bytes) (w : HostWrite) :
    (State.examine s k v deg sealFail computed w).base = s.base := by
  unfold State.examine
  simp

@[simp] theorem State.patternFault_base (s : State) (unit test count : Nat) :
    (State.patternFault s unit test count).base = s.base := by
  unfold State.patternFault
  simp

@[simp] theorem State.sweepReads_base (s : State) (moon : Nat) :
    (State.sweepReads s moon).base = s.base := by
  unfold State.sweepReads
  simp

@[simp] theorem State.resultOf_base (s : State) (k : Comet) (r : ResultBody) (w : HostWrite) :
    (State.resultOf s k r w).base = s.base := by
  unfold State.resultOf
  (repeat' split) <;> simp

@[simp] theorem State.sweepPace_base (s : State) (k : Comet) :
    (State.sweepPace s k).base = s.base := by
  unfold State.sweepPace
  simp

@[simp] theorem State.creditRead_base (s : State) (k : Comet) (consumed : Nat) :
    (State.creditRead s k consumed).base = s.base := by
  unfold State.creditRead
  simp

@[simp] theorem State.exported_base (s : State) (k : Comet) (v : Version) (record : Bool) (rec : Bytes) (hit : Bool) :
    (State.exported s k v record rec hit).base = s.base := by
  unfold State.exported
  simp

@[simp] theorem State.peerOutcome_base (s : State) (k : Comet) (v : Version) (o : PeerOutcome) :
    (State.peerOutcome s k v o).base = s.base := by
  unfold State.peerOutcome
  simp

@[simp] theorem State.queueTag_base (s : State) (a : Nat) (bs : Bytes) :
    (State.queueTag s a bs).base = s.base := by
  unfold State.queueTag
  simp

@[simp] theorem State.writeHealth_base (s : State) :
    (State.writeHealth s).base = s.base := by
  unfold State.writeHealth
  simp

@[simp] theorem State.writeShelf_base (s : State) (body : Bytes) :
    (State.writeShelf s body).base = s.base := by
  unfold State.writeShelf
  simp

@[simp] theorem State.shelve_base (s : State) :
    (State.shelve s).base = s.base := by
  unfold State.shelve
  simp

@[simp] theorem State.startTag_base (s : State) :
    (State.startTag s).base = s.base := by
  unfold State.startTag
  split <;> simp

@[simp] theorem State.admitFetched_base (s : State) (c : Cmd) :
    (State.admitFetched s c).base = s.base := by
  unfold State.admitFetched
  (repeat' split) <;> simp

@[simp] theorem State.adoptDecision_base (s : State) (ref : Nat) (k : DecisionRecord) :
    (State.adoptDecision s ref k).base = s.base := by
  unfold State.adoptDecision
  simp

@[simp] theorem State.fetchOne_base (s : State) (sid ring : Nat) (d : Bytes) :
    (State.fetchOne s sid ring d).base = s.base := by
  unfold State.fetchOne
  (repeat' split) <;> simp

@[simp] theorem State.awaitFetch_base (s : State) (sid ring : Nat) :
    (State.awaitFetch s sid ring).base = s.base := by
  unfold State.awaitFetch
  simp

@[simp] theorem State.askFetch_base (s : State) (sid ring : Nat) :
    (State.askFetch s sid ring).base = s.base := by
  unfold State.askFetch
  split <;> simp

@[simp] theorem State.takeAhead_base (fuel sid ring : Nat) (s : State) :
    (State.takeAhead fuel sid ring s).base = s.base := by
  induction fuel generalizing s with
  | zero => rfl
  | succ fuel ih => unfold State.takeAhead; (repeat' split) <;> simp [ih]

@[simp] theorem State.serveRing_base (s : State) (sid ring : Nat) :
    (State.serveRing s sid ring).base = s.base := by
  unfold State.serveRing; (try dsimp only)
  split <;> simp

@[simp] theorem State.serveWaits_base (s : State) :
    (State.serveWaits s).base = s.base := by
  unfold State.serveWaits
  simp

@[simp] theorem State.goOnFetching_base (s : State) (sid ring : Nat) :
    (State.goOnFetching s sid ring).base = s.base := by
  unfold State.goOnFetching
  simp

@[simp] theorem State.sawProducer_base (s : State) (sid : Nat) (r : Ring) (p : BitVec 32) :
    (State.sawProducer s sid r p).base = s.base := by
  unfold State.sawProducer
  simp

@[simp] theorem State.leaveIdle_base (s : State) (sid : Nat) (r : Ring) (p : BitVec 32) :
    (State.leaveIdle s sid r p).base = s.base := by
  unfold State.leaveIdle
  simp

@[simp] theorem State.markIdle_base (s : State) (sid : Nat) (r : Ring) :
    (State.markIdle s sid r).base = s.base := by
  unfold State.markIdle
  simp

@[simp] theorem State.rereadDone_base (s : State) (sid ring : Nat) (p : BitVec 32) :
    (State.rereadDone s sid ring p).base = s.base := by
  unfold State.rereadDone
  split <;> simp

@[simp] theorem State.idleAll_base (s : State) :
    (State.idleAll s).base = s.base := by
  unfold State.idleAll
  simp

@[simp] theorem State.beginEntry_base (s : State) (p : PState) :
    (State.beginEntry s p).base = s.base := by
  unfold State.beginEntry
  simp

@[simp] theorem State.wakeForWork_base (s : State) :
    (State.wakeForWork s).base = s.base := by
  unfold State.wakeForWork
  simp

@[simp] theorem State.goDown_base (s : State) :
    (State.goDown s).base = s.base := by
  unfold State.goDown
  (repeat' split) <;> simp

@[simp] theorem State.reqPower_base (s : State) (p : PState) : (s.reqPower p).1.base = s.base := by
  unfold State.reqPower; (try dsimp only)
  (repeat' split) <;> simp

@[simp] theorem State.reqCommission_base (s : State) (cause : Nat) : (s.reqCommission cause).1.base = s.base := by
  unfold State.reqCommission; (try dsimp only)
  (repeat' split) <;> simp

@[simp] theorem State.reqService_base (s : State) (cause : Nat) : (s.reqService cause).1.base = s.base := by
  unfold State.reqService; (try dsimp only)
  (repeat' split) <;> simp

@[simp] theorem State.reqServiceExit_base (s : State) (cause : Nat) : (s.reqServiceExit cause).1.base = s.base := by
  unfold State.reqServiceExit; (try dsimp only)
  (repeat' split) <;> simp

@[simp] theorem State.reqLockSet_base (s : State)  : (s.reqLockSet ).1.base = s.base := by
  unfold State.reqLockSet; (try dsimp only)
  (repeat' split) <;> simp

@[simp] theorem State.reqLockClear_base (s : State)  : (s.reqLockClear ).1.base = s.base := by
  unfold State.reqLockClear; (try dsimp only)
  (repeat' split) <;> simp

@[simp] theorem State.reachMedia_base (s : State) (c : Cmd) :
    (State.reachMedia s c).base = s.base := by
  unfold State.reachMedia
  simp

@[simp] theorem State.completeCommitted_base (s : State) (c : Cmd) :
    (State.completeCommitted s c).base = s.base := by
  unfold State.completeCommitted
  simp

@[simp] theorem State.commitOrDiscard_base (s : State) (cause : Nat) (spare : List Nat) :
    (State.commitOrDiscard s cause spare).base = s.base := by
  unfold State.commitOrDiscard
  simp

@[simp] theorem State.finishLast_base (s : State) (ref : Nat) :
    (State.finishLast s ref).base = s.base := by
  unfold State.finishLast
  simp

@[simp] theorem State.beginShutdown_base (s : State) (after : AfterShutdown) (spare : List Nat) :
    (State.beginShutdown s after spare).base = s.base := by
  unfold State.beginShutdown
  simp

@[simp] theorem State.islandsOff_base (s0 : State) :
    (State.islandsOff s0).base = s0.base := by
  unfold State.islandsOff
  simp

@[simp] theorem State.withTurn_base (s : State) (ref : Nat) (p : Bytes → Bool) (k : Cmd → State → State) (h_k : ∀ a0 a1, (k a0 a1).base = a1.base) :
    (State.withTurn s ref p k).base = s.base := by
  unfold State.withTurn
  simp [h_k]

@[simp] theorem modeAnswer_base (c : Cmd) (s : State) (q : State × ReqResult) (h : q.1.base = s.base) :
    (modeAnswer c s q).base = s.base := by
  unfold modeAnswer; split <;> simp [h]

@[simp] theorem powerAnswer_base (c : Cmd) (p : PState) (s : State) :
    (powerAnswer c p s).base = s.base := by
  unfold powerAnswer
  have h := State.reqPower_base s p
  split <;> (try rename_i h1; rw [h1] at h) <;> simp_all

@[simp] theorem State.usbExecuted_base (s : State) (request result : Nat) :
    (State.usbExecuted s request result).base = s.base := by
  unfold State.usbExecuted
  simp

@[simp] theorem State.markWrite_base (s : State) (p : Path) : (s.markWrite p).base = s.base := by
  cases p <;> simp [State.markWrite] <;> (repeat' split) <;> simp

@[simp] theorem State.pathRefuses_base (s : State) (p : Path) : (s.pathRefuses p).base = s.base := by
  cases p <;> simp [State.pathRefuses] <;> (repeat' split) <;> simp

@[simp] theorem State.onPath_base (s : State) (p : Path) (k : State → State) (h_k : ∀ a0, (k a0).base = a0.base) :
    (State.onPath s p k).base = s.base := by
  unfold State.onPath
  simp [h_k]

@[simp] theorem State.reject_base (s : State) (p : Path) (off : Nat) :
    (State.reject s p off).base = s.base := by
  unfold State.reject
  simp

@[simp] theorem State.answerCtrl_base (s : State) (code : Nat) (q : State × ReqResult) (h : q.1.base = s.base) :
    (s.answerCtrl code q).base = s.base := by
  unfold State.answerCtrl; split <;> simp [h]

@[simp] theorem State.ask_base (s : State) (p : Path) (code : Nat) (f : State → State × ReqResult)
    (h : ∀ t, (f t).1.base = t.base) : (s.ask p code f).base = s.base := by
  unfold State.ask
  split <;> simp [State.answerCtrl_base, h]

@[simp] theorem State.control_base (s : State) (p : Path) (code : Nat) (f : State → State × ReqResult)
    (h : ∀ t, (f t).1.base = t.base) : (s.control p code f).base = s.base := by
  unfold State.control
  exact State.onPath_base _ _ _ fun t => State.ask_base t p code f h

@[simp] theorem State.ctrlDone_base (s : State) (codes : List Nat) :
    (State.ctrlDone s codes).base = s.base := by
  unfold State.ctrlDone
  split <;> simp

@[simp] theorem State.reqShutdown_base (s : State) (after : AfterShutdown) : (s.reqShutdown after).1.base = s.base := by
  unfold State.reqShutdown; (try dsimp only)
  (repeat' split) <;> simp

@[simp] theorem State.modFeed_base (s : State) (f : Front) (g : Feed → Feed) :
    (State.modFeed s f g).base = s.base := by
  unfold State.modFeed
  split <;> simp

@[simp] theorem State.clearLatch_base (s : State) (f : Front) :
    (State.clearLatch s f).base = s.base := by
  unfold State.clearLatch
  simp

@[simp] theorem State.reqEfuse_base (s : State) (arg : Nat) : (s.reqEfuse arg).1.base = s.base := by
  unfold State.reqEfuse; (try dsimp only)
  (repeat' split) <;> simp

@[simp] theorem State.askUnknown_base (s : State) (p : Path) (code : Nat) :
    (State.askUnknown s p code).base = s.base := by
  unfold State.askUnknown
  simp

@[simp] theorem nsCreate_base (c : Cmd) (s : State) :
    (nsCreate c s).base = s.base := by
  unfold nsCreate
  split <;> simp

@[simp] theorem nsSet_base (c : Cmd) (s : State) :
    (nsSet c s).base = s.base := by
  unfold nsSet
  simp

@[simp] theorem State.deleteDone_base (s : State) (c : Cmd) (nsid : Nat) :
    (State.deleteDone s c nsid).base = s.base := by
  unfold State.deleteDone
  simp

@[simp] theorem nsDelete_base (c : Cmd) (s : State) :
    (nsDelete c s).base = s.base := by
  unfold nsDelete; (try dsimp only)
  split <;> simp

@[simp] theorem nsQuery_base (w : HostWrite) (c : Cmd) (s : State) :
    (nsQuery w c s).base = s.base := by
  unfold nsQuery; (try dsimp only)
  split <;> simp

@[simp] theorem credCreate_base (r : HostRead) (c : Cmd) (s : State) :
    (credCreate r c s).base = s.base := by
  unfold credCreate
  simp

@[simp] theorem credSetSecret_base (r : HostRead) (c : Cmd) (s : State) :
    (credSetSecret r c s).base = s.base := by
  unfold credSetSecret
  split <;> simp

@[simp] theorem credGrant_base (c : Cmd) (s : State) :
    (credGrant c s).base = s.base := by
  unfold credGrant
  split <;> simp

@[simp] theorem credRevoke_base (c : Cmd) (s : State) :
    (credRevoke c s).base = s.base := by
  unfold credRevoke
  split <;> simp

@[simp] theorem credDelete_base (c : Cmd) (s : State) :
    (credDelete c s).base = s.base := by
  unfold credDelete
  split <;> simp

@[simp] theorem credOutboundSet_base (r : HostRead) (c : Cmd) (s : State) :
    (credOutboundSet r c s).base = s.base := by
  unfold credOutboundSet
  simp

@[simp] theorem credOutboundDelete_base (c : Cmd) (s : State) :
    (credOutboundDelete c s).base = s.base := by
  unfold credOutboundDelete
  simp

@[simp] theorem State.setSlot_base (s : State) (k : KeySlot) :
    (State.setSlot s k).base = s.base := by
  unfold State.setSlot
  simp

@[simp] theorem State.dropSlotKeys_base (s : State) (n : Nat) :
    (State.dropSlotKeys s n).base = s.base := by
  unfold State.dropSlotKeys
  simp

@[simp] theorem State.vaultChecked_base (s : State) :
    (State.vaultChecked s).base = s.base := by
  unfold State.vaultChecked
  simp

@[simp] theorem slotImport_base (r : HostRead) (c : Cmd) (s : State) :
    (slotImport r c s).base = s.base := by
  unfold slotImport
  refine State.unwrapped_base _ _ _ _ _ _ _ ?_
  intro root t; (try dsimp only); split <;> simp

@[simp] theorem slotErase_base (c : Cmd) (s : State) :
    (slotErase c s).base = s.base := by
  unfold slotErase
  simp

@[simp] theorem State.nextGeneration_base (s : State) (n : Nat) :
    (State.nextGeneration s n).base = s.base := by
  unfold State.nextGeneration
  simp

@[simp] theorem slotSetLimit_base (c : Cmd) (s : State) :
    (slotSetLimit c s).base = s.base := by
  unfold slotSetLimit
  simp

@[simp] theorem slotQuery_base (w : HostWrite) (c : Cmd) (s : State) :
    (slotQuery w c s).base = s.base := by
  unfold slotQuery
  simp

@[simp] theorem State.formatDone_base (s : State) (c : Cmd) :
    (State.formatDone s c).base = s.base := by
  unfold State.formatDone
  simp

@[simp] theorem State.formatPoint_base (s : State) (c : Cmd) :
    (State.formatPoint s c).base = s.base := by
  unfold State.formatPoint
  simp

@[simp] theorem State.acknowledge_base (s : State) (mask : Nat) :
    (State.acknowledge s mask).base = s.base := by
  unfold State.acknowledge
  simp

@[simp] theorem State.ageOut_base (s : State) (x : Session) :
    (State.ageOut s x).base = s.base := by
  unfold State.ageOut
  simp

@[simp] theorem State.ageRows_base (s : State) :
    (State.ageRows s).base = s.base := by
  unfold State.ageRows
  simp

@[simp] theorem State.tick_base (s : State) :
    (State.tick s).base = s.base := by
  unfold State.tick
  simp

@[simp] theorem State.nudgeRing_base (s : State) (sid : Nat) (r : Ring) (seen : List (Nat × BitVec 32)) :
    (State.nudgeRing s sid r seen).base = s.base := by
  unfold State.nudgeRing
  simp

@[simp] theorem State.nudged_base (s : State) (x : Session) (imm : BitVec 32) (seen : List (Nat × BitVec 32)) :
    (State.nudged s x imm seen).base = s.base := by
  unfold State.nudged
  (repeat' split) <;> simp

@[simp] theorem State.modHost_base (s : State) (n : Nat) (f : HostPort → HostPort) :
    (State.modHost s n f).base = s.base := by
  unfold State.modHost
  simp

@[simp] theorem State.modLogical_base (s : State) (l : Nat) (f : LPort → LPort) :
    (State.modLogical s l f).base = s.base := by
  unfold State.modLogical
  simp

@[simp] theorem State.modBoot_base (s : State) (f : Bootstrap → Bootstrap) :
    (State.modBoot s f).base = s.base := by
  unfold State.modBoot
  simp

@[simp] theorem State.writeStaged_base (s : State) (p : Path) (off : Nat) (w : Word) :
    (State.writeStaged s p off w).base = s.base := by
  unfold State.writeStaged
  simp

@[simp] theorem State.applyPort_base (s : State) (n : Nat) :
    (State.applyPort s n).base = s.base := by
  unfold State.applyPort
  simp

@[simp] theorem State.announcePort_base (s : State) (l : Nat) :
    (State.announcePort s l).base = s.base := by
  unfold State.announcePort
  simp

@[simp] theorem State.applyAddress_base (s : State) (l : Nat) :
    (State.applyAddress s l).base = s.base := by
  unfold State.applyAddress
  simp

@[simp] theorem State.applyBoot_base (s : State) :
    (State.applyBoot s).base = s.base := by
  unfold State.applyBoot
  simp

@[simp] theorem State.bootApply_base (s : State) (expectSeq : Nat) :
    (State.bootApply s expectSeq).base = s.base := by
  unfold State.bootApply
  simp

@[simp] theorem State.discard_base (s : State) (p : Path) (g : StageGroup) : (s.discard p g).base = s.base := by
  cases g <;> simp [State.discard] <;> (repeat' split) <;> simp

@[simp] theorem State.onSetup_base (s : State) (sid : Nat) (k : State → Session → State) (h_k : ∀ a0 a1, (k a0 a1).base = a0.base) :
    (State.onSetup s sid k).base = s.base := by
  unfold State.onSetup
  split <;> simp [h_k]

@[simp] theorem State.setupEnable_base (s : State) (x : Session) :
    (State.setupEnable s x).base = s.base := by
  unfold State.setupEnable
  simp

@[simp] theorem State.setupResume_base (s : State) (x : Session) :
    (State.setupResume s x).base = s.base := by
  unfold State.setupResume
  (repeat' split) <;> simp

@[simp] theorem State.setupReset_base (s : State) (x : Session) :
    (State.setupReset s x).base = s.base := by
  unfold State.setupReset
  simp

@[simp] theorem State.windowOpen_base (s : State) (x : Session) :
    (State.windowOpen s x).base = s.base := by
  unfold State.windowOpen
  simp

@[simp] theorem State.setupControl_base (s : State) (sid w : Nat) :
    (State.setupControl s sid w).base = s.base := by
  unfold State.setupControl
  (repeat' split) <;> simp

@[simp] theorem State.writeSetup_base (s : State) (sid off w : Nat) :
    (State.writeSetup s sid off w).base = s.base := by
  unfold State.writeSetup
  (repeat' split) <;> simp

@[simp] theorem State.modComp_base (s : State) (n : Nat) (f : Component → Component) :
    (State.modComp s n f).base = s.base := by
  unfold State.modComp
  simp

@[simp] theorem State.commitImage_base (s : State) (n : Nat) (who : BankOwner) (digest : Bytes) :
    (s.commitImage n who digest).1.base = s.base := by
  unfold State.commitImage; split <;> simp

@[simp] theorem State.applyLater_base (s : State) (n : Nat) :
    (State.applyLater s n).base = s.base := by
  unfold State.applyLater
  simp

@[simp] theorem State.commitInBand_base (s : State) (c : Cmd) (next : Nat → Nat → State → State) (h_next : ∀ a0 a1 a2, (next a0 a1 a2).base = a2.base) :
    (State.commitInBand s c next).base = s.base := by
  unfold State.commitInBand; dsimp only
  (repeat' split) <;> (try simp)
  · rename_i h1; have h := State.commitImage_base s (bitsOf (byteAt c.desc 8) 0 2) (s.sender c) (slice c.desc 16 48)
    rw [h1] at h; exact h
  · rename_i h1; have h := State.commitImage_base s (bitsOf (byteAt c.desc 8) 0 2) (s.sender c) (slice c.desc 16 48)
    rw [h1] at h; rw [h_next]; exact h

@[simp] theorem State.startFormats_base (s : State) :
    (State.startFormats s).base = s.base := by
  unfold State.startFormats
  simp

@[simp] theorem State.migrateMedia_base (s : State) :
    (State.migrateMedia s).base = s.base := by
  unfold State.migrateMedia
  simp

@[simp] theorem State.migrateConfirm_base (s : State) :
    (State.migrateConfirm s).base = s.base := by
  unfold State.migrateConfirm
  simp

@[simp] theorem State.modIsland_base (s : State) (i : Island) (f : IslandState → IslandState) :
    (State.modIsland s i f).base = s.base := by
  unfold State.modIsland
  simp

@[simp] theorem State.setLevel_base (s : State) (i : Island) (level : Nat) :
    (State.setLevel s i level).base = s.base := by
  unfold State.setLevel
  simp

@[simp] theorem State.holdOver_base (s : State) :
    (State.holdOver s).base = s.base := by
  unfold State.holdOver
  simp

@[simp] theorem State.timeLost_base (s : State) :
    (State.timeLost s).base = s.base := by
  unfold State.timeLost
  simp

@[simp] theorem State.fatalFault_base (s : State) (cause : Nat) :
    (State.fatalFault s cause).base = s.base := by
  unfold State.fatalFault
  simp

@[simp] theorem State.rebuildWarning_base (s : State) :
    (State.rebuildWarning s).base = s.base := by
  unfold State.rebuildWarning
  simp

@[simp] theorem State.startRebuild_base (s : State) (moon : Nat) (die channel : Option Nat) :
    (State.startRebuild s moon die channel).base = s.base := by
  unfold State.startRebuild
  simp

theorem chooseSubstitute_base (m : Nat) (st : State × Substitutes) (e : Extent) :
    (chooseSubstitute m st e).1.base = st.1.base := by
  unfold chooseSubstitute; split <;> simp

theorem chooseSubstitutes_base (m : Nat) (l : List Extent) (st : State × Substitutes) :
    (l.foldl (chooseSubstitute m) st).1.base = st.1.base := by
  induction l generalizing st with
  | nil => rfl
  | cons a l ih => simp [ih, chooseSubstitute_base]

@[simp] theorem State.restage_base (s : State) (m : Nat) :
    (State.restage s m).base = s.base := by
  unfold State.restage; dsimp only; simp [chooseSubstitutes_base]

@[simp] theorem State.relookup_base (s : State) (m : Nat) :
    (State.relookup s m).base = s.base := by
  unfold State.relookup
  first
  | ((repeat' split) <;> simp; done)
  | ((repeat' split) <;> (try simp) <;>
      (rw [foldl_base _ (by intro s a; (repeat' split) <;> simp)]) <;> simp)

@[simp] theorem State.moonOut_base (s : State) (m lost byte : Nat) (rebuild : Bool) :
    (State.moonOut s m lost byte rebuild).base = s.base := by
  unfold State.moonOut
  split <;> simp

@[simp] theorem State.moonUp_base (s : State) (m : Nat) :
    (State.moonUp s m).base = s.base := by
  unfold State.moonUp
  simp

@[simp] theorem State.moonBack_base (s : State) (m : Nat) :
    (State.moonBack s m).base = s.base := by
  unfold State.moonBack
  simp

@[simp] theorem State.afresh_base (s : State) (c : Cmd) :
    (State.afresh s c).base = s.base := by
  unfold State.afresh
  simp

@[simp] theorem State.regrant_base (s : State) (c : Cmd) :
    (State.regrant s c).base = s.base := by
  unfold State.regrant
  simp

@[simp] theorem State.carryAway_base (s : State) (l : Nat) (on : Bool) :
    (State.carryAway s l on).base = s.base := by
  unfold State.carryAway
  simp

@[simp] theorem State.portsDark_base (s : State) (f : Front) :
    (State.portsDark s f).base = s.base := by
  unfold State.portsDark
  simp

@[simp] theorem State.sequencerTakeover_base (s : State) (f : Front) :
    (State.sequencerTakeover s f).base = s.base := by
  unfold State.sequencerTakeover
  simp

@[simp] theorem State.rereadValue_base (s : State) (c : Cmd) :
    (State.rereadValue s c).base = s.base := by
  unfold State.rereadValue
  simp

@[simp] theorem State.rewriteComp_base (s : State) (u : Nat × Nat) :
    (State.rewriteComp s u).base = s.base := by
  unfold State.rewriteComp; (try dsimp only)
  split <;> simp

@[simp] theorem State.frontOut_base (s : State) (f : Front) (lost byte : Nat) (unacked : List (Nat × Nat)) :
    (State.frontOut s f lost byte unacked).base = s.base := by
  unfold State.frontOut
  split <;> simp

@[simp] theorem State.handShard_base (s : State) (n : Nat) :
    (State.handShard s n).base = s.base := by
  unfold State.handShard
  simp

@[simp] theorem State.frontBack_base (s : State) (f : Front) :
    (State.frontBack s f).base = s.base := by
  unfold State.frontBack
  simp

@[simp] theorem State.enterWanted_base (s : State) :
    (State.enterWanted s).base = s.base := by
  unfold State.enterWanted
  split <;> simp

@[simp] theorem State.entered_base (s : State) (p : PState) :
    (State.entered s p).base = s.base := by
  unfold State.entered
  simp

@[simp] theorem State.invalidateMaps_base (s : State) :
    (State.invalidateMaps s).base = s.base := by
  unfold State.invalidateMaps
  simp

@[simp] theorem State.logStart_base (s : State) (k : StartKind) :
    (State.logStart s k).base = s.base := by
  unfold State.logStart
  split <;> simp

@[simp] theorem State.unstage_base (s : State) :
    (State.unstage s).base = s.base := by
  unfold State.unstage
  simp

@[simp] theorem State.beginStart_base (s : State) (k : StartKind) (step : Nat) (retry : Bool) :
    (State.beginStart s k step retry).base = s.base := by
  unfold State.beginStart
  simp

@[simp] theorem State.saveReads_base (s : State) :
    (State.saveReads s).base = s.base := by
  unfold State.saveReads
  simp

@[simp] theorem State.checkpoint_base (s : State) :
    (State.checkpoint s).base = s.base := by
  unfold State.checkpoint
  simp

@[simp] theorem State.coldReset_base (s : State) :
    (State.coldReset s).base = s.base := by
  unfold State.coldReset
  simp

@[simp] theorem State.untrip_base (s : State) :
    (State.untrip s).base = s.base := by
  unfold State.untrip
  first
  | ((repeat' split) <;> simp; done)
  | ((repeat' split) <;> (try simp) <;>
      (rw [foldl_base _ (by intro s a; (repeat' split) <;> simp)]) <;> simp)

@[simp] theorem State.startFromThree_base (s : State) :
    (State.startFromThree s).base = s.base := by
  unfold State.startFromThree
  simp

@[simp] theorem State.reqCold_base (s : State)  : (s.reqCold ).1.base = s.base := by
  unfold State.reqCold; (try dsimp only)
  (repeat' split) <;> simp

@[simp] theorem State.writeControl_base (s : State) (p : Path) (w : Nat) :
    (State.writeControl s p w).base = s.base := by
  unfold State.writeControl; (try dsimp only)
  split <;> simp

@[simp] theorem State.coldBanks_base (s : State) :
    (State.coldBanks s).base = s.base := by
  unfold State.coldBanks
  simp

@[simp] theorem State.startFromBank_base (s : State) :
    (State.startFromBank s).base = s.base := by
  unfold State.startFromBank
  simp

@[simp] theorem State.powerIslands_base (s : State) :
    (State.powerIslands s).base = s.base := by
  unfold State.powerIslands
  simp

@[simp] theorem State.trialOver_base (s : State) (n : Nat) :
    (State.trialOver s n).base = s.base := by
  unfold State.trialOver
  simp

@[simp] theorem State.loadKeys_base (s : State) :
    (State.loadKeys s).base = s.base := by
  unfold State.loadKeys
  simp

@[simp] theorem State.loseMissed_base (s : State) (f : StartFacts) (v : Version) :
    (State.loseMissed s f v).base = s.base := by
  unfold State.loseMissed
  simp

@[simp] theorem State.loseRecord_base (s : State) (v : Version) :
    (State.loseRecord s v).base = s.base := by
  unfold State.loseRecord
  simp

@[simp] theorem State.rebuildBands_base (s : State) (f : StartFacts) (m : Nat) :
    (State.rebuildBands s f m).base = s.base := by
  unfold State.rebuildBands
  simp

@[simp] theorem State.scanMoon_base (f : StartFacts) (s : State) (m : Nat) :
    (State.scanMoon f s m).base = s.base := by
  unfold State.scanMoon
  simp

@[simp] theorem State.loadMap_base (s : State) (m : Nat) :
    (State.loadMap s m).base = s.base := by
  unfold State.loadMap
  simp

@[simp] theorem State.noteRecovery_base (s : State) (moons : List Nat) (unreadable : Nat) :
    (State.noteRecovery s moons unreadable).base = s.base := by
  unfold State.noteRecovery
  simp

@[simp] theorem State.restartReads_base (s : State) :
    (State.restartReads s).base = s.base := by
  unfold State.restartReads
  simp

@[simp] theorem State.recoverJournals_base (s : State) (f : StartFacts) :
    (State.recoverJournals s f).base = s.base := by
  unfold State.recoverJournals
  simp

@[simp] theorem State.recoverMaps_base (s : State) (f : StartFacts) :
    (State.recoverMaps s f).base = s.base := by
  unfold State.recoverMaps
  simp

@[simp] theorem State.advanceAges_base (s : State) (ms : Nat) :
    (State.advanceAges s ms).base = s.base := by
  unfold State.advanceAges
  simp

@[simp] theorem State.applyShelf_base (s : State) :
    (State.applyShelf s).base = s.base := by
  unfold State.applyShelf
  split <;> simp

@[simp] theorem State.renewCauses_base (s : State) :
    (State.renewCauses s).base = s.base := by
  unfold State.renewCauses
  simp

@[simp] theorem State.renewWarnings_base (s : State) :
    (State.renewWarnings s).base = s.base := by
  unfold State.renewWarnings
  simp

@[simp] theorem State.holdAtT0_base (s : State) :
    (State.holdAtT0 s).base = s.base := by
  unfold State.holdAtT0
  simp

@[simp] theorem State.resumeMode_base (s : State) (cause : Nat) :
    (State.resumeMode s cause).base = s.base := by
  unfold State.resumeMode
  split <;> simp

@[simp] theorem State.startDone_base (s : State) (coldest : Int) :
    (State.startDone s coldest).base = s.base := by
  unfold State.startDone
  simp

@[simp] theorem State.sampleSlot_base (s : State) :
    (State.sampleSlot s).base = s.base := by
  unfold State.sampleSlot
  simp

@[simp] theorem State.startStepDone_base (s : State) (n : Nat) (f : StartFacts) :
    (State.startStepDone s n f).base = s.base := by
  unfold State.startStepDone
  split <;> simp

@[simp] theorem State.wakeFailed_base (s : State) (u : UnitId) (island : Nat) (osc : Bool) (attempts : Nat) :
    (State.wakeFailed s u island osc attempts).base = s.base := by
  unfold State.wakeFailed
  split <;> simp

@[simp] theorem State.setAttempts_base (s : State) (u : UnitId) (island n : Nat) (osc : Bool) :
    (State.setAttempts s u island n osc).base = s.base := by
  unfold State.setAttempts
  simp

@[simp] theorem State.programCharge_base (s : State) (q : Charge) :
    (State.programCharge s q).base = s.base := by
  unfold State.programCharge
  split <;> simp

@[simp] theorem State.programCharges_base (s : State) : s.programCharges.base = s.base := by
  unfold State.programCharges; dsimp only
  rw [foldl_base _ (fun s o => foldl_base _ (fun s e => by simp) _ _), foldl_base _ (fun s c => by simp),
    foldl_base _ (fun s q => by simp)]

@[simp] theorem State.snap_base (s0 : State) (p : Path) (link : LinkId) :
    (State.snap s0 p link).base = s0.base := by
  unfold State.snap
  simp

@[simp] theorem State.setPpsSeconds_base (s : State) (seconds : Nat) :
    (State.setPpsSeconds s seconds).base = s.base := by
  unfold State.setPpsSeconds
  simp

@[simp] theorem State.setTimeSource_base (s : State) (source port : Nat) :
    (State.setTimeSource s source port).base = s.base := by
  unfold State.setTimeSource
  simp

@[simp] theorem State.putReg_base (s : State) (p : Path) (off : Nat) (ok : Bool) (f : Settings → Settings) :
    (State.putReg s p off ok f).base = s.base := by
  unfold State.putReg
  simp

@[simp] theorem State.writeApply_base (s : State) (p : Path) (g : StageGroup) (w : Nat) :
    (State.writeApply s p g w).base = s.base := by
  unfold State.writeApply
  (repeat' split) <;> simp

@[simp] theorem State.writeSelect_base (s : State) (p : Path) (w : Nat) :
    (State.writeSelect s p w).base = s.base := by
  unfold State.writeSelect
  simp

@[simp] theorem State.writeWord_base (s : State) (p : Path) (off : Nat) (w : Word) :
    (State.writeWord s p off w).base = s.base := by
  unfold State.writeWord
  (repeat' split) <;> simp

@[simp] theorem State.writeWords_base (s : State) (p : Path) (off : Nat) (ws : List Word) :
    (s.writeWords p off ws).base = s.base := by
  induction ws generalizing s off with
  | nil => rfl
  | cons w ws ih => simp [State.writeWords, ih]

@[simp] theorem State.badTransfer_base (s : State) (p : Path) : (s.badTransfer p).base = s.base := by
  cases p <;> simp [State.badTransfer] <;> (repeat' split) <;> simp

@[simp] theorem State.mgmtStop_base (s : State) :
    (State.mgmtStop s).base = s.base := by
  unfold State.mgmtStop
  simp

@[simp] theorem State.mgmtBack_base (s : State) :
    (State.mgmtBack s).base = s.base := by
  unfold State.mgmtBack
  simp

@[simp] theorem State.computeWindow_base (s : State) :
    (State.computeWindow s).base = s.base := by
  unfold State.computeWindow
  simp

@[simp] theorem State.modString_base (s : State) (i : Nat) (f : HoldString → HoldString) :
    (State.modString s i f).base = s.base := by
  unfold State.modString
  simp

@[simp] theorem State.stringOut_base (s : State) (i : Nat) :
    (State.stringOut s i).base = s.base := by
  unfold State.stringOut
  split <;> simp

@[simp] theorem State.measure_base (s : State) (f : Nat → HoldString → HoldString) :
    (State.measure s f).base = s.base := by
  unfold State.measure
  simp

@[simp] theorem State.stringsOut_base (s : State) (p : Nat → Bool) :
    (State.stringsOut s p).base = s.base := by
  unfold State.stringsOut
  simp

@[simp] theorem State.declareLoss_base (s : State) :
    (State.declareLoss s).base = s.base := by
  unfold State.declareLoss
  simp

@[simp] theorem State.loseFeed_base (s : State) (f : Front) :
    (State.loseFeed s f).base = s.base := by
  unfold State.loseFeed
  simp

@[simp] theorem State.flushed_base (s : State) :
    (State.flushed s).base = s.base := by
  unfold State.flushed
  simp

@[simp] theorem State.leaveShort_base (s : State) (v : Version) :
    (State.leaveShort s v).base = s.base := by
  unfold State.leaveShort
  simp

@[simp] theorem State.channelsOut_base (s : State) (m : Nat) (cs : List Nat) :
    (State.channelsOut s m cs).base = s.base := by
  unfold State.channelsOut
  split <;> simp

@[simp] theorem State.tripLoss_base (s : State) (unacked : List (Nat × Nat)) (i : Island) :
    (s.tripLoss unacked i).base = s.base := by
  cases i <;> simp [State.tripLoss]

@[simp] theorem State.tripBack_base (s : State) (i : Island) : (s.tripBack i).base = s.base := by
  cases i <;> simp [State.tripBack] <;> (repeat' split) <;> simp

@[simp] theorem State.retireFree_base (s t : State) (moon : Nat) (dies : List Nat) : (s.retireFree t moon dies).base = t.base := by
  unfold State.retireFree; dsimp only; simp

@[simp] theorem State.notePlace_base (s : State) (p : Page) :
    (State.notePlace s p).base = s.base := by
  unfold State.notePlace
  simp

@[simp] theorem State.writeAgain_base (s : State) (target : BlockId) (rebuilt : Bool) (p : Page) :
    (State.writeAgain s target rebuilt p).base = s.base := by
  unfold State.writeAgain
  simp

@[simp] theorem State.movePlaces_base (s : State) (b r : BlockId) (rebuilt : Bool) :
    (State.movePlaces s b r rebuilt).base = s.base := by
  unfold State.movePlaces
  simp

@[simp] theorem State.retire_base (s : State) (b : Block) (row : Nat) (inBand : Bool) :
    (State.retire s b row inBand).base = s.base := by
  unfold State.retire
  split <;> simp

@[simp] theorem State.eraseBlocks_base (s : State) (ids : List BlockId) :
    (State.eraseBlocks s ids).base = s.base := by
  unfold State.eraseBlocks
  simp

theorem State.takeSpare_base (s : State) (moon : Nat) (r : State × BlockId) (h : s.takeSpare moon = some r) : r.1.base = s.base := by
  simp only [State.takeSpare, Option.map_eq_some_iff] at h
  obtain ⟨d, -, rfl⟩ := h; simp

theorem State.bandTakes_base (use : SpareUse) (s : State) (moon : Nat) (r : State × BlockId)
    (h : State.bandTakes use s moon = some r) : r.1.base = s.base := by
  have free : ∀ b, (s.pickBlock moon).map (fun b => (s, b.id)) = some b → b.1.base = s.base := by
    intro b g; simp only [Option.map_eq_some_iff] at g; obtain ⟨_, -, rfl⟩ := g; rfl
  unfold State.bandTakes at h; cases use <;> simp only [Option.or_eq_some_iff] at h
  · exact free _ h
  · exact h.elim (free _) fun g => s.takeSpare_base _ _ g.2
  · exact h.elim (s.takeSpare_base _ _) fun g => free _ g.2

theorem bandTakes_foldlM_base (use : SpareUse) (l : List Nat) (st : State × List BlockId) (r : State × List BlockId)
    (h : l.foldlM (fun (st : State × List BlockId) m => (State.bandTakes use st.1 m).map fun r => (r.1, st.2 ++ [r.2])) st = some r) :
    r.1.base = st.1.base := by
  induction l generalizing st with
  | nil => cases h; rfl
  | cons a l ih =>
    simp only [List.foldlM_cons, Option.bind_eq_bind, Option.bind_eq_some_iff, Option.map_eq_some_iff] at h
    obtain ⟨u, ⟨q, h1, rfl⟩, h2⟩ := h
    exact (ih _ h2).trans (State.bandTakes_base _ _ _ _ h1)

theorem State.openBand_base (s : State) (use : SpareUse) (n : Nat) (t : State) (h : s.openBand use n = some t) :
    t.base = s.base := by
  simp only [State.openBand, Option.map_eq_some_iff] at h
  obtain ⟨st, h1, rfl⟩ := h
  have g := bandTakes_foldlM_base _ _ _ _ h1
  simp only [base_mk, base_fold]
  exact (foldl_base State.startBlock (fun s i => by simp) _ _).trans g

theorem State.targetBand_base (s : State) (use : SpareUse) (avoid : Option Nat) (t : State) (h : s.targetBand use avoid = some t) :
    t.base = s.base := by
  unfold State.targetBand at h
  split at h
  · exact s.openBand_base _ _ t h
  · split at h
    · exact s.openBand_base _ _ t h
    · cases h; rfl

theorem State.placeFor_base (s : State) (use : SpareUse) (avoid : Option Nat) (home : Nat) (d : State × Nat × Nat)
    (h : s.placeFor use avoid home = some d) : d.1.base = s.base := by
  simp only [State.placeFor, Option.bind_eq_some_iff] at h
  obtain ⟨s1, h1, h⟩ := h
  split at h
  · cases h; exact s.targetBand_base _ _ _ h1
  · simp only [Option.bind_eq_some_iff, Option.map_eq_some_iff] at h
    obtain ⟨s2, h2, p, -, rfl⟩ := h
    exact (s1.openBand_base _ _ _ h2).trans (s.targetBand_base _ _ _ h1)

@[simp] theorem State.settleStripes_base (s : State) :
    (State.settleStripes s).base = s.base := by
  unfold State.settleStripes
  simp

@[simp] theorem State.noFreeBlock_base (s : State) :
    (State.noFreeBlock s).base = s.base := by
  unfold State.noFreeBlock
  simp

@[simp] theorem State.recrypt_base (s : State) (v : Version) (pages : List Nat) :
    (s.recrypt v pages).1.base = s.base := by
  unfold State.recrypt; split
  · suffices h : ∀ p : State × Version, (pages.foldl (fun (p : State × Version) k =>
        if p.2.gens[k]? = some (p.1.genOf v.slot) then p
        else
          let s1 := p.1.useBlocks v.home v.slot (pageBlocks v.key (v.value.getD []).length k)
          (s1, { p.2 with gens := p.2.gens.set k (s1.genOf v.slot) })) p).1.base = p.1.base from h _
    induction pages with
    | nil => intro p; rfl
    | cons a l ih => intro p; rw [List.foldl_cons, ih]; split <;> simp
  · rfl

@[simp] theorem State.setVersion_base (s : State) (v : Version) :
    (State.setVersion s v).base = s.base := by
  unfold State.setVersion
  simp

@[simp] theorem State.noteMove_base (s : State) (v : Version) (k : Nat) :
    (State.noteMove s v k).base = s.base := by
  unfold State.noteMove
  simp

@[simp] theorem State.recryptAll_base (s : State) (us : List Version) (k : Nat) (area : Bytes) :
    (s.recryptAll us k area).1.base = s.base := by
  have g : ∀ (l : List Version) (st : State × List Version), (l.foldl (fun (st : State × List Version) u =>
      let q := st.1.recrypt u [k]
      (q.1, st.2 ++ [q.2])) st).1.base = st.1.base := by
    intro l; induction l with
    | nil => intro st; rfl
    | cons a l ih => intro st; rw [List.foldl_cons, ih]; simp
  unfold State.recryptAll; dsimp only; split <;> exact g us (s, [])

@[simp] theorem State.noteMoves_base (s : State) (us : List Version) (k : Nat) :
    (State.noteMoves s us k).base = s.base := by
  unfold State.noteMoves
  simp

theorem State.movePage_base (s : State) (use : SpareUse) (avoid : Option Nat) (v : Version) (k : Nat) (t : State)
    (h : s.movePage use avoid v k = some t) : t.base = s.base := by
  simp only [State.movePage, Option.map_eq_some_iff] at h
  obtain ⟨d, h1, rfl⟩ := h
  rw [← s.placeFor_base _ _ _ _ h1]
  split <;> simp

theorem State.moveMap_base (s : State) (use : SpareUse) (avoid : Option Nat) (p : Page) (t : State)
    (h : s.moveMap use avoid p = some t) : t.base = s.base := by
  simp only [State.moveMap, Option.map_eq_some_iff] at h
  obtain ⟨d, h1, rfl⟩ := h
  rw [← s.placeFor_base _ _ _ _ h1]
  simp

theorem moveEach_base {α : Type} (step : State → α → Option State) (h : ∀ s a t, step s a = some t → t.base = s.base)
    (s : State) (work : List α) : (moveEach step s work).1.base = s.base := by
  unfold moveEach
  suffices g : ∀ st : State × Bool, (work.foldl (fun st w => if !st.2 then st else match step st.1 w with
      | some s1 => (s1, true)
      | none => (st.1, false)) st).1.base = st.1.base from g _
  induction work with
  | nil => intro st; rfl
  | cons a l ih =>
    intro st; rw [List.foldl_cons, ih]; split
    · rfl
    · split
      · rename_i h1; exact h _ _ _ h1
      · rfl

theorem State.moveFrom_base (use : SpareUse) (n : Nat) (s : State) (w : Version × Nat) (t : State)
    (h : State.moveFrom use n s w = some t) : t.base = s.base := by
  unfold State.moveFrom at h; dsimp only at h; split at h
  · exact s.movePage_base _ _ _ _ _ h
  · cases h; rfl

@[simp] theorem State.emptyBand_base (s : State) (use : SpareUse) (n : Nat) : (s.emptyBand use n).1.base = s.base := by
  have h1 := moveEach_base (State.moveFrom use n) (State.moveFrom_base use n) s (s.bandWork n)
  have h2 := fun t : State => moveEach_base (fun s p => s.moveMap use (some n) p) (fun s p t h => s.moveMap_base _ _ _ t h) t (s.bandMaps n)
  unfold State.emptyBand; dsimp only; split
  · exact (h2 _).trans h1
  · exact h1

@[simp] theorem State.eraseBand_base (s : State) (b : Band) :
    (State.eraseBand s b).base = s.base := by
  unfold State.eraseBand
  simp

@[simp] theorem State.eraseLeft_base (s : State) :
    (State.eraseLeft s).base = s.base := by
  unfold State.eraseLeft
  simp

@[simp] theorem State.relocate_base (s : State) (use : SpareUse) (b : Band) :
    (State.relocate s use b).base = s.base := by
  unfold State.relocate
  simp

@[simp] theorem State.rescuePage_base (s : State) (v : Version) (off n : Nat) :
    (State.rescuePage s v off n).base = s.base := by
  unfold State.rescuePage; dsimp only
  split
  · rfl
  · split
    · split
      · rename_i h; simp [State.settleStripes_base, State.movePage_base _ _ _ _ _ _ h]
      · simp
    · simp

@[simp] theorem State.rereadPage_base (s : State) (v : Version) (off n times : Nat) :
    (State.rereadPage s v off n times).base = s.base := by
  unfold State.rereadPage
  split <;> simp

@[simp] theorem State.relocateAll_base (s : State) (use : SpareUse) (ns : List Nat) :
    (State.relocateAll s use ns).base = s.base := by
  unfold State.relocateAll
  first
  | ((repeat' split) <;> simp; done)
  | ((repeat' split) <;> (try simp) <;>
      (rw [foldl_base _ (by intro s a; (repeat' split) <;> simp)]) <;> simp)

@[simp] theorem State.pagesTried_base (s : State) (c : Cmd) (v : Version) (o : PageOutcome) : (s.pagesTried c v o).base = s.base := by
  cases o <;> simp [State.pagesTried]

@[simp] theorem State.mapPageTried_base (s : State) (v : Version) (o : PageOutcome) :
    (State.mapPageTried s v o).base = s.base := by
  unfold State.mapPageTried; dsimp only
  split
  · rfl
  · split
    · exact foldl_base _ (fun s _ => by simp) _ _
    · split
      · split
        · rename_i h; simp [State.moveMap_base _ _ _ _ _ h]
        · simp
      · simp
    · rfl

@[simp] theorem State.readResult_base (s : State) (k : Comet) (r : ResultBody) :
    (State.readResult s k r).base = s.base := by
  unfold State.readResult
  split <;> simp

@[simp] theorem State.placeAnew_base (s : State) (e : Extent) :
    (State.placeAnew s e).base = s.base := by
  unfold State.placeAnew
  simp

@[simp] theorem State.exchange_base (s : State) (p : PageOwner) (e : Extent) (x : CrcExchange) :
    (State.exchange s p e x).base = s.base := by
  unfold State.exchange
  split <;> simp

@[simp] theorem State.programAt_base (s : State) (k : SlcProgram) (p : PageOwner) (e : Extent) (js : List (Nat × SlcJob)) :
    (State.programAt s k p e js).base = s.base := by
  unfold State.programAt; dsimp only
  split <;> split <;> (try split) <;> (try simp) <;>
    (rw [foldl_base _ (fun s x => by simp)]) <;> simp <;> (rw [foldl_base _ (fun s x => by simp)]) <;> simp

@[simp] theorem State.eraseSlc_base (s : State) (i : BlockId) :
    (State.eraseSlc s i).base = s.base := by
  unfold State.eraseSlc; (try dsimp only)
  (repeat' split) <;> simp

@[simp] theorem State.eraseEmpty_base (s : State) (i : BlockId) :
    (State.eraseEmpty s i).base = s.base := by
  unfold State.eraseEmpty
  simp

@[simp] theorem State.releaseSlc_base (s : State) (gone : Page → Bool) :
    (State.releaseSlc s gone).base = s.base := by
  unfold State.releaseSlc
  simp

theorem State.bandFor_base (s : State) (n : Nat) (t : State) (h : s.bandFor n = some t) : t.base = s.base := by
  unfold State.bandFor at h
  split at h
  · split at h <;> cases h; rfl
  · exact s.openBand_base _ _ t h

theorem State.foldPage_base (n : Nat) (s : State) (obj : Nat) (t : State) (h : State.foldPage n s obj = some t) :
    t.base = s.base := by
  simp only [State.foldPage, Option.bind_eq_some_iff] at h
  obtain ⟨v, -, h⟩ := h
  split at h
  · cases h
  · cases h; simp; split <;> simp

@[simp] theorem State.writeMap_base (s : State) (n moon page : Nat) :
    (State.writeMap s n moon page).base = s.base := by
  unfold State.writeMap
  simp

theorem State.fillStripe_base (n : Nat) (s : State) (f : StripeFill) (t : State) (h : State.fillStripe n s f = some t) :
    t.base = s.base := by
  unfold State.fillStripe at h; split at h
  · exact State.foldPage_base _ _ _ _ h
  · split at h <;> cases h; simp

theorem fillStripes_base (n : Nat) (l : List StripeFill) (s t : State) (h : l.foldlM (State.fillStripe n) s = some t) :
    t.base = s.base := by
  induction l generalizing s with
  | nil => cases h; rfl
  | cons a l ih =>
    simp only [List.foldlM_cons, Option.bind_eq_bind, Option.bind_eq_some_iff] at h
    obtain ⟨u, h1, h2⟩ := h
    exact (ih u h2).trans (State.fillStripe_base _ _ _ _ h1)

@[simp] theorem State.pruneCkpts_base (s : State) :
    (State.pruneCkpts s).base = s.base := by
  unfold State.pruneCkpts
  simp

@[simp] theorem State.queueBlock_base (s : State) (b : Block) (rank : Nat) :
    (State.queueBlock s b rank).base = s.base := by
  unfold State.queueBlock
  (repeat' split) <;> simp

@[simp] theorem State.writeBack_base (moon fuel : Nat) (s : State) : (State.writeBack moon fuel s).base = s.base := by
  induction fuel generalizing s with
  | zero => rfl
  | succ fuel ih =>
    unfold State.writeBack; (repeat' split) <;> (try simp [ih])
    rename_i h; rw [s.placeFor_base _ _ _ _ h]

@[simp] theorem State.tickDie_base (s : State) (t : Nat × Nat × Int) :
    (State.tickDie s t).base = s.base := by
  unfold State.tickDie
  simp

@[simp] theorem State.hottest_base (s : State) (temps : List (Nat × Nat × Int)) (m : Nat) :
    (State.hottest s temps m).base = s.base := by
  unfold State.hottest
  split <;> simp

@[simp] theorem State.heat_base (s : State) (moons : List Nat) :
    (State.heat s moons).base = s.base := by
  unfold State.heat
  simp

@[simp] theorem State.coldReading_base (s : State) (sound : List (Nat × Nat × Int)) :
    (State.coldReading s sound).base = s.base := by
  unfold State.coldReading
  split <;> simp

@[simp] theorem State.readSample_base (s : State) (i : BlockId) (x : Sample) :
    (State.readSample s i x).base = s.base := by
  unfold State.readSample; (try dsimp only)
  (repeat' split) <;> simp

@[simp] theorem State.losePage_base (s : State) (p : Page) :
    (State.losePage s p).base = s.base := by
  unfold State.losePage
  simp

@[simp] theorem State.rebuildPage_base (s : State) (p : Page) :
    (State.rebuildPage s p).base = s.base := by
  unfold State.rebuildPage
  (repeat' split) <;> simp

@[simp] theorem State.finding_base (s : State) (i : BlockId) (c : SampleClass) :
    (State.finding s i c).base = s.base := by
  unfold State.finding
  simp

@[simp] theorem State.substituteAll_base (s : State) (moon : Nat) (die channel : Option Nat) :
    (State.substituteAll s moon die channel).base = s.base := by
  unfold State.substituteAll
  simp

@[simp] theorem State.dropMoonSamples_base (s : State) (moon : Nat) :
    (State.dropMoonSamples s moon).base = s.base := by
  unfold State.dropMoonSamples
  simp

@[simp] theorem State.rebuilt_base (s : State) (k : Comet) :
    (State.rebuilt s k).base = s.base := by
  unfold State.rebuilt
  simp

@[simp] theorem State.eyeSample_base (s : State) (v : Nat × Nat × Nat × Int) :
    (State.eyeSample s v).base = s.base := by
  unfold State.eyeSample
  simp

@[simp] theorem State.ownerOut_base (s : State) (unacked : List (Nat × Nat)) (u : UnitId) :
    (s.ownerOut unacked u).base = s.base := by
  cases u <;> simp [State.ownerOut]

@[simp] theorem State.losePtp_base (s : State) :
    (State.losePtp s).base = s.base := by
  unfold State.losePtp
  simp

@[simp] theorem State.portFails_base (s : State) (port : Nat) (k : Nat) :
    (State.portFails s port k).base = s.base := by
  unfold State.portFails
  simp

@[simp] theorem State.alarmErases_base (s0 : State) :
    (State.alarmErases s0).base = s0.base := by
  unfold State.alarmErases
  simp

@[simp] theorem State.repairRow_base (s : State) (f : Front) (t : AsuTable) (row peer : Nat) :
    (State.repairRow s f t row peer).base = s.base := by
  unfold State.repairRow
  simp

@[simp] theorem pairForm_base (q : PartnerInfo) (read cas : WitnessAnswer) (c : Cmd) (s : State) :
    (pairForm q read cas c s).base = s.base := by
  unfold pairForm
  simp

@[simp] theorem pairJoin_base (c : Cmd) (s : State) :
    (pairJoin c s).base = s.base := by
  unfold pairJoin
  simp

@[simp] theorem pairSwap_base (cas : WitnessAnswer) (c : Cmd) (s : State) :
    (pairSwap cas c s).base = s.base := by
  unfold pairSwap; (try dsimp only)
  (repeat' split) <;> simp

@[simp] theorem pairDissolve_base (c : Cmd) (s : State) :
    (pairDissolve c s).base = s.base := by
  unfold pairDissolve
  simp

@[simp] theorem pairDissolveForce_base (c : Cmd) (s : State) :
    (pairDissolveForce c s).base = s.base := by
  unfold pairDissolveForce
  simp

@[simp] theorem pairSetWitness_base (cas : WitnessAnswer) (c : Cmd) (s : State) :
    (pairSetWitness cas c s).base = s.base := by
  unfold pairSetWitness
  simp

@[simp] theorem pairQuery_base (w : HostWrite) (c : Cmd) (s : State) :
    (pairQuery w c s).base = s.base := by
  unfold pairQuery
  simp

@[simp] theorem State.frameSeen_base (s : State) (n seq : Nat) :
    (State.frameSeen s n seq).base = s.base := by
  unfold State.frameSeen
  simp

@[simp] theorem State.followStep_base (s : State) (b : HeartbeatBody) :
    (State.followStep s b).base = s.base := by
  unfold State.followStep
  simp

@[simp] theorem State.joined_base (s : State) (f : PairFrame) (serial : Bytes) :
    (State.joined s f serial).base = s.base := by
  unfold State.joined
  simp

@[simp] theorem State.helloHeard_base (s : State) (f : PairFrame) (inStep : Bool) :
    (State.helloHeard s f inStep).base = s.base := by
  unfold State.helloHeard
  simp

@[simp] theorem State.trySwap_base (s : State) (w : Nat) (cas : WitnessAnswer) (cause : Nat) (lost : State → State) (h_lost : ∀ a0, (lost a0).base = a0.base) :
    (State.trySwap s w cas cause lost).base = s.base := by
  unfold State.trySwap
  split <;> simp [h_lost]

@[simp] theorem State.polled_base (s : State) (w : Nat) (same : Bool) (cas : WitnessAnswer) :
    (State.polled s w same cas).base = s.base := by
  unfold State.polled
  (repeat' split) <;> simp

@[simp] theorem State.storeForward_base (s : State) (fw : Forwarded) :
    (State.storeForward s fw).base = s.base := by
  unfold State.storeForward; dsimp only; simp
  exact placeExtents_base _ _ _

@[simp] theorem State.applyForward_base (s : State) (d : DecisionRecord) (keys : List Forwarded) :
    (State.applyForward s d keys).base = s.base := by
  unfold State.applyForward
  simp

@[simp] theorem State.receiveMutation_base (s : State) (d : DecisionRecord) (keys : List Forwarded) :
    (State.receiveMutation s d keys).base = s.base := by
  unfold State.receiveMutation
  simp

@[simp] theorem State.dropRecords_base (s : State) (refs : List Nat) :
    (State.dropRecords s refs).base = s.base := by
  unfold State.dropRecords
  simp

@[simp] theorem State.forwardedUsage_base (s : State) (slot gen used : Nat) :
    (State.forwardedUsage s slot gen used).base = s.base := by
  unfold State.forwardedUsage
  simp

@[simp] theorem State.takeChanges_base (s : State) (changes : List SettingsChange) :
    (State.takeChanges s changes).base = s.base := by
  unfold State.takeChanges
  rw [State.reapNamespaces_base, foldl_base State.afterChange (fun s a => State.afterChange_base s a), foldl_base State.applyChange (fun s a => State.applyChange_base s a)]

@[simp] theorem State.receiveForward_base (s : State) (fw : PairForward) :
    (State.receiveForward s fw).base = s.base := by
  unfold State.receiveForward
  split <;> simp

@[simp] theorem State.recordHeld_base (s : State) (ref : Nat) :
    (State.recordHeld s ref).base = s.base := by
  unfold State.recordHeld
  simp

@[simp] theorem State.decisionHeld_base (s : State) (ref : Nat) :
    (State.decisionHeld s ref).base = s.base := by
  unfold State.decisionHeld
  simp

@[simp] theorem State.partnerMediaHeld_base (s : State) (x : Writing Nat) :
    (State.partnerMediaHeld s x).base = s.base := by
  unfold State.partnerMediaHeld
  simp

@[simp] theorem State.casWon_base (s : State) :
    (State.casWon s).base = s.base := by
  unfold State.casWon
  split <;> simp

@[simp] theorem State.swapsDone_base (s : State) (epoch : Nat) (mine : Bool) :
    (State.swapsDone s epoch mine).base = s.base := by
  unfold State.swapsDone
  simp

@[simp] theorem State.applyFetched_base (s : State) (fw : Forwarded) :
    (State.applyFetched s fw).base = s.base := by
  unfold State.applyFetched
  simp

@[simp] theorem State.dropAbsent_base (s : State) (snapshot : Nat) :
    (State.dropAbsent s snapshot).base = s.base := by
  unfold State.dropAbsent
  simp

@[simp] theorem State.openStream_base (s : State) (snapshot : Nat) :
    (State.openStream s snapshot).base = s.base := by
  unfold State.openStream
  simp

@[simp] theorem State.releasePin_base (s : State) :
    (State.releasePin s).base = s.base := by
  unfold State.releasePin
  split <;> simp

@[simp] theorem State.resyncEnded_base (s : State) (cas : WitnessAnswer) :
    (State.resyncEnded s cas).base = s.base := by
  unfold State.resyncEnded
  split <;> simp

@[simp] theorem State.count_base (s : State) (link : LinkId) (k n : Nat) :
    (State.count s link k n).base = s.base := by
  unfold State.count
  split <;> simp

@[simp] theorem State.transmit_base (s : State) (l : Nat) (tq4 : Bool) (tx : TxFate) (o : Output) :
    (State.transmit s l tq4 tx o).base = s.base := by
  unfold State.transmit
  split <;> simp

@[simp] theorem State.received_base (s : State) (link : LinkId) (want : Option Nat) (f : RxFrame) :
    (State.received s link want f).base = s.base := by
  unfold State.received; (try dsimp only)
  split <;> simp

@[simp] theorem State.shift_base (s : State) (link : LinkId) (rx : Bool) (f : Gear → Gear) :
    (State.shift s link rx f).base = s.base := by
  unfold State.shift
  split <;> simp

@[simp] theorem queueLoad_base (c : Cmd) (s : State) :
    (queueLoad c s).base = s.base := by
  unfold queueLoad
  simp

@[simp] theorem State.installed_base (s : State) (c : Cmd) (p : ProgSlot) (l : ProgLoad) (image : Bytes) :
    (State.installed s c p l image).base = s.base := by
  unfold State.installed
  simp

@[simp] theorem State.loadImage_base (s : State) (c : Cmd) (p : ProgSlot) (l : ProgLoad) (r : HostRead) :
    (State.loadImage s c p l r).base = s.base := by
  unfold State.loadImage
  simp

@[simp] theorem State.loadTurn_base (s : State) (c : Cmd) (p : ProgSlot) (l : ProgLoad) (r : HostRead) :
    (State.loadTurn s c p l r).base = s.base := by
  unfold State.loadTurn
  split <;> simp

@[simp] theorem State.takeLoad_base (s : State) (p : ProgSlot) (l : ProgLoad) (ls : List ProgLoad) (r : HostRead) :
    (State.takeLoad s p l ls r).base = s.base := by
  unfold State.takeLoad
  split <;> simp

@[simp] theorem rangeApply_base (r : HostRead) (c : Cmd) (s : State) :
    (rangeApply r c s).base = s.base := by
  unfold rangeApply; dsimp only
  split
  · simp
  · split
    · simp
    · refine State.operand_base _ _ _ _ _ _ _ ?_
      intro l t; (try dsimp only); (repeat' split) <;> simp

@[simp] theorem rangeQuery_base (w : HostWrite) (c : Cmd) (s : State) :
    (rangeQuery w c s).base = s.base := by
  unfold rangeQuery
  simp

@[simp] theorem State.tagRf_base (s : State) (q : TagRf) :
    (State.tagRf s q).base = s.base := by
  unfold State.tagRf
  simp

@[simp] theorem State.tagError_base (s : State) (code : Nat) :
    (State.tagError s code).base = s.base := by
  unfold State.tagError
  simp

@[simp] theorem State.onRf_base (s : State) (k : State → State) (h_k : ∀ a0, (k a0).base = a0.base) :
    (State.onRf s k).base = s.base := by
  unfold State.onRf
  simp [h_k]

@[simp] theorem State.labelDone_base (s : State) :
    (State.labelDone s).base = s.base := by
  unfold State.labelDone
  simp

@[simp] theorem State.usbAnswer_base (s : State) (len : Nat) (bs : Bytes) :
    (State.usbAnswer s len bs).base = s.base := by
  unfold State.usbAnswer
  simp

@[simp] theorem State.usbStandard_base (s : State) (kind req value index len : Nat) :
    (State.usbStandard s kind req value index len).base = s.base := by
  unfold State.usbStandard
  (repeat' split) <;> simp

@[simp] theorem State.onUsb_base (s : State) (k : State → State) (h_k : ∀ a0, (k a0).base = a0.base) :
    (State.onUsb s k).base = s.base := by
  unfold State.onUsb
  simp [h_k]

@[simp] theorem State.rspOut_base (s : State) (ok acked : Bool) (k : State → State) (h_k : ∀ a0, (k a0).base = a0.base) :
    (State.rspOut s ok acked k).base = s.base := by
  unfold State.rspOut
  simp [h_k]

@[simp] theorem State.rspApply_base (s : State) (comp : Nat) :
    (State.rspApply s comp).base = s.base := by
  unfold State.rspApply
  simp

@[simp] theorem State.rspCommit_base (s : State) (comp : Nat) (apply revert : Bool) (digest : Bytes) :
    (State.rspCommit s comp apply revert digest).base = s.base := by
  unfold State.rspCommit
  (repeat' split) <;> (try simp)
  · rename_i h1; have h := State.commitImage_base s comp .service digest; rw [h1] at h; exact h
  · rename_i h1 _; have h := State.commitImage_base s comp .service digest; rw [h1] at h; exact h
  · rename_i h1 _; have h := State.commitImage_base s comp .service digest; rw [h1] at h; exact h

@[simp] theorem ruleAdd_base (c : Cmd) (s : State) :
    (ruleAdd c s).base = s.base := by
  unfold ruleAdd
  simp

@[simp] theorem ruleRemove_base (c : Cmd) (s : State) :
    (ruleRemove c s).base = s.base := by
  unfold ruleRemove
  split <;> simp

@[simp] theorem ruleEvaluate_base (w : HostWrite) (c : Cmd) (s : State) :
    (ruleEvaluate w c s).base = s.base := by
  unfold ruleEvaluate; (try dsimp only)
  split <;> simp

@[simp] theorem State.shortEffect_base (s : State) (pin : Nat) :
    (State.shortEffect s pin).base = s.base := by
  unfold State.shortEffect
  simp

@[simp] theorem State.spdmSend_base (s : State) (m : Bytes) :
    (State.spdmSend s m).base = s.base := by
  unfold State.spdmSend
  simp

@[simp] theorem State.spdmError_base (s : State) (code data : Nat) :
    (State.spdmError s code data).base = s.base := by
  unfold State.spdmError
  simp

@[simp] theorem State.onSpdm_base (s : State) (k : State → State) (h_k : ∀ a0, (k a0).base = a0.base) :
    (State.onSpdm s k).base = s.base := by
  unfold State.onSpdm
  simp [h_k]

@[simp] theorem State.spdmAnswer_base (s : State) (req m : Bytes) (mark : UsbPart → UsbPart) :
    (State.spdmAnswer s req m mark).base = s.base := by
  unfold State.spdmAnswer
  simp

@[simp] theorem State.onNegotiated_base (s : State) (k : State → State) (h_k : ∀ a0, (k a0).base = a0.base) :
    (State.onNegotiated s k).base = s.base := by
  unfold State.onNegotiated
  simp [h_k]

@[simp] theorem State.spdmSigned_base (s : State) (req m : Bytes) :
    (State.spdmSigned s req m).base = s.base := by
  unfold State.spdmSigned
  simp

@[simp] theorem State.discipline_base (s : State) :
    (State.discipline s).base = s.base := by
  unfold State.discipline
  simp

@[simp] theorem State.setTime_base (s : State) (t : Int) :
    (State.setTime s t).base = s.base := by
  unfold State.setTime
  simp

@[simp] theorem State.firstTime_base (s : State) (offset : Int) :
    (State.firstTime s offset).base = s.base := by
  unfold State.firstTime
  simp

@[simp] theorem State.slew_base (s : State) (offset : Int) (ns : Nat) :
    (State.slew s offset ns).base = s.base := by
  unfold State.slew
  simp

@[simp] theorem State.synced_base (s : State) (offset interval : Int) :
    (State.synced s offset interval).base = s.base := by
  unfold State.synced
  simp

@[simp] theorem State.ptpIgnore_base (s : State) :
    (State.ptpIgnore s).base = s.base := by
  unfold State.ptpIgnore
  simp

@[simp] theorem State.edge_base (s : State) (offset : Int) :
    (State.edge s offset).base = s.base := by
  unfold State.edge; (try dsimp only)
  split <;> simp

end Sys2Proof.Machine
end

