-- ==== Sys2Proof/Laws/Media.lean ====
section
/-! SUPPORT. What the operations on the flash can do: they write the media, and of the rest of the state at most the counter
of free values; and what a block, a stripe and the page list read as after a write. -/

namespace Sys2Proof.Machine

variable (s : State)

/-- The parts of the state that hold what the host stores and asks for. -/
def State.hostView (s : State) := (s.kv, s.cmds, s.locks, s.sess, s.seq, s.ns, s.mode)

/-! ### One step of the media -/

theorem State.setBlock_eq (b : Block) : s.setBlock b = { s with media := (s.setBlock b).media } := rfl
theorem State.modDie_eq (m d : Nat) (f : Die → Die) : s.modDie m d f = { s with media := (s.modDie m d f).media } := rfl
theorem State.modBand_eq (n : Nat) (f : Band → Band) : s.modBand n f = { s with media := (s.modBand n f).media } := rfl
theorem State.setStripe_eq (t : Stripe) : s.setStripe t = { s with media := (s.setStripe t).media } := rfl
theorem State.startBlock_eq (i : BlockId) : s.startBlock i = { s with media := (s.startBlock i).media } := rfl
theorem State.addPage_eq (p : Page) : s.addPage p = { s with media := (s.addPage p).media } := rfl

@[simp] theorem State.setBlock_hostView (b : Block) : (s.setBlock b).hostView = s.hostView := rfl
@[simp] theorem State.modDie_hostView (m d : Nat) (f : Die → Die) : (s.modDie m d f).hostView = s.hostView := rfl
@[simp] theorem State.modBand_hostView (n : Nat) (f : Band → Band) : (s.modBand n f).hostView = s.hostView := rfl
@[simp] theorem State.setStripe_hostView (t : Stripe) : (s.setStripe t).hostView = s.hostView := rfl
@[simp] theorem State.startBlock_hostView (i : BlockId) : (s.startBlock i).hostView = s.hostView := rfl
@[simp] theorem State.addPage_hostView (p : Page) : (s.addPage p).hostView = s.hostView := rfl
@[simp] theorem State.emit_hostView (o : Output) : (s.emit o).hostView = s.hostView := rfl

/-! ### Programming -/

@[simp] theorem State.onMedia_hostView (f : State → State) : (s.onMedia f).hostView = s.hostView := rfl
@[simp] theorem State.programSlc_hostView (moon : Nat) (g : Image) : (s.programSlc moon g).hostView = s.hostView := rfl
@[simp] theorem State.programPair_hostView (e : Extent) (g : Image) : (s.programPair e g).hostView = s.hostView := rfl
@[simp] theorem State.logCopy_hostView (owner : Nat) (r : MapRec) (copy : Nat) : (s.logCopy owner r copy).hostView = s.hostView := rfl

@[simp] theorem State.programQlc_hostView (n moon : Nat) (g : Image) : (s.programQlc n moon g).hostView = s.hostView := by
  unfold State.programQlc; dsimp only; split <;> rfl

@[simp] theorem State.programData_hostView (n moon : Nat) (g : Image) : (s.programData n moon g).hostView = s.hostView := by
  simp [State.programData]

theorem hostView_foldl {α : Type} (f : State → α → State) (h : ∀ s a, (f s a).hostView = s.hostView) (l : List α) :
    (l.foldl f s).hostView = s.hostView := by
  induction l generalizing s with
  | nil => rfl
  | cons a l ih => rw [List.foldl_cons, ih, h]

@[simp] theorem State.programExtent_hostView (w : PageOwner) (token : Option Nat) (e : Extent) :
    (s.programExtent w token e).hostView = s.hostView := hostView_foldl s _ (by simp) _

@[simp] theorem State.sealStripe_hostView (n : Nat) : (s.sealStripe n).hostView = s.hostView := by
  unfold State.sealStripe; dsimp only
  split
  · rfl
  · simp only [State.setStripe_hostView, State.emit_hostView, State.programQlc_hostView]
    exact hostView_foldl s _ (by simp) _

@[simp] theorem State.closeStripes_hostView : s.closeStripes.hostView = s.hostView := hostView_foldl s _ (by simp) _

/-! ### Reading back what was written -/

/-- A block reads as it was written, and the others as before. -/
theorem State.block_setBlock (b : Block) (i : BlockId) : (s.setBlock b).block i = if i = b.id then b else s.block i := by
  unfold State.block State.setBlock
  dsimp only
  rw [List.find?_append]
  by_cases h : i = b.id
  · subst h
    have e : (s.media.blocks.filter fun q => q.id != b.id).find? (fun q => q.id == b.id) = none := by
      simp [List.find?_eq_none]
    simp [e]
  · have e : (s.media.blocks.filter fun q => q.id != b.id).find? (fun q => q.id == i) =
        s.media.blocks.find? (fun q => q.id == i) := by
      rw [List.find?_filter]
      congr 1
      funext q
      by_cases g : q.id = i
      · simp [g, h]
      · simp [g]
    have n : ¬ b.id = i := fun x => h x.symm
    simp [e, h, n]

/-- The pages after one more is programmed: those before, and one that lies where it was programmed. -/
theorem State.addPage_pages (p : Page) : ∃ h, (s.addPage p).media.pages = s.media.pages ++ [{ p with header := h }] ∧
    h.kind = p.header.kind ∧ h.csn = p.header.csn ∧ h.stripe = p.header.stripe ∧ h.position = p.block.moon :=
  ⟨_, rfl, rfl, rfl, rfl, rfl⟩

end Sys2Proof.Machine
end

