-- ==== Sys2Proof/Laws/Tag.lean ====
section
/-! SUPPORT. The memory of the shelf tag (Machine/TagMem.lean): every write keeps its canonical form, changes the bytes it
names and no other. -/

namespace Sys2Proof.Machine

/-- A longer lower bound is a weaker one. -/
theorem cellsFrom_mono (i : Ident) (m : List (Nat × Byte)) (a b : Nat) (h : a ≤ b) (w : cellsFrom i b m = true) :
    cellsFrom i a m = true := by
  cases m with
  | nil => rfl
  | cons e m =>
    simp only [cellsFrom, Bool.and_eq_true, decide_eq_true_eq] at w ⊢
    exact ⟨⟨⟨by omega, w.1.1.2⟩, w.1.2⟩, w.2⟩

/-- Dropping an address keeps the canonical form. -/
theorem dropCell_wf (i : Ident) (a lo : Nat) (m : List (Nat × Byte)) (w : cellsFrom i lo m = true) :
    cellsFrom i lo (dropCell a m) = true := by
  induction m generalizing lo with
  | nil => rfl
  | cons e m ih =>
    obtain ⟨k, b⟩ := e
    simp only [cellsFrom, Bool.and_eq_true, decide_eq_true_eq] at w
    unfold dropCell
    split
    · exact cellsFrom_mono i _ lo (k + 1) (by omega) (ih _ w.2)
    · simp only [cellsFrom, Bool.and_eq_true, decide_eq_true_eq]
      exact ⟨w.1, ih _ w.2⟩

/-- Placing a byte that differs from the factory's, at an address that the list does not hold, keeps the form. -/
theorem placeCell_wf (i : Ident) (a : Nat) (b : Byte) (lo : Nat) (m : List (Nat × Byte)) (ha : lo ≤ a)
    (hs : a < tagSize) (hb : b ≠ tagFactory i a) (w : cellsFrom i lo (dropCell a m) = true) :
    cellsFrom i lo (placeCell a b (dropCell a m)) = true := by
  induction m generalizing lo with
  | nil => simp [dropCell, placeCell, cellsFrom, ha, hs, hb]
  | cons e m ih =>
    obtain ⟨k, c⟩ := e
    unfold dropCell at w ⊢
    by_cases h : k = a
    · simp only [if_pos h] at w ⊢; exact ih lo ha w
    · simp only [if_neg h] at w ⊢
      simp only [cellsFrom, Bool.and_eq_true, decide_eq_true_eq] at w
      unfold placeCell
      by_cases g : a < k
      · simp only [if_pos g, cellsFrom, Bool.and_eq_true, decide_eq_true_eq, bne_iff_ne, ne_eq] at w ⊢
        exact ⟨⟨⟨ha, hs⟩, hb⟩, ⟨⟨by omega, w.1.1.2⟩, w.1.2⟩, w.2⟩
      · simp only [if_neg g, cellsFrom, Bool.and_eq_true, decide_eq_true_eq]
        exact ⟨w.1, ih (k + 1) (by omega) w.2⟩

/-- Writing one byte inside the tag keeps the canonical form. -/
theorem writeCell_wf (i : Ident) (m : List (Nat × Byte)) (a : Nat) (b : Byte) (hs : a < tagSize)
    (w : cellsFrom i 0 m = true) : cellsFrom i 0 (writeCell i m a b) = true := by
  unfold writeCell
  split
  · exact dropCell_wf i a 0 m w
  · rename_i h; exact placeCell_wf i a b 0 m (by omega) hs h (dropCell_wf i a 0 m w)

/-- Writing bytes inside the tag keeps the canonical form. -/
theorem writeCells_wf (i : Ident) (m : List (Nat × Byte)) (a : Nat) (bs : Bytes) (hs : a + bs.length ≤ tagSize)
    (w : cellsFrom i 0 m = true) : cellsFrom i 0 (writeCells i m a bs) = true := by
  induction bs generalizing m a with
  | nil => exact w
  | cons b bs ih =>
    simp only [List.length_cons] at hs
    exact ih _ _ (by omega) (writeCell_wf i m a b (by omega) w)

/-- A dropped address reads as the factory image. -/
theorem cellAt_dropCell_self (i : Ident) (a : Nat) (m : List (Nat × Byte)) : cellAt i (dropCell a m) a = tagFactory i a := by
  induction m with
  | nil => rfl
  | cons e m ih =>
    obtain ⟨k, c⟩ := e
    unfold dropCell
    split
    · exact ih
    · rename_i h; simp [cellAt, h, ih]

/-- Dropping an address leaves the others. -/
theorem cellAt_dropCell_of_ne (i : Ident) (a x : Nat) (h : x ≠ a) (m : List (Nat × Byte)) :
    cellAt i (dropCell a m) x = cellAt i m x := by
  induction m with
  | nil => rfl
  | cons e m ih =>
    obtain ⟨k, c⟩ := e
    unfold dropCell
    split
    · rename_i g; simp [cellAt, ih, g, Ne.symm h]
    · simp [cellAt, ih]

/-- A placed byte is read back. -/
theorem cellAt_placeCell_self (i : Ident) (a : Nat) (b : Byte) (m : List (Nat × Byte)) :
    cellAt i (placeCell a b (dropCell a m)) a = b := by
  induction m with
  | nil => simp [dropCell, placeCell, cellAt]
  | cons e m ih =>
    obtain ⟨k, c⟩ := e
    unfold dropCell
    split
    · exact ih
    · rename_i h
      unfold placeCell
      split
      · simp [cellAt]
      · simp [cellAt, h, ih]

/-- Placing a byte leaves the other addresses. -/
theorem cellAt_placeCell_of_ne (i : Ident) (a x : Nat) (b : Byte) (h : x ≠ a) (m : List (Nat × Byte)) :
    cellAt i (placeCell a b m) x = cellAt i m x := by
  induction m with
  | nil => simp [placeCell, cellAt, Ne.symm h]
  | cons e m ih =>
    obtain ⟨k, c⟩ := e
    unfold placeCell
    split
    · simp [cellAt, Ne.symm h]
    · simp [cellAt, ih]

/-- A written byte is read back. -/
theorem cellAt_writeCell_self (i : Ident) (m : List (Nat × Byte)) (a : Nat) (b : Byte) :
    cellAt i (writeCell i m a b) a = b := by
  unfold writeCell
  split
  · rename_i h; rw [cellAt_dropCell_self, h]
  · exact cellAt_placeCell_self i a b m

/-- Writing a byte leaves the other addresses. -/
theorem cellAt_writeCell_of_ne (i : Ident) (m : List (Nat × Byte)) (a x : Nat) (b : Byte) (h : x ≠ a) :
    cellAt i (writeCell i m a b) x = cellAt i m x := by
  unfold writeCell
  split
  · exact cellAt_dropCell_of_ne i a x h m
  · rw [cellAt_placeCell_of_ne i a x b h, cellAt_dropCell_of_ne i a x h]

/-- Writing bytes leaves every address outside them. -/
theorem cellAt_writeCells_outside (i : Ident) (m : List (Nat × Byte)) (a x : Nat) (bs : Bytes)
    (h : x < a ∨ a + bs.length ≤ x) : cellAt i (writeCells i m a bs) x = cellAt i m x := by
  induction bs generalizing m a with
  | nil => rfl
  | cons b bs ih =>
    simp only [List.length_cons] at h
    exact (ih _ _ (by omega)).trans (cellAt_writeCell_of_ne i m a x b (by omega))

/-- The `k`-th written byte is read back. -/
theorem cellAt_writeCells_inside (i : Ident) (m : List (Nat × Byte)) (a k : Nat) (bs : Bytes) (h : k < bs.length) :
    cellAt i (writeCells i m a bs) (a + k) = bs[k] := by
  induction bs generalizing m a k with
  | nil => simp at h
  | cons b bs ih =>
    cases k with
    | zero => simpa [writeCells] using
        (cellAt_writeCells_outside i _ (a + 1) a bs (by omega)).trans (cellAt_writeCell_self i m a b)
    | succ k =>
      simp only [List.length_cons] at h
      have := ih (writeCell i m a b) (a + 1) k (by omega)
      simpa [writeCells, Nat.add_assoc, Nat.add_comm 1 k] using this

theorem fit_length (n : Nat) (bs : Bytes) : (fit n bs).length = n := by
  unfold fit; simp; omega

/-- A block write keeps everything but the tag's memory, and its canonical form. -/
theorem State.writeTagBlock_keeps (s : State) (n : Nat) (bs : Bytes) :
    (s.writeTagBlock n bs).pending = s.pending ∧ (s.writeTagBlock n bs).ident = s.ident ∧
      (s.tag.wf s.ident = true → (s.writeTagBlock n bs).tag.wf s.ident = true) := by
  unfold State.writeTagBlock
  split
  · refine ⟨rfl, rfl, fun w => writeCells_wf _ _ _ _ ?_ w⟩
    rw [fit_length]; unfold tagSize; omega
  · exact ⟨rfl, rfl, id⟩

theorem State.writeBlocks_keeps (s : State) (ws : List (Nat × Bytes)) :
    (s.writeBlocks ws).pending = s.pending ∧ (s.writeBlocks ws).ident = s.ident ∧
      (s.tag.wf s.ident = true → (s.writeBlocks ws).tag.wf s.ident = true) := by
  unfold State.writeBlocks
  induction ws generalizing s with
  | nil => exact ⟨rfl, rfl, id⟩
  | cons w ws ih =>
    obtain ⟨h1, h2, h3⟩ := s.writeTagBlock_keeps w.1 w.2
    obtain ⟨g1, g2, g3⟩ := ih (s.writeTagBlock w.1 w.2)
    exact ⟨g1.trans h1, g2.trans h2, fun w => by simpa [h2] using g3 (by simpa [h2] using h3 w)⟩

/-- A wired burst keeps the queue, the identity and the canonical form. -/
theorem State.wiredBurst_keeps (s : State) :
    s.wiredBurst.pending = s.pending ∧ s.wiredBurst.ident = s.ident ∧
      (s.tag.wf s.ident = true → s.wiredBurst.tag.wf s.ident = true) := by
  have h := s.writeBlocks_keeps (s.tag.todo.take 16)
  unfold State.wiredBurst State.labelDone
  dsimp only
  split <;> exact h

theorem execTagWiredRetry_keeps (s u : State) (h : execTagWiredRetry s = .next u) :
    u.pending = s.pending ∧ u.ident = s.ident ∧ (s.tag.wf s.ident = true → u.tag.wf s.ident = true) := by
  unfold execTagWiredRetry at h; cases h
  split
  · exact ⟨rfl, rfl, id⟩
  · exact ⟨rfl, rfl, id⟩
  · split
    · exact ⟨rfl, rfl, id⟩
    · exact s.wiredBurst_keeps

theorem execTagWriteSingleBlock_keeps (block : Nat) (data : Bytes) (s u : State)
    (h : execTagWriteSingleBlock block data s = .next u) :
    u.pending = s.pending ∧ u.ident = s.ident ∧ (s.tag.wf s.ident = true → u.tag.wf s.ident = true) := by
  unfold execTagWriteSingleBlock State.onRf at h; cases h
  split
  · exact ⟨rfl, rfl, id⟩
  · dsimp only
    split
    · exact ⟨rfl, rfl, id⟩
    · split
      · exact State.writeTagBlock_keeps { s with tag := { s.tag with holder := .rf } } block data
      · exact ⟨rfl, rfl, id⟩

end Sys2Proof.Machine
end

