-- ==== Sys2Proof/Laws/Rows.lean ====
section
/-! SUPPORT. What each row of the table leaves as it is (Laws/Base.lean); the two rows that write the memory of the shelf tag
are in Laws/Tag.lean. -/

namespace Sys2Proof.Machine

theorem execCometScan_base (ref : Nat) (s : State) (after : State) (h : execCometScan ref s = .next after) :
    after.base = s.base := by
  unfold execCometScan at h; cases h
  simp

theorem execCometSearch_base (ref : Nat) (s : State) (after : State) (h : execCometSearch ref s = .next after) :
    after.base = s.base := by
  unfold execCometSearch at h; cases h
  simp

theorem execCometFixityAudit_base (ref : Nat) (s : State) (after : State) (h : execCometFixityAudit ref s = .next after) :
    after.base = s.base := by
  unfold execCometFixityAudit at h; cases h
  simp

theorem execCometShortSelfTest_base (ref : Nat) (s : State) (after : State) (h : execCometShortSelfTest ref s = .next after) :
    after.base = s.base := by
  unfold execCometShortSelfTest at h; cases h
  simp

theorem execCometExtendedSelfTest_base (ref : Nat) (s : State) (after : State) (h : execCometExtendedSelfTest ref s = .next after) :
    after.base = s.base := by
  unfold execCometExtendedSelfTest at h; cases h
  simp

theorem execCometNamespaceExport_base (ref : Nat) (s : State) (after : State) (h : execCometNamespaceExport ref s = .next after) :
    after.base = s.base := by
  unfold execCometNamespaceExport at h; cases h
  simp

theorem execKvGet_base (ref : Nat) (s : State) (after : State) (h : execKvGet ref s = .next after) :
    after.base = s.base := by
  unfold execKvGet at h; cases h
  simp

theorem execKvPut_base (ref : Nat) (s : State) (after : State) (h : execKvPut ref s = .next after) :
    after.base = s.base := by
  unfold execKvPut at h; cases h
  simp

theorem execKvDelete_base (ref : Nat) (s : State) (after : State) (h : execKvDelete ref s = .next after) :
    after.base = s.base := by
  unfold execKvDelete at h; cases h
  simp

theorem execKvCas_base (ref : Nat) (s : State) (after : State) (h : execKvCas ref s = .next after) :
    after.base = s.base := by
  unfold execKvCas at h; cases h
  simp

theorem execKvHead_base (ref : Nat) (w : HostWrite) (s : State) (after : State) (h : execKvHead ref w s = .next after) :
    after.base = s.base := by
  unfold execKvHead at h; cases h
  simp

theorem execKvBatch_base (ref : Nat) (s : State) (after : State) (h : execKvBatch ref s = .next after) :
    after.base = s.base := by
  unfold execKvBatch at h; cases h
  simp

theorem execKvObjBegin_base (ref : Nat) (s : State) (after : State) (h : execKvObjBegin ref s = .next after) :
    after.base = s.base := by
  unfold execKvObjBegin at h; cases h
  simp

theorem execKvObjAppend_base (ref : Nat) (s : State) (after : State) (h : execKvObjAppend ref s = .next after) :
    after.base = s.base := by
  unfold execKvObjAppend at h; cases h
  simp

theorem execKvObjSeal_base (ref : Nat) (s : State) (after : State) (h : execKvObjSeal ref s = .next after) :
    after.base = s.base := by
  unfold execKvObjSeal at h; cases h
  simp

theorem execKvDeleteRange_base (ref : Nat) (s : State) (after : State) (h : execKvDeleteRange ref s = .next after) :
    after.base = s.base := by
  unfold execKvDeleteRange at h; cases h
  simp

theorem execUnknownOpcode_base (ref : Nat) (s : State) (after : State) (h : execUnknownOpcode ref s = .next after) :
    after.base = s.base := by
  unfold execUnknownOpcode at h; cases h
  split <;> simp

theorem execHostAreaReadDone_base (ref : Nat) (areas : HostAreas) (s : State) (after : State) (h : execHostAreaReadDone ref areas s = .next after) :
    after.base = s.base := by
  unfold execHostAreaReadDone at h; cases h
  split <;> simp

theorem execKeyLockGrant_base (ref : Nat) (s : State) (after : State) (h : execKeyLockGrant ref s = .next after) :
    after.base = s.base := by
  unfold execKeyLockGrant at h; cases h
  (repeat' split) <;> simp

theorem execValueFetchDone_base (ref sub : Nat) (r : HostRead) (s : State) (after : State) (h : execValueFetchDone ref sub r s = .next after) :
    after.base = s.base := by
  unfold execValueFetchDone at h; cases h
  (repeat' split) <;> simp

theorem execExtentStaged_base (ref : Nat) (x : Writing ExtentRef) (s : State) (after : State) (h : execExtentStaged ref x s = .next after) :
    after.base = s.base := by
  unfold execExtentStaged at h; cases h
  split <;> simp

theorem execCsnGrant_base (ref : Nat) (s : State) (after : State) (h : execCsnGrant ref s = .next after) :
    after.base = s.base := by
  unfold execCsnGrant at h; cases h
  split <;> simp

theorem execMutationCommit_base (ref : Nat) (s : State) (after : State) (h : execMutationCommit ref s = .next after) :
    after.base = s.base := by
  unfold execMutationCommit at h; cases h
  split <;> simp

theorem execJournalRecorded_base (x : Writing Nat) (s : State) (after : State) (h : execJournalRecorded x s = .next after) :
    after.base = s.base := by
  unfold execJournalRecorded at h; cases h
  split <;> simp

theorem execDeleteRangeCountDone_base (ref : Nat) (s : State) (after : State) (h : execDeleteRangeCountDone ref s = .next after) :
    after.base = s.base := by
  unfold execDeleteRangeCountDone at h; cases h
  split <;> simp

theorem execSealCheckResult_base (ref : Nat) (pass : Bool) (w : HostWrite) (s : State) (after : State) (h : execSealCheckResult ref pass w s = .next after) :
    after.base = s.base := by
  unfold execSealCheckResult at h; cases h
  (repeat' split) <;> simp

theorem execMapFillDone_base (moon : Nat) (s : State) (after : State) (h : execMapFillDone moon s = .next after) :
    after.base = s.base := by
  unfold execMapFillDone at h; cases h
  simp

theorem execMapCacheInvalidationDone_base (moon : Nat) (s : State) (after : State) (h : execMapCacheInvalidationDone moon s = .next after) :
    after.base = s.base := by
  unfold execMapCacheInvalidationDone at h; cases h
  simp

theorem execKeyFetchDone_base (moon slot : Nat) (s : State) (after : State) (h : execKeyFetchDone moon slot s = .next after) :
    after.base = s.base := by
  unfold execKeyFetchDone at h; cases h
  simp

theorem execAppendWaitTimeout_base (ref : Nat) (s : State) (after : State) (h : execAppendWaitTimeout ref s = .next after) :
    after.base = s.base := by
  unfold execAppendWaitTimeout at h; cases h
  (repeat' split) <;> simp

theorem execObjectSessionExpire_base (obj : Nat) (s : State) (after : State) (h : execObjectSessionExpire obj s = .next after) :
    after.base = s.base := by
  unfold execObjectSessionExpire at h; cases h
  simp

theorem execAdmLoginBegin_base (ref : Nat) (w : HostWrite) (s : State) (after : State) (h : execAdmLoginBegin ref w s = .next after) :
    after.base = s.base := by
  unfold execAdmLoginBegin at h; cases h
  simp

theorem execAdmLoginProve_base (ref : Nat) (s : State) (after : State) (h : execAdmLoginProve ref s = .next after) :
    after.base = s.base := by
  unfold execAdmLoginProve at h; cases h
  simp

theorem execLoginLockoutExpire_base (cred : Nat) (s : State) (after : State) (h : execLoginLockoutExpire cred s = .next after) :
    after.base = s.base := by
  unfold execLoginLockoutExpire at h; cases h
  simp

theorem execRingResetEnd_base (sid ring : Nat) (w : ResetWrites) (s : State) (after : State) (h : execRingResetEnd sid ring w s = .next after) :
    after.base = s.base := by
  unfold execRingResetEnd at h; cases h
  (repeat' split) <;> simp

theorem execAdmRingCreate_base (ref : Nat) (s : State) (after : State) (h : execAdmRingCreate ref s = .next after) :
    after.base = s.base := by
  unfold execAdmRingCreate at h; cases h
  simp

theorem execAdmRingDestroy_base (ref : Nat) (s : State) (after : State) (h : execAdmRingDestroy ref s = .next after) :
    after.base = s.base := by
  unfold execAdmRingDestroy at h; cases h
  simp

theorem execAdmRingReset_base (x : Writing Nat) (s : State) (after : State) (h : execAdmRingReset x s = .next after) :
    after.base = s.base := by
  unfold execAdmRingReset at h; cases h
  simp

theorem execAdmRingStart_base (ref : Nat) (s : State) (after : State) (h : execAdmRingStart ref s = .next after) :
    after.base = s.base := by
  unfold execAdmRingStart at h; cases h
  simp

theorem execAdmRingResize_base (ref : Nat) (s : State) (after : State) (h : execAdmRingResize ref s = .next after) :
    after.base = s.base := by
  unfold execAdmRingResize at h; cases h
  simp

theorem execAdmRingQuery_base (ref : Nat) (w : HostWrite) (s : State) (after : State) (h : execAdmRingQuery ref w s = .next after) :
    after.base = s.base := by
  unfold execAdmRingQuery at h; cases h
  simp

theorem execCometProgressUpdate_base (num : Nat) (w : HostWrite) (s : State) (after : State) (h : execCometProgressUpdate num w s = .next after) :
    after.base = s.base := by
  unfold execCometProgressUpdate at h; cases h
  (repeat' split) <;> simp

theorem execCreditReread_base (num : Nat) (r : HostRead) (s : State) (after : State) (h : execCreditReread num r s = .next after) :
    after.base = s.base := by
  unfold execCreditReread at h; cases h
  (repeat' split) <;> simp

theorem execCometEnd_base (num : Nat) (s : State) (after : State) (h : execCometEnd num s = .next after) :
    after.base = s.base := by
  unfold execCometEnd at h; cases h
  split <;> simp

theorem execExportPeerCompletion_base (num : Nat) (key : Bytes) (csn : Nat) (o : PeerOutcome) (s : State) (after : State) (h : execExportPeerCompletion num key csn o s = .next after) :
    after.base = s.base := by
  unfold execExportPeerCompletion at h; cases h
  (repeat' split) <;> simp

theorem execExportRetry_base (num : Nat) (key : Bytes) (csn : Nat) (afterThirtySeconds : Bool) (s : State) (after : State) (h : execExportRetry num key csn afterThirtySeconds s = .next after) :
    after.base = s.base := by
  unfold execExportRetry at h; cases h
  (repeat' split) <;> simp

theorem execExportPeerTimeout_base (num : Nat) (loginStatus : Option Nat) (s : State) (after : State) (h : execExportPeerTimeout num loginStatus s = .next after) :
    after.base = s.base := by
  unfold execExportPeerTimeout at h; cases h
  (repeat' split) <;> simp

theorem execPinExpire_base (csn : Nat) (s : State) (after : State) (h : execPinExpire csn s = .next after) :
    after.base = s.base := by
  unfold execPinExpire at h; cases h
  simp

theorem execPinLingerExpire_base (csn : Nat) (s : State) (after : State) (h : execPinLingerExpire csn s = .next after) :
    after.base = s.base := by
  unfold execPinLingerExpire at h; cases h
  simp

theorem execModeCommissionComplete_base (ref : Nat) (s : State) (after : State) (h : execModeCommissionComplete ref s = .next after) :
    after.base = s.base := by
  unfold execModeCommissionComplete at h; cases h
  simp

theorem execModeServiceEnter_base (ref : Nat) (s : State) (after : State) (h : execModeServiceEnter ref s = .next after) :
    after.base = s.base := by
  unfold execModeServiceEnter at h; cases h
  simp

theorem execModeServiceExit_base (ref : Nat) (s : State) (after : State) (h : execModeServiceExit ref s = .next after) :
    after.base = s.base := by
  unfold execModeServiceExit at h; cases h
  simp

theorem execModeArchivalLockSet_base (ref : Nat) (s : State) (after : State) (h : execModeArchivalLockSet ref s = .next after) :
    after.base = s.base := by
  unfold execModeArchivalLockSet at h; cases h
  simp

theorem execModeArchivalLockClear_base (ref : Nat) (s : State) (after : State) (h : execModeArchivalLockClear ref s = .next after) :
    after.base = s.base := by
  unfold execModeArchivalLockClear at h; cases h
  simp

theorem execPowerP0_base (ref : Nat) (s : State) (after : State) (h : execPowerP0 ref s = .next after) :
    after.base = s.base := by
  unfold execPowerP0 at h; cases h
  simp

theorem execPowerP1_base (ref : Nat) (s : State) (after : State) (h : execPowerP1 ref s = .next after) :
    after.base = s.base := by
  unfold execPowerP1 at h; cases h
  simp

theorem execPowerP2_base (ref : Nat) (s : State) (after : State) (h : execPowerP2 ref s = .next after) :
    after.base = s.base := by
  unfold execPowerP2 at h; cases h
  simp

theorem execPowerP3_base (ref : Nat) (s : State) (after : State) (h : execPowerP3 ref s = .next after) :
    after.base = s.base := by
  unfold execPowerP3 at h; cases h
  simp

theorem execPowerShutdown_base (ref : Nat) (s : State) (after : State) (h : execPowerShutdown ref s = .next after) :
    after.base = s.base := by
  unfold execPowerShutdown at h; cases h
  simp

theorem execPowerWarmRestart_base (ref : Nat) (s : State) (after : State) (h : execPowerWarmRestart ref s = .next after) :
    after.base = s.base := by
  unfold execPowerWarmRestart at h; cases h
  simp

theorem execCtrlP0_base (p : Path) (s : State) (after : State) (h : execCtrlP0 p s = .next after) :
    after.base = s.base := by
  unfold execCtrlP0 at h; cases h
  simp

theorem execCtrlP1_base (p : Path) (s : State) (after : State) (h : execCtrlP1 p s = .next after) :
    after.base = s.base := by
  unfold execCtrlP1 at h; cases h
  simp

theorem execCtrlP2_base (p : Path) (s : State) (after : State) (h : execCtrlP2 p s = .next after) :
    after.base = s.base := by
  unfold execCtrlP2 at h; cases h
  simp

theorem execCtrlP3_base (p : Path) (s : State) (after : State) (h : execCtrlP3 p s = .next after) :
    after.base = s.base := by
  unfold execCtrlP3 at h; cases h
  simp

theorem execCtrlShutdown_base (p : Path) (s : State) (after : State) (h : execCtrlShutdown p s = .next after) :
    after.base = s.base := by
  unfold execCtrlShutdown at h; cases h
  simp

theorem execCtrlWarmRestart_base (p : Path) (s : State) (after : State) (h : execCtrlWarmRestart p s = .next after) :
    after.base = s.base := by
  unfold execCtrlWarmRestart at h; cases h
  simp

theorem execCtrlServiceEnter_base (p : Path) (s : State) (after : State) (h : execCtrlServiceEnter p s = .next after) :
    after.base = s.base := by
  unfold execCtrlServiceEnter at h; cases h
  simp

theorem execCtrlServiceExit_base (p : Path) (s : State) (after : State) (h : execCtrlServiceExit p s = .next after) :
    after.base = s.base := by
  unfold execCtrlServiceExit at h; cases h
  simp

theorem execCtrlCommissionComplete_base (p : Path) (s : State) (after : State) (h : execCtrlCommissionComplete p s = .next after) :
    after.base = s.base := by
  unfold execCtrlCommissionComplete at h; cases h
  simp

theorem execCtrlArchivalLockSet_base (p : Path) (s : State) (after : State) (h : execCtrlArchivalLockSet p s = .next after) :
    after.base = s.base := by
  unfold execCtrlArchivalLockSet at h; cases h
  simp

theorem execCtrlArchivalLockClear_base (p : Path) (s : State) (after : State) (h : execCtrlArchivalLockClear p s = .next after) :
    after.base = s.base := by
  unfold execCtrlArchivalLockClear at h; cases h
  simp

theorem execCtrlEfuseClear_base (p : Path) (arg : Nat) (s : State) (after : State) (h : execCtrlEfuseClear p arg s = .next after) :
    after.base = s.base := by
  unfold execCtrlEfuseClear at h; cases h
  simp

theorem execCtrlUnknown_base (p : Path) (code : Nat) (s : State) (after : State) (h : execCtrlUnknown p code s = .next after) :
    after.base = s.base := by
  unfold execCtrlUnknown at h; cases h
  simp

theorem execAdmNsCreate_base (ref : Nat) (s : State) (after : State) (h : execAdmNsCreate ref s = .next after) :
    after.base = s.base := by
  unfold execAdmNsCreate at h; cases h
  simp

theorem execAdmNsSet_base (ref : Nat) (s : State) (after : State) (h : execAdmNsSet ref s = .next after) :
    after.base = s.base := by
  unfold execAdmNsSet at h; cases h
  simp

theorem execAdmNsDelete_base (ref : Nat) (s : State) (after : State) (h : execAdmNsDelete ref s = .next after) :
    after.base = s.base := by
  unfold execAdmNsDelete at h; cases h
  simp

theorem execAdmNsQuery_base (ref : Nat) (w : HostWrite) (s : State) (after : State) (h : execAdmNsQuery ref w s = .next after) :
    after.base = s.base := by
  unfold execAdmNsQuery at h; cases h
  simp

theorem execCredentialCreate_base (ref : Nat) (r : HostRead) (s : State) (after : State) (h : execCredentialCreate ref r s = .next after) :
    after.base = s.base := by
  unfold execCredentialCreate at h; cases h
  simp

theorem execCredentialSetSecret_base (ref : Nat) (r : HostRead) (s : State) (after : State) (h : execCredentialSetSecret ref r s = .next after) :
    after.base = s.base := by
  unfold execCredentialSetSecret at h; cases h
  simp

theorem execCredentialGrant_base (ref : Nat) (s : State) (after : State) (h : execCredentialGrant ref s = .next after) :
    after.base = s.base := by
  unfold execCredentialGrant at h; cases h
  simp

theorem execCredentialRevoke_base (ref : Nat) (s : State) (after : State) (h : execCredentialRevoke ref s = .next after) :
    after.base = s.base := by
  unfold execCredentialRevoke at h; cases h
  simp

theorem execCredentialDelete_base (ref : Nat) (s : State) (after : State) (h : execCredentialDelete ref s = .next after) :
    after.base = s.base := by
  unfold execCredentialDelete at h; cases h
  simp

theorem execCredentialOutboundSet_base (ref : Nat) (r : HostRead) (s : State) (after : State) (h : execCredentialOutboundSet ref r s = .next after) :
    after.base = s.base := by
  unfold execCredentialOutboundSet at h; cases h
  simp

theorem execCredentialOutboundDelete_base (ref : Nat) (s : State) (after : State) (h : execCredentialOutboundDelete ref s = .next after) :
    after.base = s.base := by
  unfold execCredentialOutboundDelete at h; cases h
  simp

theorem execKeyslotImport_base (ref : Nat) (r : HostRead) (s : State) (after : State) (h : execKeyslotImport ref r s = .next after) :
    after.base = s.base := by
  unfold execKeyslotImport at h; cases h
  simp

theorem execKeyslotErase_base (ref : Nat) (s : State) (after : State) (h : execKeyslotErase ref s = .next after) :
    after.base = s.base := by
  unfold execKeyslotErase at h; cases h
  simp

theorem execKeyslotSetLimit_base (ref : Nat) (s : State) (after : State) (h : execKeyslotSetLimit ref s = .next after) :
    after.base = s.base := by
  unfold execKeyslotSetLimit at h; cases h
  simp

theorem execKeyslotQuery_base (ref : Nat) (w : HostWrite) (s : State) (after : State) (h : execKeyslotQuery ref w s = .next after) :
    after.base = s.base := by
  unfold execKeyslotQuery at h; cases h
  simp

theorem execAdmFormat_base (ref : Nat) (s : State) (after : State) (h : execAdmFormat ref s = .next after) :
    after.base = s.base := by
  unfold execAdmFormat at h; cases h
  refine State.withReady_base _ _ _ _ ?_
  intro c u; (try dsimp only); (repeat' split) <;> simp

theorem execAdmAttest_base (ref : Nat) (w : HostWrite) (s : State) (after : State) (h : execAdmAttest ref w s = .next after) :
    after.base = s.base := by
  unfold execAdmAttest at h; cases h
  simp

theorem execHealthRead_base (ref : Nat) (w : HostWrite) (s : State) (after : State) (h : execHealthRead ref w s = .next after) :
    after.base = s.base := by
  unfold execHealthRead at h; cases h
  simp

theorem execHealthAck_base (ref : Nat) (s : State) (after : State) (h : execHealthAck ref s = .next after) :
    after.base = s.base := by
  unfold execHealthAck at h; cases h
  simp

theorem execAdmLogRead_base (ref : Nat) (w : HostWrite) (s : State) (after : State) (h : execAdmLogRead ref w s = .next after) :
    after.base = s.base := by
  unfold execAdmLogRead at h; cases h
  simp

theorem execConnectionRequest_base (req : ConnReq) (s : State) (after : State) (h : execConnectionRequest req s = .next after) :
    after.base = s.base := by
  unfold execConnectionRequest at h; cases h
  simp

theorem execHostDreq_base (sid : Nat) (s : State) (after : State) (h : execHostDreq sid s = .next after) :
    after.base = s.base := by
  unfold execHostDreq at h; cases h
  simp

theorem execInvalidHostOperation_base (sid : Nat) (s : State) (after : State) (h : execInvalidHostOperation sid s = .next after) :
    after.base = s.base := by
  unfold execInvalidHostOperation at h; cases h
  simp

theorem execQpError_base (sid : Nat) (s : State) (after : State) (h : execQpError sid s = .next after) :
    after.base = s.base := by
  unfold execQpError at h; cases h
  simp

theorem execSessionAgeOut_base (sid : Nat) (s : State) (after : State) (h : execSessionAgeOut sid s = .next after) :
    after.base = s.base := by
  unfold execSessionAgeOut at h; cases h
  split <;> simp

theorem execOrphanHoldExpire_base (sid : Nat) (s : State) (after : State) (h : execOrphanHoldExpire sid s = .next after) :
    after.base = s.base := by
  unfold execOrphanHoldExpire at h; cases h
  split <;> simp

theorem execDoorbellPoll_base (sid ring : Nat) (s : State) (after : State) (h : execDoorbellPoll sid ring s = .next after) :
    after.base = s.base := by
  unfold execDoorbellPoll at h; cases h
  split <;> simp

theorem execDoorbellReadResponse_base (sid ring : Nat) (producer : BitVec 32) (s : State) (after : State) (h : execDoorbellReadResponse sid ring producer s = .next after) :
    after.base = s.base := by
  unfold execDoorbellReadResponse at h; cases h
  split <;> simp

theorem execDescriptorFetch_base (sid ring : Nat) (descs : List Bytes) (s : State) (after : State) (h : execDescriptorFetch sid ring descs s = .next after) :
    after.base = s.base := by
  unfold execDescriptorFetch at h; cases h
  split <;> simp

theorem execRingIdleTimeout_base (sid ring : Nat) (reread : BitVec 32) (s : State) (after : State) (h : execRingIdleTimeout sid ring reread s = .next after) :
    after.base = s.base := by
  unfold execRingIdleTimeout at h; cases h
  split <;> simp

theorem execIdleSweep_base (seen : List (Nat × Nat × BitVec 32)) (s : State) (after : State) (h : execIdleSweep seen s = .next after) :
    after.base = s.base := by
  unfold execIdleSweep at h; cases h
  first
  | ((repeat' split) <;> simp; done)
  | ((repeat' split) <;> (try simp) <;>
      (rw [foldl_base _ (by intro s a; (repeat' split) <;> simp)]) <;> simp)

theorem execNudge_base (sid : Nat) (imm : BitVec 32) (seen : List (Nat × BitVec 32)) (s : State) (after : State) (h : execNudge sid imm seen s = .next after) :
    after.base = s.base := by
  unfold execNudge at h; cases h
  split <;> simp

theorem execCompletionEvent_base (sid ring : Nat) (s : State) (after : State) (h : execCompletionEvent sid ring s = .next after) :
    after.base = s.base := by
  unfold execCompletionEvent at h; cases h
  split <;> simp

theorem execStagedFieldWrite_base (p : Path) (offset : Nat) (w : Word) (s : State) (after : State) (h : execStagedFieldWrite p offset w s = .next after) :
    after.base = s.base := by
  unfold execStagedFieldWrite at h; cases h
  simp

theorem execPortConfigApply_base (p : Path) (port expectSeq : Nat) (s : State) (after : State) (h : execPortConfigApply p port expectSeq s = .next after) :
    after.base = s.base := by
  unfold execPortConfigApply at h; cases h
  simp

theorem execAddressApply_base (p : Path) (lport expectSeq : Nat) (s : State) (after : State) (h : execAddressApply p lport expectSeq s = .next after) :
    after.base = s.base := by
  unfold execAddressApply at h; cases h
  simp

theorem execBootstrapApply_base (p : Path) (expectSeq : Nat) (s : State) (after : State) (h : execBootstrapApply p expectSeq s = .next after) :
    after.base = s.base := by
  unfold execBootstrapApply at h; cases h
  simp

theorem execStageDiscard_base (p : Path) (g : StageGroup) (s : State) (after : State) (h : execStageDiscard p g s = .next after) :
    after.base = s.base := by
  unfold execStageDiscard at h; cases h
  simp

theorem execSetupEnable_base (sid : Nat) (s : State) (after : State) (h : execSetupEnable sid s = .next after) :
    after.base = s.base := by
  unfold execSetupEnable at h; cases h
  simp

theorem execSetupEnableResume_base (sid : Nat) (s : State) (after : State) (h : execSetupEnableResume sid s = .next after) :
    after.base = s.base := by
  unfold execSetupEnableResume at h; cases h
  simp

theorem execSetupReset_base (sid : Nat) (s : State) (after : State) (h : execSetupReset sid s = .next after) :
    after.base = s.base := by
  unfold execSetupReset at h; cases h
  simp

theorem execWindowOpen_base (sid : Nat) (s : State) (after : State) (h : execWindowOpen sid s = .next after) :
    after.base = s.base := by
  unfold execWindowOpen at h; cases h
  simp

theorem execAdmImageBlock_base (ref : Nat) (r : HostRead) (s : State) (after : State) (h : execAdmImageBlock ref r s = .next after) :
    after.base = s.base := by
  unfold execAdmImageBlock at h; cases h
  simp

theorem execAdmImageCommit_base (ref : Nat) (s : State) (after : State) (h : execAdmImageCommit ref s = .next after) :
    after.base = s.base := by
  unfold execAdmImageCommit at h; cases h
  simp

theorem execImageCommitApply_base (ref : Nat) (s : State) (after : State) (h : execImageCommitApply ref s = .next after) :
    after.base = s.base := by
  unfold execImageCommitApply at h; cases h
  simp

theorem execImageCommitRevert_base (ref : Nat) (s : State) (after : State) (h : execImageCommitRevert ref s = .next after) :
    after.base = s.base := by
  unfold execImageCommitRevert at h; cases h
  simp

theorem execApplyWarmStart_base (s : State) (after : State) (h : execApplyWarmStart s = .next after) :
    after.base = s.base := by
  unfold execApplyWarmStart at h; cases h
  simp

theorem execTrialBankFail_base (comp : Nat) (s : State) (after : State) (h : execTrialBankFail comp s = .next after) :
    after.base = s.base := by
  unfold execTrialBankFail at h; cases h
  simp

theorem execImageBankTimeout_base (comp : Nat) (s : State) (after : State) (h : execImageBankTimeout comp s = .next after) :
    after.base = s.base := by
  unfold execImageBankTimeout at h; cases h
  simp

theorem execAdmMigrateConfirm_base (ref : Nat) (s : State) (after : State) (h : execAdmMigrateConfirm ref s = .next after) :
    after.base = s.base := by
  unfold execAdmMigrateConfirm at h; cases h
  simp

theorem execIdleTimerExpire_base (s : State) (after : State) (h : execIdleTimerExpire s = .next after) :
    after.base = s.base := by
  unfold execIdleTimerExpire at h; cases h
  simp

theorem execPowerStateEntered_base (s : State) (after : State) (h : execPowerStateEntered s = .next after) :
    after.base = s.base := by
  unfold execPowerStateEntered at h; cases h
  split <;> simp

theorem execP0Reached_base (s : State) (after : State) (h : execP0Reached s = .next after) :
    after.base = s.base := by
  unfold execP0Reached at h; cases h
  simp

theorem execCleanShutdownDone_base (s : State) (after : State) (h : execCleanShutdownDone s = .next after) :
    after.base = s.base := by
  unfold execCleanShutdownDone at h; cases h
  (repeat' split) <;> simp

theorem execCtrlColdRestart_base (p : Path) (s : State) (after : State) (h : execCtrlColdRestart p s = .next after) :
    after.base = s.base := by
  unfold execCtrlColdRestart at h; cases h
  simp

theorem execColdStart_base (f : Front) (volt : Nat) (s : State) (after : State) (h : execColdStart f volt s = .next after) :
    after.base = s.base := by
  unfold execColdStart at h; cases h
  simp

theorem execStartStepReached_base (facts : StartFacts) (s : State) (after : State) (h : execStartStepReached facts s = .next after) :
    after.base = s.base := by
  unfold execStartStepReached at h; cases h
  simp

theorem execIslandWakeFail_base (i : IslandOf) (oscillator : Bool) (s : State) (after : State) (h : execIslandWakeFail i oscillator s = .next after) :
    after.base = s.base := by
  unfold execIslandWakeFail at h; cases h
  simp

theorem execIslandRetry_base (i : IslandOf) (ok : Bool) (s : State) (after : State) (h : execIslandRetry i ok s = .next after) :
    after.base = s.base := by
  unfold execIslandRetry at h; cases h
  split <;> simp

theorem execColdPrepare_base (coldest : Int) (s : State) (after : State) (h : execColdPrepare coldest s = .next after) :
    after.base = s.base := by
  unfold execColdPrepare at h; cases h
  simp

theorem execWarmingEnter_base (coldest : Int) (s : State) (after : State) (h : execWarmingEnter coldest s = .next after) :
    after.base = s.base := by
  unfold execWarmingEnter at h; cases h
  simp

theorem execWarmingExit_base (coldest : Int) (s : State) (after : State) (h : execWarmingExit coldest s = .next after) :
    after.base = s.base := by
  unfold execWarmingExit at h; cases h
  simp

theorem execWarmingLong_base (coldest : Int) (s : State) (after : State) (h : execWarmingLong coldest s = .next after) :
    after.base = s.base := by
  unfold execWarmingLong at h; cases h
  simp

theorem execAttnAck_base (p : Path) (mask : Word) (s : State) (after : State) (h : execAttnAck p mask s = .next after) :
    after.base = s.base := by
  unfold execAttnAck at h; cases h
  simp

theorem execCounterSnap_base (p : Path) (link : LinkId) (s : State) (after : State) (h : execCounterSnap p link s = .next after) :
    after.base = s.base := by
  unfold execCounterSnap at h; cases h
  simp

theorem execPpsSecondsWrite_base (p : Path) (seconds : Nat) (s : State) (after : State) (h : execPpsSecondsWrite p seconds s = .next after) :
    after.base = s.base := by
  unfold execPpsSecondsWrite at h; cases h
  simp

theorem execTimeSourceWrite_base (p : Path) (source port : Nat) (s : State) (after : State) (h : execTimeSourceWrite p source port s = .next after) :
    after.base = s.base := by
  unfold execTimeSourceWrite at h; cases h
  simp

theorem execRegisterWrite_base (p : Path) (offset : Nat) (words : List Word) (s : State) (after : State) (h : execRegisterWrite p offset words s = .next after) :
    after.base = s.base := by
  unfold execRegisterWrite at h; cases h
  (repeat' split) <;> simp

theorem execMgmtWatchdog_base (s : State) (after : State) (h : execMgmtWatchdog s = .next after) :
    after.base = s.base := by
  unfold execMgmtWatchdog at h; cases h
  simp

theorem execMgmtRestartDone_base (s : State) (after : State) (h : execMgmtRestartDone s = .next after) :
    after.base = s.base := by
  unfold execMgmtRestartDone at h; cases h
  simp

theorem execTimeIslandFail_base (s : State) (after : State) (h : execTimeIslandFail s = .next after) :
    after.base = s.base := by
  unfold execTimeIslandFail at h; cases h
  simp

theorem execTimeIslandRestarted_base (s : State) (after : State) (h : execTimeIslandRestarted s = .next after) :
    after.base = s.base := by
  unfold execTimeIslandRestarted at h; cases h
  simp

theorem execWindowCompute_base (volts : List Nat) (s : State) (after : State) (h : execWindowCompute volts s = .next after) :
    after.base = s.base := by
  unfold execWindowCompute at h; cases h
  simp

theorem execCapacitanceStep_base (caps : List Nat) (s : State) (after : State) (h : execCapacitanceStep caps s = .next after) :
    after.base = s.base := by
  unfold execCapacitanceStep at h; cases h
  simp

theorem execStringLoss_base (i : Nat) (s : State) (after : State) (h : execStringLoss i s = .next after) :
    after.base = s.base := by
  unfold execStringLoss at h; cases h
  simp

theorem execWindowResultTimeout_base (s : State) (after : State) (h : execWindowResultTimeout s = .next after) :
    after.base = s.base := by
  unfold execWindowResultTimeout at h; cases h
  simp

theorem execWriteThroughTimeout_base (s : State) (after : State) (h : execWriteThroughTimeout s = .next after) :
    after.base = s.base := by
  unfold execWriteThroughTimeout at h; cases h
  simp

theorem execWindowLowTimeout_base (s : State) (after : State) (h : execWindowLowTimeout s = .next after) :
    after.base = s.base := by
  unfold execWindowLowTimeout at h; cases h
  simp

theorem execFeedLost_base (f : Front) (volt : Nat) (s : State) (after : State) (h : execFeedLost f volt s = .next after) :
    after.base = s.base := by
  unfold execFeedLost at h; cases h
  simp

theorem execCommitOrDiscardDone_base (s : State) (after : State) (h : execCommitOrDiscardDone s = .next after) :
    after.base = s.base := by
  unfold execCommitOrDiscardDone at h; cases h
  simp

theorem execFlushDone_base (s : State) (after : State) (h : execFlushDone s = .next after) :
    after.base = s.base := by
  unfold execFlushDone at h; cases h
  simp

theorem execFlushShortfall_base (x : Shortfall) (s : State) (after : State) (h : execFlushShortfall x s = .next after) :
    after.base = s.base := by
  unfold execFlushShortfall at h; cases h
  simp

theorem execPowerLossEnd_base (feedBack : Bool) (s : State) (after : State) (h : execPowerLossEnd feedBack s = .next after) :
    after.base = s.base := by
  unfold execPowerLossEnd at h; cases h
  simp

theorem execHoldUpBankExhausted_base (s : State) (after : State) (h : execHoldUpBankExhausted s = .next after) :
    after.base = s.base := by
  unfold execHoldUpBankExhausted at h; cases h
  simp

theorem execFeedRequalified_base (f : Front) (volt : Nat) (s : State) (after : State) (h : execFeedRequalified f volt s = .next after) :
    after.base = s.base := by
  unfold execFeedRequalified at h; cases h
  simp

theorem execEfusePowerGood_base (f : Front) (s : State) (after : State) (h : execEfusePowerGood f s = .next after) :
    after.base = s.base := by
  unfold execEfusePowerGood at h; cases h
  simp

theorem execEfuseTrip_base (f : Front) (c : EfuseCond) (s : State) (after : State) (h : execEfuseTrip f c s = .next after) :
    after.base = s.base := by
  unfold execEfuseTrip at h; cases h
  simp

theorem execEfuseRetry_base (f : Front) (s : State) (after : State) (h : execEfuseRetry f s = .next after) :
    after.base = s.base := by
  unfold execEfuseRetry at h; cases h
  simp

theorem execPresentDeassert_base (s : State) (after : State) (h : execPresentDeassert s = .next after) :
    after.base = s.base := by
  unfold execPresentDeassert at h; cases h
  simp

theorem execPresentAssert_base (offHundredMs : Bool) (s : State) (after : State) (h : execPresentAssert offHundredMs s = .next after) :
    after.base = s.base := by
  unfold execPresentAssert at h; cases h
  simp

theorem execThrottleRaise_base (i : Island) (reading : Int) (s : State) (after : State) (h : execThrottleRaise i reading s = .next after) :
    after.base = s.base := by
  unfold execThrottleRaise at h; cases h
  simp

theorem execThrottleLower_base (i : Island) (reading : Int) (s : State) (after : State) (h : execThrottleLower i reading s = .next after) :
    after.base = s.base := by
  unfold execThrottleLower at h; cases h
  simp

theorem execThermalTrip_base (i : Island) (x : TripReading) (s : State) (after : State) (h : execThermalTrip i x s = .next after) :
    after.base = s.base := by
  unfold execThermalTrip at h; cases h
  simp

theorem execTripRecovery_base (i : Island) (s : State) (after : State) (h : execTripRecovery i s = .next after) :
    after.base = s.base := by
  unfold execTripRecovery at h; cases h
  simp

theorem execTripRebuildTimeout_base (i : Island) (s : State) (after : State) (h : execTripRebuildTimeout i s = .next after) :
    after.base = s.base := by
  unfold execTripRebuildTimeout at h; cases h
  (repeat' split) <;> simp

theorem execSensorBroken_base (q : Sensor) (s : State) (after : State) (h : execSensorBroken q s = .next after) :
    after.base = s.base := by
  unfold execSensorBroken at h; cases h
  (repeat' split) <;> simp

theorem execCoolantInletReading_base (reading : Int) (s : State) (after : State) (h : execCoolantInletReading reading s = .next after) :
    after.base = s.base := by
  unfold execCoolantInletReading at h; cases h
  simp

theorem execPageReadDone_base (ref : Nat) (o : PageOutcome) (w : HostWrite) (s : State) (after : State) (h : execPageReadDone ref o w s = .next after) :
    after.base = s.base := by
  unfold execPageReadDone at h; cases h
  (repeat' split) <;> simp

theorem execResultRecordWrite_base (num : Nat) (r : ResultBody) (w : HostWrite) (s : State) (after : State) (h : execResultRecordWrite num r w s = .next after) :
    after.base = s.base := by
  unfold execResultRecordWrite at h; cases h
  split <;> simp

theorem execSlcProgramDone_base (p : SlcProgram) (s : State) (after : State) (h : execSlcProgramDone p s = .next after) :
    after.base = s.base := by
  unfold execSlcProgramDone at h; cases h
  (repeat' split) <;> simp

theorem execStripeComplete_base (stripe : Nat) (fills : List StripeFill) (s : State) (after : State) (h : execStripeComplete stripe fills s = .next after) :
    after.base = s.base := by
  unfold execStripeComplete at h; cases h; (try dsimp only)
  (repeat' split) <;> (try simp)
  rename_i h1 _ _ _ h2
  rw [fillStripes_base _ _ _ _ h2, s.bandFor_base _ _ h1]

theorem execStripePadTimeout_base (moon : Nat) (s : State) (after : State) (h : execStripePadTimeout moon s = .next after) :
    after.base = s.base := by
  unfold execStripePadTimeout at h; cases h
  simp

theorem execGarbageCollection_base (band : Nat) (s : State) (after : State) (h : execGarbageCollection band s = .next after) :
    after.base = s.base := by
  unfold execGarbageCollection at h; cases h
  split <;> simp

theorem execReadDisturbRefresh_base (i : BlockId) (s : State) (after : State) (h : execReadDisturbRefresh i s = .next after) :
    after.base = s.base := by
  unfold execReadDisturbRefresh at h; cases h
  simp

theorem execReadCounterSave_base (moon : Nat) (s : State) (after : State) (h : execReadCounterSave moon s = .next after) :
    after.base = s.base := by
  unfold execReadCounterSave at h; cases h
  simp

theorem execAgeRefresh_base (data : AgedData) (s : State) (after : State) (h : execAgeRefresh data s = .next after) :
    after.base = s.base := by
  unfold execAgeRefresh at h; cases h
  (repeat' split) <;> simp

theorem execWearLevelling_base (band : Nat) (s : State) (after : State) (h : execWearLevelling band s = .next after) :
    after.base = s.base := by
  unfold execWearLevelling at h; cases h
  split <;> simp

theorem execMapWriteback_base (moon : Nat) (s : State) (after : State) (h : execMapWriteback moon s = .next after) :
    after.base = s.base := by
  unfold execMapWriteback at h; cases h
  simp

theorem execAgeClockTick_base (temps : List (Nat × Nat × Int)) (s : State) (after : State) (h : execAgeClockTick temps s = .next after) :
    after.base = s.base := by
  unfold execAgeClockTick at h; cases h
  simp

theorem execRetentionSample_base (i : BlockId) (x : Sample) (s : State) (after : State) (h : execRetentionSample i x s = .next after) :
    after.base = s.base := by
  unfold execRetentionSample at h; cases h
  simp

theorem execBlockRetire_base (i : BlockId) (cause : RetireCause) (s : State) (after : State) (h : execBlockRetire i cause s = .next after) :
    after.base = s.base := by
  unfold execBlockRetire at h; cases h
  simp

theorem execRebuildDone_base (num : Nat) (s : State) (after : State) (h : execRebuildDone num s = .next after) :
    after.base = s.base := by
  unfold execRebuildDone at h; cases h
  split <;> simp

theorem execHealthDailySample_base (values : List (Nat × Nat × Nat × Int)) (s : State) (after : State) (h : execHealthDailySample values s = .next after) :
    after.base = s.base := by
  unfold execHealthDailySample at h; cases h
  simp

theorem execDieLost_base (moon die : Nat) (s : State) (after : State) (h : execDieLost moon die s = .next after) :
    after.base = s.base := by
  unfold execDieLost at h; cases h
  split <;> simp

theorem execChannelLost_base (moon channel : Nat) (s : State) (after : State) (h : execChannelLost moon channel s = .next after) :
    after.base = s.base := by
  unfold execChannelLost at h; cases h
  split <;> simp

theorem execMoonLost_base (moon cause : Nat) (s : State) (after : State) (h : execMoonLost moon cause s = .next after) :
    after.base = s.base := by
  unfold execMoonLost at h; cases h
  simp

theorem execFrontLost_base (f : Front) (loss : FrontLoss) (s : State) (after : State) (h : execFrontLost f loss s = .next after) :
    after.base = s.base := by
  unfold execFrontLost at h; cases h
  simp

theorem execFrontReturn_base (f : Front) (s : State) (after : State) (h : execFrontReturn f s = .next after) :
    after.base = s.base := by
  unfold execFrontReturn at h; cases h
  split <;> simp

theorem execDramDeviceFailed_base (u : UnitId) (x : DramChannel) (s : State) (after : State) (h : execDramDeviceFailed u x s = .next after) :
    after.base = s.base := by
  unfold execDramDeviceFailed at h; cases h
  simp

theorem execHostPortFailed_base (port : Nat) (sub : Option Nat) (cause : Nat) (s : State) (after : State) (h : execHostPortFailed port sub cause s = .next after) :
    after.base = s.base := by
  unfold execHostPortFailed at h; cases h
  simp

theorem execPortReturn_base (lport : Nat) (s : State) (after : State) (h : execPortReturn lport s = .next after) :
    after.base = s.base := by
  unfold execPortReturn at h; cases h
  simp

theorem execCipherMismatch_base (moon : Nat) (secondFails : Bool) (s : State) (after : State) (h : execCipherMismatch moon secondFails s = .next after) :
    after.base = s.base := by
  unfold execCipherMismatch at h; cases h
  split <;> simp

theorem execFatalFault_base (cause : Nat) (s : State) (after : State) (h : execFatalFault cause s = .next after) :
    after.base = s.base := by
  unfold execFatalFault at h; cases h
  simp

theorem execVaultAlarm_base (row : Nat) (s : State) (after : State) (h : execVaultAlarm row s = .next after) :
    after.base = s.base := by
  unfold execVaultAlarm at h; cases h
  simp

theorem execKeyCacheZeroize_base (s : State) (after : State) (h : execKeyCacheZeroize s = .next after) :
    after.base = s.base := by
  unfold execKeyCacheZeroize at h; cases h
  simp

theorem execAsuScrub_base (f : Front) (t : AsuTable) (found : Option AsuFinding) (s : State) (after : State) (h : execAsuScrub f t found s = .next after) :
    after.base = s.base := by
  unfold execAsuScrub at h; cases h
  (repeat' split) <;> simp

theorem execAsuPeerRepair_base (f : Front) (t : AsuTable) (row : Nat) (s : State) (after : State) (h : execAsuPeerRepair f t row s = .next after) :
    after.base = s.base := by
  unfold execAsuPeerRepair at h; cases h
  simp

theorem execPairForm_base (ref : Nat) (partner : PartnerInfo) (read cas : WitnessAnswer) (s : State) (after : State) (h : execPairForm ref partner read cas s = .next after) :
    after.base = s.base := by
  unfold execPairForm at h; cases h
  simp

theorem execPairJoin_base (ref : Nat) (s : State) (after : State) (h : execPairJoin ref s = .next after) :
    after.base = s.base := by
  unfold execPairJoin at h; cases h
  simp

theorem execPairSwap_base (ref : Nat) (cas : WitnessAnswer) (s : State) (after : State) (h : execPairSwap ref cas s = .next after) :
    after.base = s.base := by
  unfold execPairSwap at h; cases h
  simp

theorem execPairDissolve_base (ref : Nat) (s : State) (after : State) (h : execPairDissolve ref s = .next after) :
    after.base = s.base := by
  unfold execPairDissolve at h; cases h
  simp

theorem execPairDissolveForce_base (ref : Nat) (s : State) (after : State) (h : execPairDissolveForce ref s = .next after) :
    after.base = s.base := by
  unfold execPairDissolveForce at h; cases h
  simp

theorem execPairSetWitness_base (ref : Nat) (cas : WitnessAnswer) (s : State) (after : State) (h : execPairSetWitness ref cas s = .next after) :
    after.base = s.base := by
  unfold execPairSetWitness at h; cases h
  simp

theorem execPairQuery_base (ref : Nat) (w : HostWrite) (s : State) (after : State) (h : execPairQuery ref w s = .next after) :
    after.base = s.base := by
  unfold execPairQuery at h; cases h
  simp

theorem execHeartbeatSend_base (s : State) (after : State) (h : execHeartbeatSend s = .next after) :
    after.base = s.base := by
  unfold execHeartbeatSend at h; cases h
  simp

theorem execHeartbeatReceive_base (link : Nat) (f : PairFrame) (b : HeartbeatBody) (s : State) (after : State) (h : execHeartbeatReceive link f b s = .next after) :
    after.base = s.base := by
  unfold execHeartbeatReceive at h; cases h
  simp

theorem execHeartbeatTimeout_base (link : Nat) (s : State) (after : State) (h : execHeartbeatTimeout link s = .next after) :
    after.base = s.base := by
  unfold execHeartbeatTimeout at h; cases h
  split <;> simp

theorem execPairAliveLost_base (s : State) (after : State) (h : execPairAliveLost s = .next after) :
    after.base = s.base := by
  unfold execPairAliveLost at h; cases h
  simp

theorem execPairAliveRestored_base (s : State) (after : State) (h : execPairAliveRestored s = .next after) :
    after.base = s.base := by
  unfold execPairAliveRestored at h; cases h
  simp

theorem execHelloReceive_base (cable : PairCable) (f : PairFrame) (serial : Bytes) (inStep : Bool) (s : State) (after : State) (h : execHelloReceive cable f serial inStep s = .next after) :
    after.base = s.base := by
  unfold execHelloReceive at h; cases h
  split <;> simp

theorem execGaspReceive_base (read cas : WitnessAnswer) (s : State) (after : State) (h : execGaspReceive read cas s = .next after) :
    after.base = s.base := by
  unfold execGaspReceive at h; cases h
  (repeat' split) <;> simp

theorem execWitnessPoll_base (read : WitnessAnswer) (sameFor505ms : Bool) (cas : WitnessAnswer) (s : State) (after : State) (h : execWitnessPoll read sameFor505ms cas s = .next after) :
    after.base = s.base := by
  unfold execWitnessPoll at h; cases h
  (repeat' split) <;> simp

theorem execPairForwardReceive_base (fw : PairForward) (s : State) (after : State) (h : execPairForwardReceive fw s = .next after) :
    after.base = s.base := by
  unfold execPairForwardReceive at h; cases h
  simp

theorem execCompletionAckReport_base (refs : List Nat) (s : State) (after : State) (h : execCompletionAckReport refs s = .next after) :
    after.base = s.base := by
  unfold execCompletionAckReport at h; cases h
  simp

theorem execPartnerRecordHeld_base (record : PartnerRecord) (s : State) (after : State) (h : execPartnerRecordHeld record s = .next after) :
    after.base = s.base := by
  unfold execPartnerRecordHeld at h; cases h
  (repeat' split) <;> simp

theorem execLeaseRenew_base (s : State) (after : State) (h : execLeaseRenew s = .next after) :
    after.base = s.base := by
  unfold execLeaseRenew at h; cases h
  simp

theorem execWitnessCasResponse_base (ans : WitnessAnswer) (s : State) (after : State) (h : execWitnessCasResponse ans s = .next after) :
    after.base = s.base := by
  unfold execWitnessCasResponse at h; cases h
  split <;> simp

theorem execLeaseExpire_base (s : State) (after : State) (h : execLeaseExpire s = .next after) :
    after.base = s.base := by
  unfold execLeaseExpire at h; cases h
  simp

theorem execJoinExpire_base (s : State) (after : State) (h : execJoinExpire s = .next after) :
    after.base = s.base := by
  unfold execJoinExpire at h; cases h
  simp

theorem execSwapRequestReceive_base (epoch : Nat) (dissolve : Bool) (cas : WitnessAnswer) (s0 : State) (after : State) (h : execSwapRequestReceive epoch dissolve cas s0 = .next after) :
    after.base = s0.base := by
  unfold execSwapRequestReceive at h; cases h
  (repeat' split) <;> simp

theorem execSwapDoneReceive_base (epoch word : Nat) (swap : SwapRecord) (s0 : State) (after : State) (h : execSwapDoneReceive epoch word swap s0 = .next after) :
    after.base = s0.base := by
  unfold execSwapDoneReceive at h; cases h
  simp

theorem execResyncFrameReceive_base (snapshot : Nat) (keys : List (Nat × Bytes × Nat)) (fetched : List Forwarded) (last : Bool) (s : State) (after : State) (h : execResyncFrameReceive snapshot keys fetched last s = .next after) :
    after.base = s.base := by
  unfold execResyncFrameReceive at h; cases h
  simp

theorem execResyncDone_base (cas : WitnessAnswer) (s : State) (after : State) (h : execResyncDone cas s = .next after) :
    after.base = s.base := by
  unfold execResyncDone at h; cases h
  split <;> simp

theorem execLinkUp_base (link : LinkId) (s : State) (after : State) (h : execLinkUp link s = .next after) :
    after.base = s.base := by
  unfold execLinkUp at h; cases h
  (repeat' split) <;> simp

theorem execAnnounceRepeat_base (x : Sending LinkId) (s : State) (after : State) (h : execAnnounceRepeat x s = .next after) :
    after.base = s.base := by
  unfold execAnnounceRepeat at h; cases h
  split <;> simp

theorem execAddressResolutionRequest_base (lport : Nat) (target : Bytes) (x : Sending Nat) (s : State) (after : State) (h : execAddressResolutionRequest lport target x s = .next after) :
    after.base = s.base := by
  unfold execAddressResolutionRequest at h; cases h
  simp

theorem execFrameReceive_base (link : LinkId) (f : RxFrame) (s : State) (after : State) (h : execFrameReceive link f s = .next after) :
    after.base = s.base := by
  unfold execFrameReceive at h; cases h
  (repeat' split) <;> simp

theorem execPfcFrame_base (lport : Nat) (paused : Bool) (s : State) (after : State) (h : execPfcFrame lport paused s = .next after) :
    after.base = s.base := by
  unfold execPfcFrame at h; cases h
  simp

theorem execCnpReceive_base (lport : Nat) (s : State) (after : State) (h : execCnpReceive lport s = .next after) :
    after.base = s.base := by
  unfold execCnpReceive at h; cases h
  simp

theorem execEcnMarkedPacket_base (x : Sending Nat) (s : State) (after : State) (h : execEcnMarkedPacket x s = .next after) :
    after.base = s.base := by
  unfold execEcnMarkedPacket at h; cases h
  simp

theorem execGearUp_base (link : LinkId) (rx : Bool) (s : State) (after : State) (h : execGearUp link rx s = .next after) :
    after.base = s.base := by
  unfold execGearUp at h; cases h
  simp

theorem execGearDown_base (link : LinkId) (rx : Bool) (s : State) (after : State) (h : execGearDown link rx s = .next after) :
    after.base = s.base := by
  unfold execGearDown at h; cases h
  simp

theorem execAdmProgramLoad_base (ref : Nat) (s : State) (after : State) (h : execAdmProgramLoad ref s = .next after) :
    after.base = s.base := by
  unfold execAdmProgramLoad at h; cases h
  simp

theorem execProgramUnload_base (ref : Nat) (s : State) (after : State) (h : execProgramUnload ref s = .next after) :
    after.base = s.base := by
  unfold execProgramUnload at h; cases h
  simp

theorem execProgramLoadTurn_base (slot : Nat) (r : HostRead) (s : State) (after : State) (h : execProgramLoadTurn slot r s = .next after) :
    after.base = s.base := by
  unfold execProgramLoadTurn at h; cases h
  (repeat' split) <;> simp

theorem execRangeMapApply_base (ref : Nat) (r : HostRead) (s : State) (after : State) (h : execRangeMapApply ref r s = .next after) :
    after.base = s.base := by
  unfold execRangeMapApply at h; cases h
  simp

theorem execRangeMapQuery_base (ref : Nat) (w : HostWrite) (s : State) (after : State) (h : execRangeMapQuery ref w s = .next after) :
    after.base = s.base := by
  unfold execRangeMapQuery at h; cases h
  simp

theorem execTagInventory_base (s : State) (after : State) (h : execTagInventory s = .next after) :
    after.base = s.base := by
  unfold execTagInventory at h; cases h
  simp

theorem execTagStayQuiet_base (uid : Bytes) (s : State) (after : State) (h : execTagStayQuiet uid s = .next after) :
    after.base = s.base := by
  unfold execTagStayQuiet at h; cases h
  simp

theorem execTagSelect_base (uid : Bytes) (s : State) (after : State) (h : execTagSelect uid s = .next after) :
    after.base = s.base := by
  unfold execTagSelect at h; cases h
  simp

theorem execTagResetToReady_base (s : State) (after : State) (h : execTagResetToReady s = .next after) :
    after.base = s.base := by
  unfold execTagResetToReady at h; cases h
  simp

theorem execTagGetSystemInfo_base (extended : Bool) (s : State) (after : State) (h : execTagGetSystemInfo extended s = .next after) :
    after.base = s.base := by
  unfold execTagGetSystemInfo at h; cases h
  simp

theorem execTagReadSingleBlock_base (block : Nat) (s : State) (after : State) (h : execTagReadSingleBlock block s = .next after) :
    after.base = s.base := by
  unfold execTagReadSingleBlock at h; cases h
  simp

theorem execTagReadMultipleBlocks_base (block count : Nat) (s : State) (after : State) (h : execTagReadMultipleBlocks block count s = .next after) :
    after.base = s.base := by
  unfold execTagReadMultipleBlocks at h; cases h
  simp

theorem execTagLockBlock_base (b : Nat) (s : State) (after : State) (h : execTagLockBlock b s = .next after) :
    after.base = s.base := by
  unfold execTagLockBlock at h; cases h
  simp

theorem execTagRfSessionEnd_base (s : State) (after : State) (h : execTagRfSessionEnd s = .next after) :
    after.base = s.base := by
  unfold execTagRfSessionEnd at h; cases h
  simp

theorem execTagHealthUpdate_base (s : State) (after : State) (h : execTagHealthUpdate s = .next after) :
    after.base = s.base := by
  unfold execTagHealthUpdate at h; cases h
  simp

theorem execUsbVbusChange_base (present : Bool) (s : State) (after : State) (h : execUsbVbusChange present s = .next after) :
    after.base = s.base := by
  unfold execUsbVbusChange at h; cases h
  simp

theorem execUsbBusReset_base (s : State) (after : State) (h : execUsbBusReset s = .next after) :
    after.base = s.base := by
  unfold execUsbBusReset at h; cases h
  simp

theorem execUsbStandardRequest_base (setup : Bytes) (s : State) (after : State) (h : execUsbStandardRequest setup s = .next after) :
    after.base = s.base := by
  unfold execUsbStandardRequest at h; cases h
  simp

theorem execRspUnknownRequest_base (setup : Bytes) (s : State) (after : State) (h : execRspUnknownRequest setup s = .next after) :
    after.base = s.base := by
  unfold execRspUnknownRequest at h; cases h
  simp

theorem execRspImageBlock_base (blk comp : Nat) (data : Bytes) (acked : Bool) (s : State) (after : State) (h : execRspImageBlock blk comp data acked s = .next after) :
    after.base = s.base := by
  unfold execRspImageBlock at h; cases h
  simp

theorem execRspImageCommit_base (comp : Nat) (apply revert : Bool) (digest : Bytes) (acked : Bool) (s : State) (after : State) (h : execRspImageCommit comp apply revert digest acked s = .next after) :
    after.base = s.base := by
  unfold execRspImageCommit at h; cases h
  simp

theorem execRspImageDiscard_base (comp : Nat) (acked : Bool) (s : State) (after : State) (h : execRspImageDiscard comp acked s = .next after) :
    after.base = s.base := by
  unfold execRspImageDiscard at h; cases h
  simp

theorem execRspMigrateConfirm_base (acked : Bool) (s : State) (after : State) (h : execRspMigrateConfirm acked s = .next after) :
    after.base = s.base := by
  unfold execRspMigrateConfirm at h; cases h
  simp

theorem execRspTagRead_base (offset len : Nat) (s : State) (after : State) (h : execRspTagRead offset len s = .next after) :
    after.base = s.base := by
  unfold execRspTagRead at h; cases h
  simp

theorem execRspTagLabelWrite_base (offset : Nat) (data : Bytes) (acked : Bool) (s : State) (after : State) (h : execRspTagLabelWrite offset data acked s = .next after) :
    after.base = s.base := by
  unfold execRspTagLabelWrite at h; cases h
  simp

theorem execRspStatus_base (s : State) (after : State) (h : execRspStatus s = .next after) :
    after.base = s.base := by
  unfold execRspStatus at h; cases h
  simp

theorem execRuleAdd_base (ref : Nat) (s : State) (after : State) (h : execRuleAdd ref s = .next after) :
    after.base = s.base := by
  unfold execRuleAdd at h; cases h
  simp

theorem execRuleRemove_base (ref : Nat) (s : State) (after : State) (h : execRuleRemove ref s = .next after) :
    after.base = s.base := by
  unfold execRuleRemove at h; cases h
  simp

theorem execRuleEvaluate_base (ref : Nat) (w : HostWrite) (s : State) (after : State) (h : execRuleEvaluate ref w s = .next after) :
    after.base = s.base := by
  unfold execRuleEvaluate at h; cases h
  simp

theorem execSidebandShortDetect_base (pin : Nat) (s : State) (after : State) (h : execSidebandShortDetect pin s = .next after) :
    after.base = s.base := by
  unfold execSidebandShortDetect at h; cases h
  simp

theorem execSidebandShortClear_base (pin : Nat) (s : State) (after : State) (h : execSidebandShortClear pin s = .next after) :
    after.base = s.base := by
  unfold execSidebandShortClear at h; cases h
  simp

theorem execAliveContentionDetect_base (s : State) (after : State) (h : execAliveContentionDetect s = .next after) :
    after.base = s.base := by
  unfold execAliveContentionDetect at h; cases h
  simp

theorem execAliveContentionTest_base (contended : Bool) (s : State) (after : State) (h : execAliveContentionTest contended s = .next after) :
    after.base = s.base := by
  unfold execAliveContentionTest at h; cases h
  simp

theorem execI3cEntdaa_base (addr : Nat) (s : State) (after : State) (h : execI3cEntdaa addr s = .next after) :
    after.base = s.base := by
  unfold execI3cEntdaa at h; cases h
  simp

theorem execSpdmGetVersion_base (s : State) (after : State) (h : execSpdmGetVersion s = .next after) :
    after.base = s.base := by
  unfold execSpdmGetVersion at h; cases h
  simp

theorem execSpdmGetCapabilities_base (s : State) (after : State) (h : execSpdmGetCapabilities s = .next after) :
    after.base = s.base := by
  unfold execSpdmGetCapabilities at h; cases h
  simp

theorem execSpdmNegotiateAlgorithms_base (s : State) (after : State) (h : execSpdmNegotiateAlgorithms s = .next after) :
    after.base = s.base := by
  unfold execSpdmNegotiateAlgorithms at h; cases h
  simp

theorem execSpdmGetDigests_base (s : State) (after : State) (h : execSpdmGetDigests s = .next after) :
    after.base = s.base := by
  unfold execSpdmGetDigests at h; cases h
  simp

theorem execSpdmGetCertificate_base (slot offset length : Nat) (s : State) (after : State) (h : execSpdmGetCertificate slot offset length s = .next after) :
    after.base = s.base := by
  unfold execSpdmGetCertificate at h; cases h
  simp

theorem execSpdmChallenge_base (slot : Nat) (nonce : Bytes) (s : State) (after : State) (h : execSpdmChallenge slot nonce s = .next after) :
    after.base = s.base := by
  unfold execSpdmChallenge at h; cases h
  simp

theorem execSpdmGetMeasurements_base (index : Nat) (signed : Bool) (nonce : Bytes) (s : State) (after : State) (h : execSpdmGetMeasurements index signed nonce s = .next after) :
    after.base = s.base := by
  unfold execSpdmGetMeasurements at h; cases h
  simp

theorem execSpdmUnsupportedRequest_base (code : Nat) (s : State) (after : State) (h : execSpdmUnsupportedRequest code s = .next after) :
    after.base = s.base := by
  unfold execSpdmUnsupportedRequest at h; cases h
  simp

theorem execPtpMessage_base (lport : Nat) (m : PtpMsg) (s : State) (after : State) (h : execPtpMessage lport m s = .next after) :
    after.base = s.base := by
  unfold execPtpMessage at h; cases h
  (repeat' split) <;> simp

theorem execPtpTimeout_base (s : State) (after : State) (h : execPtpTimeout s = .next after) :
    after.base = s.base := by
  unfold execPtpTimeout at h; cases h
  simp

theorem execPpsEdge_base (offsetNs : Int) (pulseNs : Nat) (s : State) (after : State) (h : execPpsEdge offsetNs pulseNs s = .next after) :
    after.base = s.base := by
  unfold execPpsEdge at h; cases h
  simp

theorem execPpsLoss_base (s : State) (after : State) (h : execPpsLoss s = .next after) :
    after.base = s.base := by
  unfold execPpsLoss at h; cases h
  simp

end Sys2Proof.Machine
end

