-- ==== Sys2Proof/Laws/Settings.lean ====
section
/-! SUPPORT. What a change of the settings can do (Machine/Settings.lean): when it takes effect at once, when it waits for the
partner, and which parts of the state it writes. -/

namespace Sys2Proof.Machine

variable (s : State) (c : Cmd) (after : ChangeEnd) (changes : List SettingsChange) (row : State → State)

/-- Where nothing is forwarded a change takes effect at once. -/
theorem State.configure_alone (h : s.forwards = false) :
    s.configure c after changes = s.conclude { ref := c.ref, changes := changes, after := after } := by
  simp [State.configure, h]

/-- A primary that forwards sends the change and waits. -/
theorem State.configure_forwards (h : s.forwards = true) :
    s.configure c after changes =
      ({ s with pair := { s.pair with change := some { ref := c.ref, changes := changes, after := after } } }).sendPair 0x13
        c.desc := by
  simp [State.configure, h]

/-- A change that completes its command: its effect, the completion, and what follows. -/
theorem State.conclude_done (ref : Nat) (k : Comp) :
    s.conclude { ref := ref, changes := changes, after := .done k } =
      changes.foldl State.afterChange ((changes.foldl State.applyChange s).finish ref k) := rfl

theorem State.settleChange_some (p : PendingChange) (h : s.pair.change = some p) :
    s.settleChange = ({ s with pair := { s.pair with change := none } }).conclude p := by
  simp [State.settleChange, h]

/-- Without a change that waits, a row has its turn. -/
theorem State.inTurn_none (h : s.pair.change = none) : s.inTurn row = row s := by
  have e : { s with pair := { s.pair with change := none } } = s := by rw [← h]
  simp [State.inTurn, h, e]

/-- While a change waits for the partner, no other row has its turn. -/
theorem State.inTurn_waits (h : s.pair.change ≠ none) (hf : s.forwards = true) : s.inTurn row = s := by
  simp [State.inTurn, hf, Option.isSome_iff_ne_none.mpr h]

/-- Where nothing is forwarded every row has its turn. -/
theorem State.inTurn_alone (h : s.forwards = false) :
    s.inTurn row = row { s with pair := { s.pair with change := none } } := by
  simp [State.inTurn, h]

/-- A change other than the deletion of a namespace writes namespaces, credentials, search tables, versions, programs and the
witness, and nothing else. -/
theorem State.applyChange_writes (x : SettingsChange) (h : ∀ n, x ≠ .nsGone n) :
    s.applyChange x = { s with ns := (s.applyChange x).ns, creds := (s.applyChange x).creds, asu := (s.applyChange x).asu,
                               kv := (s.applyChange x).kv, programs := (s.applyChange x).programs,
                               pair := (s.applyChange x).pair } := by
  cases x with
  | nsGone n => exact absurd rfl (h n)
  | outbound cred secret => cases secret <;> rfl
  | rangeMap epoch list => simp only [State.applyChange, State.installMap]; split <;> rfl
  | _ => rfl

end Sys2Proof.Machine
end

