-- ==== Sys2Proof/Laws/State.lean ====
section
/-! SUPPORT. The updates of State that the meanings share, field by field: what each leaves as it is, and what a command or
a session reads as after its update. -/

namespace Sys2Proof.Machine

variable (s : State)

/-! ### `State.emit` -/

@[simp] theorem State.emit_pending (o : Output) : (s.emit o).pending = s.pending := rfl
@[simp] theorem State.emit_fresh (o : Output) : (s.emit o).fresh = s.fresh := rfl
@[simp] theorem State.emit_ident (o : Output) : (s.emit o).ident = s.ident := rfl
@[simp] theorem State.emit_mode (o : Output) : (s.emit o).mode = s.mode := rfl
@[simp] theorem State.emit_power (o : Output) : (s.emit o).power = s.power := rfl
@[simp] theorem State.emit_ctrl (o : Output) : (s.emit o).ctrl = s.ctrl := rfl
@[simp] theorem State.emit_settings (o : Output) : (s.emit o).settings = s.settings := rfl
@[simp] theorem State.emit_time (o : Output) : (s.emit o).time = s.time := rfl
@[simp] theorem State.emit_sess (o : Output) : (s.emit o).sess = s.sess := rfl
@[simp] theorem State.emit_cmds (o : Output) : (s.emit o).cmds = s.cmds := rfl
@[simp] theorem State.emit_locks (o : Output) : (s.emit o).locks = s.locks := rfl
@[simp] theorem State.emit_kv (o : Output) : (s.emit o).kv = s.kv := rfl
@[simp] theorem State.emit_seq (o : Output) : (s.emit o).seq = s.seq := rfl
@[simp] theorem State.emit_win (o : Output) : (s.emit o).win = s.win := rfl
@[simp] theorem State.emit_ns (o : Output) : (s.emit o).ns = s.ns := rfl
@[simp] theorem State.emit_creds (o : Output) : (s.emit o).creds = s.creds := rfl
@[simp] theorem State.emit_asu (o : Output) : (s.emit o).asu = s.asu := rfl
@[simp] theorem State.emit_vault (o : Output) : (s.emit o).vault = s.vault := rfl
@[simp] theorem State.emit_programs (o : Output) : (s.emit o).programs = s.programs := rfl
@[simp] theorem State.emit_comets (o : Output) : (s.emit o).comets = s.comets := rfl
@[simp] theorem State.emit_media (o : Output) : (s.emit o).media = s.media := rfl
@[simp] theorem State.emit_attn (o : Output) : (s.emit o).attn = s.attn := rfl
@[simp] theorem State.emit_health (o : Output) : (s.emit o).health = s.health := rfl
@[simp] theorem State.emit_ports (o : Output) : (s.emit o).ports = s.ports := rfl
@[simp] theorem State.emit_pair (o : Output) : (s.emit o).pair = s.pair := rfl
@[simp] theorem State.emit_fw (o : Output) : (s.emit o).fw = s.fw := rfl
@[simp] theorem State.emit_usb (o : Output) : (s.emit o).usb = s.usb := rfl
@[simp] theorem State.emit_tag (o : Output) : (s.emit o).tag = s.tag := rfl
@[simp] theorem State.emit_feeds (o : Output) : (s.emit o).feeds = s.feeds := rfl
@[simp] theorem State.emit_thermal (o : Output) : (s.emit o).thermal = s.thermal := rfl
@[simp] theorem State.emit_pins (o : Output) : (s.emit o).pins = s.pins := rfl

/-! ### `State.emitAll` -/

@[simp] theorem State.emitAll_pending (os : List Output) : (s.emitAll os).pending = s.pending := rfl
@[simp] theorem State.emitAll_fresh (os : List Output) : (s.emitAll os).fresh = s.fresh := rfl
@[simp] theorem State.emitAll_ident (os : List Output) : (s.emitAll os).ident = s.ident := rfl
@[simp] theorem State.emitAll_mode (os : List Output) : (s.emitAll os).mode = s.mode := rfl
@[simp] theorem State.emitAll_power (os : List Output) : (s.emitAll os).power = s.power := rfl
@[simp] theorem State.emitAll_ctrl (os : List Output) : (s.emitAll os).ctrl = s.ctrl := rfl
@[simp] theorem State.emitAll_settings (os : List Output) : (s.emitAll os).settings = s.settings := rfl
@[simp] theorem State.emitAll_time (os : List Output) : (s.emitAll os).time = s.time := rfl
@[simp] theorem State.emitAll_sess (os : List Output) : (s.emitAll os).sess = s.sess := rfl
@[simp] theorem State.emitAll_cmds (os : List Output) : (s.emitAll os).cmds = s.cmds := rfl
@[simp] theorem State.emitAll_locks (os : List Output) : (s.emitAll os).locks = s.locks := rfl
@[simp] theorem State.emitAll_kv (os : List Output) : (s.emitAll os).kv = s.kv := rfl
@[simp] theorem State.emitAll_seq (os : List Output) : (s.emitAll os).seq = s.seq := rfl
@[simp] theorem State.emitAll_win (os : List Output) : (s.emitAll os).win = s.win := rfl
@[simp] theorem State.emitAll_ns (os : List Output) : (s.emitAll os).ns = s.ns := rfl
@[simp] theorem State.emitAll_creds (os : List Output) : (s.emitAll os).creds = s.creds := rfl
@[simp] theorem State.emitAll_asu (os : List Output) : (s.emitAll os).asu = s.asu := rfl
@[simp] theorem State.emitAll_vault (os : List Output) : (s.emitAll os).vault = s.vault := rfl
@[simp] theorem State.emitAll_programs (os : List Output) : (s.emitAll os).programs = s.programs := rfl
@[simp] theorem State.emitAll_comets (os : List Output) : (s.emitAll os).comets = s.comets := rfl
@[simp] theorem State.emitAll_media (os : List Output) : (s.emitAll os).media = s.media := rfl
@[simp] theorem State.emitAll_attn (os : List Output) : (s.emitAll os).attn = s.attn := rfl
@[simp] theorem State.emitAll_health (os : List Output) : (s.emitAll os).health = s.health := rfl
@[simp] theorem State.emitAll_ports (os : List Output) : (s.emitAll os).ports = s.ports := rfl
@[simp] theorem State.emitAll_pair (os : List Output) : (s.emitAll os).pair = s.pair := rfl
@[simp] theorem State.emitAll_fw (os : List Output) : (s.emitAll os).fw = s.fw := rfl
@[simp] theorem State.emitAll_usb (os : List Output) : (s.emitAll os).usb = s.usb := rfl
@[simp] theorem State.emitAll_tag (os : List Output) : (s.emitAll os).tag = s.tag := rfl
@[simp] theorem State.emitAll_feeds (os : List Output) : (s.emitAll os).feeds = s.feeds := rfl
@[simp] theorem State.emitAll_thermal (os : List Output) : (s.emitAll os).thermal = s.thermal := rfl
@[simp] theorem State.emitAll_pins (os : List Output) : (s.emitAll os).pins = s.pins := rfl

/-! ### `State.draw` -/

@[simp] theorem State.draw_pending : (s.draw).pending = s.pending := rfl
@[simp] theorem State.draw_out : (s.draw).out = s.out := rfl
@[simp] theorem State.draw_ident : (s.draw).ident = s.ident := rfl
@[simp] theorem State.draw_mode : (s.draw).mode = s.mode := rfl
@[simp] theorem State.draw_power : (s.draw).power = s.power := rfl
@[simp] theorem State.draw_ctrl : (s.draw).ctrl = s.ctrl := rfl
@[simp] theorem State.draw_settings : (s.draw).settings = s.settings := rfl
@[simp] theorem State.draw_time : (s.draw).time = s.time := rfl
@[simp] theorem State.draw_sess : (s.draw).sess = s.sess := rfl
@[simp] theorem State.draw_cmds : (s.draw).cmds = s.cmds := rfl
@[simp] theorem State.draw_locks : (s.draw).locks = s.locks := rfl
@[simp] theorem State.draw_kv : (s.draw).kv = s.kv := rfl
@[simp] theorem State.draw_seq : (s.draw).seq = s.seq := rfl
@[simp] theorem State.draw_win : (s.draw).win = s.win := rfl
@[simp] theorem State.draw_ns : (s.draw).ns = s.ns := rfl
@[simp] theorem State.draw_creds : (s.draw).creds = s.creds := rfl
@[simp] theorem State.draw_asu : (s.draw).asu = s.asu := rfl
@[simp] theorem State.draw_vault : (s.draw).vault = s.vault := rfl
@[simp] theorem State.draw_programs : (s.draw).programs = s.programs := rfl
@[simp] theorem State.draw_comets : (s.draw).comets = s.comets := rfl
@[simp] theorem State.draw_media : (s.draw).media = s.media := rfl
@[simp] theorem State.draw_attn : (s.draw).attn = s.attn := rfl
@[simp] theorem State.draw_health : (s.draw).health = s.health := rfl
@[simp] theorem State.draw_ports : (s.draw).ports = s.ports := rfl
@[simp] theorem State.draw_pair : (s.draw).pair = s.pair := rfl
@[simp] theorem State.draw_fw : (s.draw).fw = s.fw := rfl
@[simp] theorem State.draw_usb : (s.draw).usb = s.usb := rfl
@[simp] theorem State.draw_tag : (s.draw).tag = s.tag := rfl
@[simp] theorem State.draw_feeds : (s.draw).feeds = s.feeds := rfl
@[simp] theorem State.draw_thermal : (s.draw).thermal = s.thermal := rfl
@[simp] theorem State.draw_pins : (s.draw).pins = s.pins := rfl

/-! ### `State.setCause` -/

@[simp] theorem State.setCause_pending (b : Nat) : (s.setCause b).pending = s.pending := rfl
@[simp] theorem State.setCause_out (b : Nat) : (s.setCause b).out = s.out := rfl
@[simp] theorem State.setCause_fresh (b : Nat) : (s.setCause b).fresh = s.fresh := rfl
@[simp] theorem State.setCause_ident (b : Nat) : (s.setCause b).ident = s.ident := rfl
@[simp] theorem State.setCause_mode (b : Nat) : (s.setCause b).mode = s.mode := rfl
@[simp] theorem State.setCause_power (b : Nat) : (s.setCause b).power = s.power := rfl
@[simp] theorem State.setCause_ctrl (b : Nat) : (s.setCause b).ctrl = s.ctrl := rfl
@[simp] theorem State.setCause_settings (b : Nat) : (s.setCause b).settings = s.settings := rfl
@[simp] theorem State.setCause_time (b : Nat) : (s.setCause b).time = s.time := rfl
@[simp] theorem State.setCause_sess (b : Nat) : (s.setCause b).sess = s.sess := rfl
@[simp] theorem State.setCause_cmds (b : Nat) : (s.setCause b).cmds = s.cmds := rfl
@[simp] theorem State.setCause_locks (b : Nat) : (s.setCause b).locks = s.locks := rfl
@[simp] theorem State.setCause_kv (b : Nat) : (s.setCause b).kv = s.kv := rfl
@[simp] theorem State.setCause_seq (b : Nat) : (s.setCause b).seq = s.seq := rfl
@[simp] theorem State.setCause_win (b : Nat) : (s.setCause b).win = s.win := rfl
@[simp] theorem State.setCause_ns (b : Nat) : (s.setCause b).ns = s.ns := rfl
@[simp] theorem State.setCause_creds (b : Nat) : (s.setCause b).creds = s.creds := rfl
@[simp] theorem State.setCause_asu (b : Nat) : (s.setCause b).asu = s.asu := rfl
@[simp] theorem State.setCause_vault (b : Nat) : (s.setCause b).vault = s.vault := rfl
@[simp] theorem State.setCause_programs (b : Nat) : (s.setCause b).programs = s.programs := rfl
@[simp] theorem State.setCause_comets (b : Nat) : (s.setCause b).comets = s.comets := rfl
@[simp] theorem State.setCause_media (b : Nat) : (s.setCause b).media = s.media := rfl
@[simp] theorem State.setCause_health (b : Nat) : (s.setCause b).health = s.health := rfl
@[simp] theorem State.setCause_ports (b : Nat) : (s.setCause b).ports = s.ports := rfl
@[simp] theorem State.setCause_pair (b : Nat) : (s.setCause b).pair = s.pair := rfl
@[simp] theorem State.setCause_fw (b : Nat) : (s.setCause b).fw = s.fw := rfl
@[simp] theorem State.setCause_usb (b : Nat) : (s.setCause b).usb = s.usb := rfl
@[simp] theorem State.setCause_tag (b : Nat) : (s.setCause b).tag = s.tag := rfl
@[simp] theorem State.setCause_feeds (b : Nat) : (s.setCause b).feeds = s.feeds := rfl
@[simp] theorem State.setCause_thermal (b : Nat) : (s.setCause b).thermal = s.thermal := rfl
@[simp] theorem State.setCause_pins (b : Nat) : (s.setCause b).pins = s.pins := rfl

/-! ### `State.clearCause` -/

@[simp] theorem State.clearCause_pending (b : Nat) : (s.clearCause b).pending = s.pending := rfl
@[simp] theorem State.clearCause_out (b : Nat) : (s.clearCause b).out = s.out := rfl
@[simp] theorem State.clearCause_fresh (b : Nat) : (s.clearCause b).fresh = s.fresh := rfl
@[simp] theorem State.clearCause_ident (b : Nat) : (s.clearCause b).ident = s.ident := rfl
@[simp] theorem State.clearCause_mode (b : Nat) : (s.clearCause b).mode = s.mode := rfl
@[simp] theorem State.clearCause_power (b : Nat) : (s.clearCause b).power = s.power := rfl
@[simp] theorem State.clearCause_ctrl (b : Nat) : (s.clearCause b).ctrl = s.ctrl := rfl
@[simp] theorem State.clearCause_settings (b : Nat) : (s.clearCause b).settings = s.settings := rfl
@[simp] theorem State.clearCause_time (b : Nat) : (s.clearCause b).time = s.time := rfl
@[simp] theorem State.clearCause_sess (b : Nat) : (s.clearCause b).sess = s.sess := rfl
@[simp] theorem State.clearCause_cmds (b : Nat) : (s.clearCause b).cmds = s.cmds := rfl
@[simp] theorem State.clearCause_locks (b : Nat) : (s.clearCause b).locks = s.locks := rfl
@[simp] theorem State.clearCause_kv (b : Nat) : (s.clearCause b).kv = s.kv := rfl
@[simp] theorem State.clearCause_seq (b : Nat) : (s.clearCause b).seq = s.seq := rfl
@[simp] theorem State.clearCause_win (b : Nat) : (s.clearCause b).win = s.win := rfl
@[simp] theorem State.clearCause_ns (b : Nat) : (s.clearCause b).ns = s.ns := rfl
@[simp] theorem State.clearCause_creds (b : Nat) : (s.clearCause b).creds = s.creds := rfl
@[simp] theorem State.clearCause_asu (b : Nat) : (s.clearCause b).asu = s.asu := rfl
@[simp] theorem State.clearCause_vault (b : Nat) : (s.clearCause b).vault = s.vault := rfl
@[simp] theorem State.clearCause_programs (b : Nat) : (s.clearCause b).programs = s.programs := rfl
@[simp] theorem State.clearCause_comets (b : Nat) : (s.clearCause b).comets = s.comets := rfl
@[simp] theorem State.clearCause_media (b : Nat) : (s.clearCause b).media = s.media := rfl
@[simp] theorem State.clearCause_health (b : Nat) : (s.clearCause b).health = s.health := rfl
@[simp] theorem State.clearCause_ports (b : Nat) : (s.clearCause b).ports = s.ports := rfl
@[simp] theorem State.clearCause_pair (b : Nat) : (s.clearCause b).pair = s.pair := rfl
@[simp] theorem State.clearCause_fw (b : Nat) : (s.clearCause b).fw = s.fw := rfl
@[simp] theorem State.clearCause_usb (b : Nat) : (s.clearCause b).usb = s.usb := rfl
@[simp] theorem State.clearCause_tag (b : Nat) : (s.clearCause b).tag = s.tag := rfl
@[simp] theorem State.clearCause_feeds (b : Nat) : (s.clearCause b).feeds = s.feeds := rfl
@[simp] theorem State.clearCause_thermal (b : Nat) : (s.clearCause b).thermal = s.thermal := rfl
@[simp] theorem State.clearCause_pins (b : Nat) : (s.clearCause b).pins = s.pins := rfl

/-! ### `State.setWarning` -/

@[simp] theorem State.setWarning_pending (b : Nat) (on : Bool) : (s.setWarning b on).pending = s.pending := rfl
@[simp] theorem State.setWarning_out (b : Nat) (on : Bool) : (s.setWarning b on).out = s.out := rfl
@[simp] theorem State.setWarning_fresh (b : Nat) (on : Bool) : (s.setWarning b on).fresh = s.fresh := rfl
@[simp] theorem State.setWarning_ident (b : Nat) (on : Bool) : (s.setWarning b on).ident = s.ident := rfl
@[simp] theorem State.setWarning_mode (b : Nat) (on : Bool) : (s.setWarning b on).mode = s.mode := rfl
@[simp] theorem State.setWarning_power (b : Nat) (on : Bool) : (s.setWarning b on).power = s.power := rfl
@[simp] theorem State.setWarning_ctrl (b : Nat) (on : Bool) : (s.setWarning b on).ctrl = s.ctrl := rfl
@[simp] theorem State.setWarning_settings (b : Nat) (on : Bool) : (s.setWarning b on).settings = s.settings := rfl
@[simp] theorem State.setWarning_time (b : Nat) (on : Bool) : (s.setWarning b on).time = s.time := rfl
@[simp] theorem State.setWarning_sess (b : Nat) (on : Bool) : (s.setWarning b on).sess = s.sess := rfl
@[simp] theorem State.setWarning_cmds (b : Nat) (on : Bool) : (s.setWarning b on).cmds = s.cmds := rfl
@[simp] theorem State.setWarning_locks (b : Nat) (on : Bool) : (s.setWarning b on).locks = s.locks := rfl
@[simp] theorem State.setWarning_kv (b : Nat) (on : Bool) : (s.setWarning b on).kv = s.kv := rfl
@[simp] theorem State.setWarning_seq (b : Nat) (on : Bool) : (s.setWarning b on).seq = s.seq := rfl
@[simp] theorem State.setWarning_win (b : Nat) (on : Bool) : (s.setWarning b on).win = s.win := rfl
@[simp] theorem State.setWarning_ns (b : Nat) (on : Bool) : (s.setWarning b on).ns = s.ns := rfl
@[simp] theorem State.setWarning_creds (b : Nat) (on : Bool) : (s.setWarning b on).creds = s.creds := rfl
@[simp] theorem State.setWarning_asu (b : Nat) (on : Bool) : (s.setWarning b on).asu = s.asu := rfl
@[simp] theorem State.setWarning_vault (b : Nat) (on : Bool) : (s.setWarning b on).vault = s.vault := rfl
@[simp] theorem State.setWarning_programs (b : Nat) (on : Bool) : (s.setWarning b on).programs = s.programs := rfl
@[simp] theorem State.setWarning_comets (b : Nat) (on : Bool) : (s.setWarning b on).comets = s.comets := rfl
@[simp] theorem State.setWarning_media (b : Nat) (on : Bool) : (s.setWarning b on).media = s.media := rfl
@[simp] theorem State.setWarning_health (b : Nat) (on : Bool) : (s.setWarning b on).health = s.health := rfl
@[simp] theorem State.setWarning_ports (b : Nat) (on : Bool) : (s.setWarning b on).ports = s.ports := rfl
@[simp] theorem State.setWarning_pair (b : Nat) (on : Bool) : (s.setWarning b on).pair = s.pair := rfl
@[simp] theorem State.setWarning_fw (b : Nat) (on : Bool) : (s.setWarning b on).fw = s.fw := rfl
@[simp] theorem State.setWarning_usb (b : Nat) (on : Bool) : (s.setWarning b on).usb = s.usb := rfl
@[simp] theorem State.setWarning_tag (b : Nat) (on : Bool) : (s.setWarning b on).tag = s.tag := rfl
@[simp] theorem State.setWarning_feeds (b : Nat) (on : Bool) : (s.setWarning b on).feeds = s.feeds := rfl
@[simp] theorem State.setWarning_thermal (b : Nat) (on : Bool) : (s.setWarning b on).thermal = s.thermal := rfl
@[simp] theorem State.setWarning_pins (b : Nat) (on : Bool) : (s.setWarning b on).pins = s.pins := rfl

/-! ### `State.modSession` -/

@[simp] theorem State.modSession_pending (sid : Nat) (f : Session → Session) : (s.modSession sid f).pending = s.pending := rfl
@[simp] theorem State.modSession_out (sid : Nat) (f : Session → Session) : (s.modSession sid f).out = s.out := rfl
@[simp] theorem State.modSession_fresh (sid : Nat) (f : Session → Session) : (s.modSession sid f).fresh = s.fresh := rfl
@[simp] theorem State.modSession_ident (sid : Nat) (f : Session → Session) : (s.modSession sid f).ident = s.ident := rfl
@[simp] theorem State.modSession_mode (sid : Nat) (f : Session → Session) : (s.modSession sid f).mode = s.mode := rfl
@[simp] theorem State.modSession_power (sid : Nat) (f : Session → Session) : (s.modSession sid f).power = s.power := rfl
@[simp] theorem State.modSession_ctrl (sid : Nat) (f : Session → Session) : (s.modSession sid f).ctrl = s.ctrl := rfl
@[simp] theorem State.modSession_settings (sid : Nat) (f : Session → Session) : (s.modSession sid f).settings = s.settings := rfl
@[simp] theorem State.modSession_time (sid : Nat) (f : Session → Session) : (s.modSession sid f).time = s.time := rfl
@[simp] theorem State.modSession_cmds (sid : Nat) (f : Session → Session) : (s.modSession sid f).cmds = s.cmds := rfl
@[simp] theorem State.modSession_locks (sid : Nat) (f : Session → Session) : (s.modSession sid f).locks = s.locks := rfl
@[simp] theorem State.modSession_kv (sid : Nat) (f : Session → Session) : (s.modSession sid f).kv = s.kv := rfl
@[simp] theorem State.modSession_seq (sid : Nat) (f : Session → Session) : (s.modSession sid f).seq = s.seq := rfl
@[simp] theorem State.modSession_win (sid : Nat) (f : Session → Session) : (s.modSession sid f).win = s.win := rfl
@[simp] theorem State.modSession_ns (sid : Nat) (f : Session → Session) : (s.modSession sid f).ns = s.ns := rfl
@[simp] theorem State.modSession_creds (sid : Nat) (f : Session → Session) : (s.modSession sid f).creds = s.creds := rfl
@[simp] theorem State.modSession_asu (sid : Nat) (f : Session → Session) : (s.modSession sid f).asu = s.asu := rfl
@[simp] theorem State.modSession_vault (sid : Nat) (f : Session → Session) : (s.modSession sid f).vault = s.vault := rfl
@[simp] theorem State.modSession_programs (sid : Nat) (f : Session → Session) : (s.modSession sid f).programs = s.programs := rfl
@[simp] theorem State.modSession_comets (sid : Nat) (f : Session → Session) : (s.modSession sid f).comets = s.comets := rfl
@[simp] theorem State.modSession_media (sid : Nat) (f : Session → Session) : (s.modSession sid f).media = s.media := rfl
@[simp] theorem State.modSession_attn (sid : Nat) (f : Session → Session) : (s.modSession sid f).attn = s.attn := rfl
@[simp] theorem State.modSession_health (sid : Nat) (f : Session → Session) : (s.modSession sid f).health = s.health := rfl
@[simp] theorem State.modSession_ports (sid : Nat) (f : Session → Session) : (s.modSession sid f).ports = s.ports := rfl
@[simp] theorem State.modSession_pair (sid : Nat) (f : Session → Session) : (s.modSession sid f).pair = s.pair := rfl
@[simp] theorem State.modSession_fw (sid : Nat) (f : Session → Session) : (s.modSession sid f).fw = s.fw := rfl
@[simp] theorem State.modSession_usb (sid : Nat) (f : Session → Session) : (s.modSession sid f).usb = s.usb := rfl
@[simp] theorem State.modSession_tag (sid : Nat) (f : Session → Session) : (s.modSession sid f).tag = s.tag := rfl
@[simp] theorem State.modSession_feeds (sid : Nat) (f : Session → Session) : (s.modSession sid f).feeds = s.feeds := rfl
@[simp] theorem State.modSession_thermal (sid : Nat) (f : Session → Session) : (s.modSession sid f).thermal = s.thermal := rfl
@[simp] theorem State.modSession_pins (sid : Nat) (f : Session → Session) : (s.modSession sid f).pins = s.pins := rfl

/-! ### `State.modRing` -/

@[simp] theorem State.modRing_pending (sid idx : Nat) (f : Ring → Ring) : (s.modRing sid idx f).pending = s.pending := rfl
@[simp] theorem State.modRing_out (sid idx : Nat) (f : Ring → Ring) : (s.modRing sid idx f).out = s.out := rfl
@[simp] theorem State.modRing_fresh (sid idx : Nat) (f : Ring → Ring) : (s.modRing sid idx f).fresh = s.fresh := rfl
@[simp] theorem State.modRing_ident (sid idx : Nat) (f : Ring → Ring) : (s.modRing sid idx f).ident = s.ident := rfl
@[simp] theorem State.modRing_mode (sid idx : Nat) (f : Ring → Ring) : (s.modRing sid idx f).mode = s.mode := rfl
@[simp] theorem State.modRing_power (sid idx : Nat) (f : Ring → Ring) : (s.modRing sid idx f).power = s.power := rfl
@[simp] theorem State.modRing_ctrl (sid idx : Nat) (f : Ring → Ring) : (s.modRing sid idx f).ctrl = s.ctrl := rfl
@[simp] theorem State.modRing_settings (sid idx : Nat) (f : Ring → Ring) : (s.modRing sid idx f).settings = s.settings := rfl
@[simp] theorem State.modRing_time (sid idx : Nat) (f : Ring → Ring) : (s.modRing sid idx f).time = s.time := rfl
@[simp] theorem State.modRing_cmds (sid idx : Nat) (f : Ring → Ring) : (s.modRing sid idx f).cmds = s.cmds := rfl
@[simp] theorem State.modRing_locks (sid idx : Nat) (f : Ring → Ring) : (s.modRing sid idx f).locks = s.locks := rfl
@[simp] theorem State.modRing_kv (sid idx : Nat) (f : Ring → Ring) : (s.modRing sid idx f).kv = s.kv := rfl
@[simp] theorem State.modRing_seq (sid idx : Nat) (f : Ring → Ring) : (s.modRing sid idx f).seq = s.seq := rfl
@[simp] theorem State.modRing_win (sid idx : Nat) (f : Ring → Ring) : (s.modRing sid idx f).win = s.win := rfl
@[simp] theorem State.modRing_ns (sid idx : Nat) (f : Ring → Ring) : (s.modRing sid idx f).ns = s.ns := rfl
@[simp] theorem State.modRing_creds (sid idx : Nat) (f : Ring → Ring) : (s.modRing sid idx f).creds = s.creds := rfl
@[simp] theorem State.modRing_asu (sid idx : Nat) (f : Ring → Ring) : (s.modRing sid idx f).asu = s.asu := rfl
@[simp] theorem State.modRing_vault (sid idx : Nat) (f : Ring → Ring) : (s.modRing sid idx f).vault = s.vault := rfl
@[simp] theorem State.modRing_programs (sid idx : Nat) (f : Ring → Ring) : (s.modRing sid idx f).programs = s.programs := rfl
@[simp] theorem State.modRing_comets (sid idx : Nat) (f : Ring → Ring) : (s.modRing sid idx f).comets = s.comets := rfl
@[simp] theorem State.modRing_media (sid idx : Nat) (f : Ring → Ring) : (s.modRing sid idx f).media = s.media := rfl
@[simp] theorem State.modRing_attn (sid idx : Nat) (f : Ring → Ring) : (s.modRing sid idx f).attn = s.attn := rfl
@[simp] theorem State.modRing_health (sid idx : Nat) (f : Ring → Ring) : (s.modRing sid idx f).health = s.health := rfl
@[simp] theorem State.modRing_ports (sid idx : Nat) (f : Ring → Ring) : (s.modRing sid idx f).ports = s.ports := rfl
@[simp] theorem State.modRing_pair (sid idx : Nat) (f : Ring → Ring) : (s.modRing sid idx f).pair = s.pair := rfl
@[simp] theorem State.modRing_fw (sid idx : Nat) (f : Ring → Ring) : (s.modRing sid idx f).fw = s.fw := rfl
@[simp] theorem State.modRing_usb (sid idx : Nat) (f : Ring → Ring) : (s.modRing sid idx f).usb = s.usb := rfl
@[simp] theorem State.modRing_tag (sid idx : Nat) (f : Ring → Ring) : (s.modRing sid idx f).tag = s.tag := rfl
@[simp] theorem State.modRing_feeds (sid idx : Nat) (f : Ring → Ring) : (s.modRing sid idx f).feeds = s.feeds := rfl
@[simp] theorem State.modRing_thermal (sid idx : Nat) (f : Ring → Ring) : (s.modRing sid idx f).thermal = s.thermal := rfl
@[simp] theorem State.modRing_pins (sid idx : Nat) (f : Ring → Ring) : (s.modRing sid idx f).pins = s.pins := rfl

/-! ### `State.modCmd` -/

@[simp] theorem State.modCmd_pending (ref : Nat) (f : Cmd → Cmd) : (s.modCmd ref f).pending = s.pending := rfl
@[simp] theorem State.modCmd_out (ref : Nat) (f : Cmd → Cmd) : (s.modCmd ref f).out = s.out := rfl
@[simp] theorem State.modCmd_fresh (ref : Nat) (f : Cmd → Cmd) : (s.modCmd ref f).fresh = s.fresh := rfl
@[simp] theorem State.modCmd_ident (ref : Nat) (f : Cmd → Cmd) : (s.modCmd ref f).ident = s.ident := rfl
@[simp] theorem State.modCmd_mode (ref : Nat) (f : Cmd → Cmd) : (s.modCmd ref f).mode = s.mode := rfl
@[simp] theorem State.modCmd_power (ref : Nat) (f : Cmd → Cmd) : (s.modCmd ref f).power = s.power := rfl
@[simp] theorem State.modCmd_ctrl (ref : Nat) (f : Cmd → Cmd) : (s.modCmd ref f).ctrl = s.ctrl := rfl
@[simp] theorem State.modCmd_settings (ref : Nat) (f : Cmd → Cmd) : (s.modCmd ref f).settings = s.settings := rfl
@[simp] theorem State.modCmd_time (ref : Nat) (f : Cmd → Cmd) : (s.modCmd ref f).time = s.time := rfl
@[simp] theorem State.modCmd_sess (ref : Nat) (f : Cmd → Cmd) : (s.modCmd ref f).sess = s.sess := rfl
@[simp] theorem State.modCmd_locks (ref : Nat) (f : Cmd → Cmd) : (s.modCmd ref f).locks = s.locks := rfl
@[simp] theorem State.modCmd_kv (ref : Nat) (f : Cmd → Cmd) : (s.modCmd ref f).kv = s.kv := rfl
@[simp] theorem State.modCmd_seq (ref : Nat) (f : Cmd → Cmd) : (s.modCmd ref f).seq = s.seq := rfl
@[simp] theorem State.modCmd_win (ref : Nat) (f : Cmd → Cmd) : (s.modCmd ref f).win = s.win := rfl
@[simp] theorem State.modCmd_ns (ref : Nat) (f : Cmd → Cmd) : (s.modCmd ref f).ns = s.ns := rfl
@[simp] theorem State.modCmd_creds (ref : Nat) (f : Cmd → Cmd) : (s.modCmd ref f).creds = s.creds := rfl
@[simp] theorem State.modCmd_asu (ref : Nat) (f : Cmd → Cmd) : (s.modCmd ref f).asu = s.asu := rfl
@[simp] theorem State.modCmd_vault (ref : Nat) (f : Cmd → Cmd) : (s.modCmd ref f).vault = s.vault := rfl
@[simp] theorem State.modCmd_programs (ref : Nat) (f : Cmd → Cmd) : (s.modCmd ref f).programs = s.programs := rfl
@[simp] theorem State.modCmd_comets (ref : Nat) (f : Cmd → Cmd) : (s.modCmd ref f).comets = s.comets := rfl
@[simp] theorem State.modCmd_media (ref : Nat) (f : Cmd → Cmd) : (s.modCmd ref f).media = s.media := rfl
@[simp] theorem State.modCmd_attn (ref : Nat) (f : Cmd → Cmd) : (s.modCmd ref f).attn = s.attn := rfl
@[simp] theorem State.modCmd_health (ref : Nat) (f : Cmd → Cmd) : (s.modCmd ref f).health = s.health := rfl
@[simp] theorem State.modCmd_ports (ref : Nat) (f : Cmd → Cmd) : (s.modCmd ref f).ports = s.ports := rfl
@[simp] theorem State.modCmd_pair (ref : Nat) (f : Cmd → Cmd) : (s.modCmd ref f).pair = s.pair := rfl
@[simp] theorem State.modCmd_fw (ref : Nat) (f : Cmd → Cmd) : (s.modCmd ref f).fw = s.fw := rfl
@[simp] theorem State.modCmd_usb (ref : Nat) (f : Cmd → Cmd) : (s.modCmd ref f).usb = s.usb := rfl
@[simp] theorem State.modCmd_tag (ref : Nat) (f : Cmd → Cmd) : (s.modCmd ref f).tag = s.tag := rfl
@[simp] theorem State.modCmd_feeds (ref : Nat) (f : Cmd → Cmd) : (s.modCmd ref f).feeds = s.feeds := rfl
@[simp] theorem State.modCmd_thermal (ref : Nat) (f : Cmd → Cmd) : (s.modCmd ref f).thermal = s.thermal := rfl
@[simp] theorem State.modCmd_pins (ref : Nat) (f : Cmd → Cmd) : (s.modCmd ref f).pins = s.pins := rfl

/-! ### `State.dropCmd` -/

@[simp] theorem State.dropCmd_pending (ref : Nat) : (s.dropCmd ref).pending = s.pending := rfl
@[simp] theorem State.dropCmd_out (ref : Nat) : (s.dropCmd ref).out = s.out := rfl
@[simp] theorem State.dropCmd_fresh (ref : Nat) : (s.dropCmd ref).fresh = s.fresh := rfl
@[simp] theorem State.dropCmd_ident (ref : Nat) : (s.dropCmd ref).ident = s.ident := rfl
@[simp] theorem State.dropCmd_mode (ref : Nat) : (s.dropCmd ref).mode = s.mode := rfl
@[simp] theorem State.dropCmd_power (ref : Nat) : (s.dropCmd ref).power = s.power := rfl
@[simp] theorem State.dropCmd_ctrl (ref : Nat) : (s.dropCmd ref).ctrl = s.ctrl := rfl
@[simp] theorem State.dropCmd_settings (ref : Nat) : (s.dropCmd ref).settings = s.settings := rfl
@[simp] theorem State.dropCmd_time (ref : Nat) : (s.dropCmd ref).time = s.time := rfl
@[simp] theorem State.dropCmd_sess (ref : Nat) : (s.dropCmd ref).sess = s.sess := rfl
@[simp] theorem State.dropCmd_locks (ref : Nat) : (s.dropCmd ref).locks = s.locks := rfl
@[simp] theorem State.dropCmd_kv (ref : Nat) : (s.dropCmd ref).kv = s.kv := rfl
@[simp] theorem State.dropCmd_seq (ref : Nat) : (s.dropCmd ref).seq = s.seq := rfl
@[simp] theorem State.dropCmd_win (ref : Nat) : (s.dropCmd ref).win = s.win := rfl
@[simp] theorem State.dropCmd_ns (ref : Nat) : (s.dropCmd ref).ns = s.ns := rfl
@[simp] theorem State.dropCmd_creds (ref : Nat) : (s.dropCmd ref).creds = s.creds := rfl
@[simp] theorem State.dropCmd_asu (ref : Nat) : (s.dropCmd ref).asu = s.asu := rfl
@[simp] theorem State.dropCmd_vault (ref : Nat) : (s.dropCmd ref).vault = s.vault := rfl
@[simp] theorem State.dropCmd_programs (ref : Nat) : (s.dropCmd ref).programs = s.programs := rfl
@[simp] theorem State.dropCmd_comets (ref : Nat) : (s.dropCmd ref).comets = s.comets := rfl
@[simp] theorem State.dropCmd_media (ref : Nat) : (s.dropCmd ref).media = s.media := rfl
@[simp] theorem State.dropCmd_attn (ref : Nat) : (s.dropCmd ref).attn = s.attn := rfl
@[simp] theorem State.dropCmd_health (ref : Nat) : (s.dropCmd ref).health = s.health := rfl
@[simp] theorem State.dropCmd_ports (ref : Nat) : (s.dropCmd ref).ports = s.ports := rfl
@[simp] theorem State.dropCmd_pair (ref : Nat) : (s.dropCmd ref).pair = s.pair := rfl
@[simp] theorem State.dropCmd_fw (ref : Nat) : (s.dropCmd ref).fw = s.fw := rfl
@[simp] theorem State.dropCmd_usb (ref : Nat) : (s.dropCmd ref).usb = s.usb := rfl
@[simp] theorem State.dropCmd_tag (ref : Nat) : (s.dropCmd ref).tag = s.tag := rfl
@[simp] theorem State.dropCmd_feeds (ref : Nat) : (s.dropCmd ref).feeds = s.feeds := rfl
@[simp] theorem State.dropCmd_thermal (ref : Nat) : (s.dropCmd ref).thermal = s.thermal := rfl
@[simp] theorem State.dropCmd_pins (ref : Nat) : (s.dropCmd ref).pins = s.pins := rfl

/-! ### `State.releaseLocks` -/

@[simp] theorem State.releaseLocks_pending (ref : Nat) : (s.releaseLocks ref).pending = s.pending := rfl
@[simp] theorem State.releaseLocks_out (ref : Nat) : (s.releaseLocks ref).out = s.out := rfl
@[simp] theorem State.releaseLocks_fresh (ref : Nat) : (s.releaseLocks ref).fresh = s.fresh := rfl
@[simp] theorem State.releaseLocks_ident (ref : Nat) : (s.releaseLocks ref).ident = s.ident := rfl
@[simp] theorem State.releaseLocks_mode (ref : Nat) : (s.releaseLocks ref).mode = s.mode := rfl
@[simp] theorem State.releaseLocks_power (ref : Nat) : (s.releaseLocks ref).power = s.power := rfl
@[simp] theorem State.releaseLocks_ctrl (ref : Nat) : (s.releaseLocks ref).ctrl = s.ctrl := rfl
@[simp] theorem State.releaseLocks_settings (ref : Nat) : (s.releaseLocks ref).settings = s.settings := rfl
@[simp] theorem State.releaseLocks_time (ref : Nat) : (s.releaseLocks ref).time = s.time := rfl
@[simp] theorem State.releaseLocks_sess (ref : Nat) : (s.releaseLocks ref).sess = s.sess := rfl
@[simp] theorem State.releaseLocks_cmds (ref : Nat) : (s.releaseLocks ref).cmds = s.cmds := rfl
@[simp] theorem State.releaseLocks_kv (ref : Nat) : (s.releaseLocks ref).kv = s.kv := rfl
@[simp] theorem State.releaseLocks_seq (ref : Nat) : (s.releaseLocks ref).seq = s.seq := rfl
@[simp] theorem State.releaseLocks_win (ref : Nat) : (s.releaseLocks ref).win = s.win := rfl
@[simp] theorem State.releaseLocks_ns (ref : Nat) : (s.releaseLocks ref).ns = s.ns := rfl
@[simp] theorem State.releaseLocks_creds (ref : Nat) : (s.releaseLocks ref).creds = s.creds := rfl
@[simp] theorem State.releaseLocks_asu (ref : Nat) : (s.releaseLocks ref).asu = s.asu := rfl
@[simp] theorem State.releaseLocks_vault (ref : Nat) : (s.releaseLocks ref).vault = s.vault := rfl
@[simp] theorem State.releaseLocks_programs (ref : Nat) : (s.releaseLocks ref).programs = s.programs := rfl
@[simp] theorem State.releaseLocks_comets (ref : Nat) : (s.releaseLocks ref).comets = s.comets := rfl
@[simp] theorem State.releaseLocks_media (ref : Nat) : (s.releaseLocks ref).media = s.media := rfl
@[simp] theorem State.releaseLocks_attn (ref : Nat) : (s.releaseLocks ref).attn = s.attn := rfl
@[simp] theorem State.releaseLocks_health (ref : Nat) : (s.releaseLocks ref).health = s.health := rfl
@[simp] theorem State.releaseLocks_ports (ref : Nat) : (s.releaseLocks ref).ports = s.ports := rfl
@[simp] theorem State.releaseLocks_pair (ref : Nat) : (s.releaseLocks ref).pair = s.pair := rfl
@[simp] theorem State.releaseLocks_fw (ref : Nat) : (s.releaseLocks ref).fw = s.fw := rfl
@[simp] theorem State.releaseLocks_usb (ref : Nat) : (s.releaseLocks ref).usb = s.usb := rfl
@[simp] theorem State.releaseLocks_tag (ref : Nat) : (s.releaseLocks ref).tag = s.tag := rfl
@[simp] theorem State.releaseLocks_feeds (ref : Nat) : (s.releaseLocks ref).feeds = s.feeds := rfl
@[simp] theorem State.releaseLocks_thermal (ref : Nat) : (s.releaseLocks ref).thermal = s.thermal := rfl
@[simp] theorem State.releaseLocks_pins (ref : Nat) : (s.releaseLocks ref).pins = s.pins := rfl

/-! ### `State.releaseReserved` -/

@[simp] theorem State.releaseReserved_pending (c : Cmd) : (s.releaseReserved c).pending = s.pending := rfl
@[simp] theorem State.releaseReserved_out (c : Cmd) : (s.releaseReserved c).out = s.out := rfl
@[simp] theorem State.releaseReserved_fresh (c : Cmd) : (s.releaseReserved c).fresh = s.fresh := rfl
@[simp] theorem State.releaseReserved_ident (c : Cmd) : (s.releaseReserved c).ident = s.ident := rfl
@[simp] theorem State.releaseReserved_mode (c : Cmd) : (s.releaseReserved c).mode = s.mode := rfl
@[simp] theorem State.releaseReserved_power (c : Cmd) : (s.releaseReserved c).power = s.power := rfl
@[simp] theorem State.releaseReserved_ctrl (c : Cmd) : (s.releaseReserved c).ctrl = s.ctrl := rfl
@[simp] theorem State.releaseReserved_settings (c : Cmd) : (s.releaseReserved c).settings = s.settings := rfl
@[simp] theorem State.releaseReserved_time (c : Cmd) : (s.releaseReserved c).time = s.time := rfl
@[simp] theorem State.releaseReserved_sess (c : Cmd) : (s.releaseReserved c).sess = s.sess := rfl
@[simp] theorem State.releaseReserved_cmds (c : Cmd) : (s.releaseReserved c).cmds = s.cmds := rfl
@[simp] theorem State.releaseReserved_locks (c : Cmd) : (s.releaseReserved c).locks = s.locks := rfl
@[simp] theorem State.releaseReserved_kv (c : Cmd) : (s.releaseReserved c).kv = s.kv := rfl
@[simp] theorem State.releaseReserved_seq (c : Cmd) : (s.releaseReserved c).seq = s.seq := rfl
@[simp] theorem State.releaseReserved_win (c : Cmd) : (s.releaseReserved c).win = s.win := rfl
@[simp] theorem State.releaseReserved_creds (c : Cmd) : (s.releaseReserved c).creds = s.creds := rfl
@[simp] theorem State.releaseReserved_asu (c : Cmd) : (s.releaseReserved c).asu = s.asu := rfl
@[simp] theorem State.releaseReserved_vault (c : Cmd) : (s.releaseReserved c).vault = s.vault := rfl
@[simp] theorem State.releaseReserved_programs (c : Cmd) : (s.releaseReserved c).programs = s.programs := rfl
@[simp] theorem State.releaseReserved_comets (c : Cmd) : (s.releaseReserved c).comets = s.comets := rfl
@[simp] theorem State.releaseReserved_media (c : Cmd) : (s.releaseReserved c).media = s.media := rfl
@[simp] theorem State.releaseReserved_attn (c : Cmd) : (s.releaseReserved c).attn = s.attn := rfl
@[simp] theorem State.releaseReserved_health (c : Cmd) : (s.releaseReserved c).health = s.health := rfl
@[simp] theorem State.releaseReserved_ports (c : Cmd) : (s.releaseReserved c).ports = s.ports := rfl
@[simp] theorem State.releaseReserved_pair (c : Cmd) : (s.releaseReserved c).pair = s.pair := rfl
@[simp] theorem State.releaseReserved_fw (c : Cmd) : (s.releaseReserved c).fw = s.fw := rfl
@[simp] theorem State.releaseReserved_usb (c : Cmd) : (s.releaseReserved c).usb = s.usb := rfl
@[simp] theorem State.releaseReserved_tag (c : Cmd) : (s.releaseReserved c).tag = s.tag := rfl
@[simp] theorem State.releaseReserved_feeds (c : Cmd) : (s.releaseReserved c).feeds = s.feeds := rfl
@[simp] theorem State.releaseReserved_thermal (c : Cmd) : (s.releaseReserved c).thermal = s.thermal := rfl
@[simp] theorem State.releaseReserved_pins (c : Cmd) : (s.releaseReserved c).pins = s.pins := rfl

/-! ### `State.modMoon` -/

@[simp] theorem State.modMoon_pending (m : Nat) (f : Moon → Moon) : (s.modMoon m f).pending = s.pending := rfl
@[simp] theorem State.modMoon_out (m : Nat) (f : Moon → Moon) : (s.modMoon m f).out = s.out := rfl
@[simp] theorem State.modMoon_fresh (m : Nat) (f : Moon → Moon) : (s.modMoon m f).fresh = s.fresh := rfl
@[simp] theorem State.modMoon_ident (m : Nat) (f : Moon → Moon) : (s.modMoon m f).ident = s.ident := rfl
@[simp] theorem State.modMoon_mode (m : Nat) (f : Moon → Moon) : (s.modMoon m f).mode = s.mode := rfl
@[simp] theorem State.modMoon_power (m : Nat) (f : Moon → Moon) : (s.modMoon m f).power = s.power := rfl
@[simp] theorem State.modMoon_ctrl (m : Nat) (f : Moon → Moon) : (s.modMoon m f).ctrl = s.ctrl := rfl
@[simp] theorem State.modMoon_settings (m : Nat) (f : Moon → Moon) : (s.modMoon m f).settings = s.settings := rfl
@[simp] theorem State.modMoon_time (m : Nat) (f : Moon → Moon) : (s.modMoon m f).time = s.time := rfl
@[simp] theorem State.modMoon_sess (m : Nat) (f : Moon → Moon) : (s.modMoon m f).sess = s.sess := rfl
@[simp] theorem State.modMoon_cmds (m : Nat) (f : Moon → Moon) : (s.modMoon m f).cmds = s.cmds := rfl
@[simp] theorem State.modMoon_locks (m : Nat) (f : Moon → Moon) : (s.modMoon m f).locks = s.locks := rfl
@[simp] theorem State.modMoon_kv (m : Nat) (f : Moon → Moon) : (s.modMoon m f).kv = s.kv := rfl
@[simp] theorem State.modMoon_seq (m : Nat) (f : Moon → Moon) : (s.modMoon m f).seq = s.seq := rfl
@[simp] theorem State.modMoon_win (m : Nat) (f : Moon → Moon) : (s.modMoon m f).win = s.win := rfl
@[simp] theorem State.modMoon_ns (m : Nat) (f : Moon → Moon) : (s.modMoon m f).ns = s.ns := rfl
@[simp] theorem State.modMoon_creds (m : Nat) (f : Moon → Moon) : (s.modMoon m f).creds = s.creds := rfl
@[simp] theorem State.modMoon_asu (m : Nat) (f : Moon → Moon) : (s.modMoon m f).asu = s.asu := rfl
@[simp] theorem State.modMoon_vault (m : Nat) (f : Moon → Moon) : (s.modMoon m f).vault = s.vault := rfl
@[simp] theorem State.modMoon_programs (m : Nat) (f : Moon → Moon) : (s.modMoon m f).programs = s.programs := rfl
@[simp] theorem State.modMoon_comets (m : Nat) (f : Moon → Moon) : (s.modMoon m f).comets = s.comets := rfl
@[simp] theorem State.modMoon_attn (m : Nat) (f : Moon → Moon) : (s.modMoon m f).attn = s.attn := rfl
@[simp] theorem State.modMoon_health (m : Nat) (f : Moon → Moon) : (s.modMoon m f).health = s.health := rfl
@[simp] theorem State.modMoon_ports (m : Nat) (f : Moon → Moon) : (s.modMoon m f).ports = s.ports := rfl
@[simp] theorem State.modMoon_pair (m : Nat) (f : Moon → Moon) : (s.modMoon m f).pair = s.pair := rfl
@[simp] theorem State.modMoon_fw (m : Nat) (f : Moon → Moon) : (s.modMoon m f).fw = s.fw := rfl
@[simp] theorem State.modMoon_usb (m : Nat) (f : Moon → Moon) : (s.modMoon m f).usb = s.usb := rfl
@[simp] theorem State.modMoon_tag (m : Nat) (f : Moon → Moon) : (s.modMoon m f).tag = s.tag := rfl
@[simp] theorem State.modMoon_feeds (m : Nat) (f : Moon → Moon) : (s.modMoon m f).feeds = s.feeds := rfl
@[simp] theorem State.modMoon_thermal (m : Nat) (f : Moon → Moon) : (s.modMoon m f).thermal = s.thermal := rfl
@[simp] theorem State.modMoon_pins (m : Nat) (f : Moon → Moon) : (s.modMoon m f).pins = s.pins := rfl

/-! ### `State.unstageAll` -/

@[simp] theorem State.unstageAll_pending (es : List Extent) : (s.unstageAll es).pending = s.pending := rfl
@[simp] theorem State.unstageAll_out (es : List Extent) : (s.unstageAll es).out = s.out := rfl
@[simp] theorem State.unstageAll_fresh (es : List Extent) : (s.unstageAll es).fresh = s.fresh := rfl
@[simp] theorem State.unstageAll_ident (es : List Extent) : (s.unstageAll es).ident = s.ident := rfl
@[simp] theorem State.unstageAll_mode (es : List Extent) : (s.unstageAll es).mode = s.mode := rfl
@[simp] theorem State.unstageAll_power (es : List Extent) : (s.unstageAll es).power = s.power := rfl
@[simp] theorem State.unstageAll_ctrl (es : List Extent) : (s.unstageAll es).ctrl = s.ctrl := rfl
@[simp] theorem State.unstageAll_settings (es : List Extent) : (s.unstageAll es).settings = s.settings := rfl
@[simp] theorem State.unstageAll_time (es : List Extent) : (s.unstageAll es).time = s.time := rfl
@[simp] theorem State.unstageAll_sess (es : List Extent) : (s.unstageAll es).sess = s.sess := rfl
@[simp] theorem State.unstageAll_cmds (es : List Extent) : (s.unstageAll es).cmds = s.cmds := rfl
@[simp] theorem State.unstageAll_locks (es : List Extent) : (s.unstageAll es).locks = s.locks := rfl
@[simp] theorem State.unstageAll_kv (es : List Extent) : (s.unstageAll es).kv = s.kv := rfl
@[simp] theorem State.unstageAll_seq (es : List Extent) : (s.unstageAll es).seq = s.seq := rfl
@[simp] theorem State.unstageAll_win (es : List Extent) : (s.unstageAll es).win = s.win := rfl
@[simp] theorem State.unstageAll_ns (es : List Extent) : (s.unstageAll es).ns = s.ns := rfl
@[simp] theorem State.unstageAll_creds (es : List Extent) : (s.unstageAll es).creds = s.creds := rfl
@[simp] theorem State.unstageAll_asu (es : List Extent) : (s.unstageAll es).asu = s.asu := rfl
@[simp] theorem State.unstageAll_vault (es : List Extent) : (s.unstageAll es).vault = s.vault := rfl
@[simp] theorem State.unstageAll_programs (es : List Extent) : (s.unstageAll es).programs = s.programs := rfl
@[simp] theorem State.unstageAll_comets (es : List Extent) : (s.unstageAll es).comets = s.comets := rfl
@[simp] theorem State.unstageAll_attn (es : List Extent) : (s.unstageAll es).attn = s.attn := rfl
@[simp] theorem State.unstageAll_health (es : List Extent) : (s.unstageAll es).health = s.health := rfl
@[simp] theorem State.unstageAll_ports (es : List Extent) : (s.unstageAll es).ports = s.ports := rfl
@[simp] theorem State.unstageAll_pair (es : List Extent) : (s.unstageAll es).pair = s.pair := rfl
@[simp] theorem State.unstageAll_fw (es : List Extent) : (s.unstageAll es).fw = s.fw := rfl
@[simp] theorem State.unstageAll_usb (es : List Extent) : (s.unstageAll es).usb = s.usb := rfl
@[simp] theorem State.unstageAll_tag (es : List Extent) : (s.unstageAll es).tag = s.tag := rfl
@[simp] theorem State.unstageAll_feeds (es : List Extent) : (s.unstageAll es).feeds = s.feeds := rfl
@[simp] theorem State.unstageAll_thermal (es : List Extent) : (s.unstageAll es).thermal = s.thermal := rfl
@[simp] theorem State.unstageAll_pins (es : List Extent) : (s.unstageAll es).pins = s.pins := rfl

/-! ### `State.modComet` -/

@[simp] theorem State.modComet_pending (num : Nat) (f : Comet → Comet) : (s.modComet num f).pending = s.pending := rfl
@[simp] theorem State.modComet_out (num : Nat) (f : Comet → Comet) : (s.modComet num f).out = s.out := rfl
@[simp] theorem State.modComet_fresh (num : Nat) (f : Comet → Comet) : (s.modComet num f).fresh = s.fresh := rfl
@[simp] theorem State.modComet_ident (num : Nat) (f : Comet → Comet) : (s.modComet num f).ident = s.ident := rfl
@[simp] theorem State.modComet_mode (num : Nat) (f : Comet → Comet) : (s.modComet num f).mode = s.mode := rfl
@[simp] theorem State.modComet_power (num : Nat) (f : Comet → Comet) : (s.modComet num f).power = s.power := rfl
@[simp] theorem State.modComet_ctrl (num : Nat) (f : Comet → Comet) : (s.modComet num f).ctrl = s.ctrl := rfl
@[simp] theorem State.modComet_settings (num : Nat) (f : Comet → Comet) : (s.modComet num f).settings = s.settings := rfl
@[simp] theorem State.modComet_time (num : Nat) (f : Comet → Comet) : (s.modComet num f).time = s.time := rfl
@[simp] theorem State.modComet_sess (num : Nat) (f : Comet → Comet) : (s.modComet num f).sess = s.sess := rfl
@[simp] theorem State.modComet_cmds (num : Nat) (f : Comet → Comet) : (s.modComet num f).cmds = s.cmds := rfl
@[simp] theorem State.modComet_locks (num : Nat) (f : Comet → Comet) : (s.modComet num f).locks = s.locks := rfl
@[simp] theorem State.modComet_kv (num : Nat) (f : Comet → Comet) : (s.modComet num f).kv = s.kv := rfl
@[simp] theorem State.modComet_seq (num : Nat) (f : Comet → Comet) : (s.modComet num f).seq = s.seq := rfl
@[simp] theorem State.modComet_win (num : Nat) (f : Comet → Comet) : (s.modComet num f).win = s.win := rfl
@[simp] theorem State.modComet_ns (num : Nat) (f : Comet → Comet) : (s.modComet num f).ns = s.ns := rfl
@[simp] theorem State.modComet_creds (num : Nat) (f : Comet → Comet) : (s.modComet num f).creds = s.creds := rfl
@[simp] theorem State.modComet_asu (num : Nat) (f : Comet → Comet) : (s.modComet num f).asu = s.asu := rfl
@[simp] theorem State.modComet_vault (num : Nat) (f : Comet → Comet) : (s.modComet num f).vault = s.vault := rfl
@[simp] theorem State.modComet_programs (num : Nat) (f : Comet → Comet) : (s.modComet num f).programs = s.programs := rfl
@[simp] theorem State.modComet_media (num : Nat) (f : Comet → Comet) : (s.modComet num f).media = s.media := rfl
@[simp] theorem State.modComet_attn (num : Nat) (f : Comet → Comet) : (s.modComet num f).attn = s.attn := rfl
@[simp] theorem State.modComet_health (num : Nat) (f : Comet → Comet) : (s.modComet num f).health = s.health := rfl
@[simp] theorem State.modComet_ports (num : Nat) (f : Comet → Comet) : (s.modComet num f).ports = s.ports := rfl
@[simp] theorem State.modComet_pair (num : Nat) (f : Comet → Comet) : (s.modComet num f).pair = s.pair := rfl
@[simp] theorem State.modComet_fw (num : Nat) (f : Comet → Comet) : (s.modComet num f).fw = s.fw := rfl
@[simp] theorem State.modComet_usb (num : Nat) (f : Comet → Comet) : (s.modComet num f).usb = s.usb := rfl
@[simp] theorem State.modComet_tag (num : Nat) (f : Comet → Comet) : (s.modComet num f).tag = s.tag := rfl
@[simp] theorem State.modComet_feeds (num : Nat) (f : Comet → Comet) : (s.modComet num f).feeds = s.feeds := rfl
@[simp] theorem State.modComet_thermal (num : Nat) (f : Comet → Comet) : (s.modComet num f).thermal = s.thermal := rfl
@[simp] theorem State.modComet_pins (num : Nat) (f : Comet → Comet) : (s.modComet num f).pins = s.pins := rfl

/-! ### `State.reclaim` -/

@[simp] theorem State.reclaim_pending : (s.reclaim).pending = s.pending := rfl
@[simp] theorem State.reclaim_out : (s.reclaim).out = s.out := rfl
@[simp] theorem State.reclaim_fresh : (s.reclaim).fresh = s.fresh := rfl
@[simp] theorem State.reclaim_ident : (s.reclaim).ident = s.ident := rfl
@[simp] theorem State.reclaim_mode : (s.reclaim).mode = s.mode := rfl
@[simp] theorem State.reclaim_power : (s.reclaim).power = s.power := rfl
@[simp] theorem State.reclaim_ctrl : (s.reclaim).ctrl = s.ctrl := rfl
@[simp] theorem State.reclaim_settings : (s.reclaim).settings = s.settings := rfl
@[simp] theorem State.reclaim_time : (s.reclaim).time = s.time := rfl
@[simp] theorem State.reclaim_sess : (s.reclaim).sess = s.sess := rfl
@[simp] theorem State.reclaim_cmds : (s.reclaim).cmds = s.cmds := rfl
@[simp] theorem State.reclaim_locks : (s.reclaim).locks = s.locks := rfl
@[simp] theorem State.reclaim_seq : (s.reclaim).seq = s.seq := rfl
@[simp] theorem State.reclaim_win : (s.reclaim).win = s.win := rfl
@[simp] theorem State.reclaim_ns : (s.reclaim).ns = s.ns := rfl
@[simp] theorem State.reclaim_creds : (s.reclaim).creds = s.creds := rfl
@[simp] theorem State.reclaim_asu : (s.reclaim).asu = s.asu := rfl
@[simp] theorem State.reclaim_vault : (s.reclaim).vault = s.vault := rfl
@[simp] theorem State.reclaim_programs : (s.reclaim).programs = s.programs := rfl
@[simp] theorem State.reclaim_comets : (s.reclaim).comets = s.comets := rfl
@[simp] theorem State.reclaim_media : (s.reclaim).media = s.media := rfl
@[simp] theorem State.reclaim_attn : (s.reclaim).attn = s.attn := rfl
@[simp] theorem State.reclaim_health : (s.reclaim).health = s.health := rfl
@[simp] theorem State.reclaim_ports : (s.reclaim).ports = s.ports := rfl
@[simp] theorem State.reclaim_pair : (s.reclaim).pair = s.pair := rfl
@[simp] theorem State.reclaim_fw : (s.reclaim).fw = s.fw := rfl
@[simp] theorem State.reclaim_usb : (s.reclaim).usb = s.usb := rfl
@[simp] theorem State.reclaim_tag : (s.reclaim).tag = s.tag := rfl
@[simp] theorem State.reclaim_feeds : (s.reclaim).feeds = s.feeds := rfl
@[simp] theorem State.reclaim_thermal : (s.reclaim).thermal = s.thermal := rfl
@[simp] theorem State.reclaim_pins : (s.reclaim).pins = s.pins := rfl

/-! ### `State.logMap` -/

@[simp] theorem State.logMap_pending (m page : Nat) (c : MapChange) : (s.logMap m page c).pending = s.pending := rfl
@[simp] theorem State.logMap_out (m page : Nat) (c : MapChange) : (s.logMap m page c).out = s.out := rfl
@[simp] theorem State.logMap_ident (m page : Nat) (c : MapChange) : (s.logMap m page c).ident = s.ident := rfl
@[simp] theorem State.logMap_mode (m page : Nat) (c : MapChange) : (s.logMap m page c).mode = s.mode := rfl
@[simp] theorem State.logMap_power (m page : Nat) (c : MapChange) : (s.logMap m page c).power = s.power := rfl
@[simp] theorem State.logMap_ctrl (m page : Nat) (c : MapChange) : (s.logMap m page c).ctrl = s.ctrl := rfl
@[simp] theorem State.logMap_settings (m page : Nat) (c : MapChange) : (s.logMap m page c).settings = s.settings := rfl
@[simp] theorem State.logMap_time (m page : Nat) (c : MapChange) : (s.logMap m page c).time = s.time := rfl
@[simp] theorem State.logMap_sess (m page : Nat) (c : MapChange) : (s.logMap m page c).sess = s.sess := rfl
@[simp] theorem State.logMap_cmds (m page : Nat) (c : MapChange) : (s.logMap m page c).cmds = s.cmds := rfl
@[simp] theorem State.logMap_locks (m page : Nat) (c : MapChange) : (s.logMap m page c).locks = s.locks := rfl
@[simp] theorem State.logMap_kv (m page : Nat) (c : MapChange) : (s.logMap m page c).kv = s.kv := rfl
@[simp] theorem State.logMap_seq (m page : Nat) (c : MapChange) : (s.logMap m page c).seq = s.seq := rfl
@[simp] theorem State.logMap_win (m page : Nat) (c : MapChange) : (s.logMap m page c).win = s.win := rfl
@[simp] theorem State.logMap_ns (m page : Nat) (c : MapChange) : (s.logMap m page c).ns = s.ns := rfl
@[simp] theorem State.logMap_creds (m page : Nat) (c : MapChange) : (s.logMap m page c).creds = s.creds := rfl
@[simp] theorem State.logMap_asu (m page : Nat) (c : MapChange) : (s.logMap m page c).asu = s.asu := rfl
@[simp] theorem State.logMap_vault (m page : Nat) (c : MapChange) : (s.logMap m page c).vault = s.vault := rfl
@[simp] theorem State.logMap_programs (m page : Nat) (c : MapChange) : (s.logMap m page c).programs = s.programs := rfl
@[simp] theorem State.logMap_comets (m page : Nat) (c : MapChange) : (s.logMap m page c).comets = s.comets := rfl
@[simp] theorem State.logMap_attn (m page : Nat) (c : MapChange) : (s.logMap m page c).attn = s.attn := rfl
@[simp] theorem State.logMap_health (m page : Nat) (c : MapChange) : (s.logMap m page c).health = s.health := rfl
@[simp] theorem State.logMap_ports (m page : Nat) (c : MapChange) : (s.logMap m page c).ports = s.ports := rfl
@[simp] theorem State.logMap_pair (m page : Nat) (c : MapChange) : (s.logMap m page c).pair = s.pair := rfl
@[simp] theorem State.logMap_fw (m page : Nat) (c : MapChange) : (s.logMap m page c).fw = s.fw := rfl
@[simp] theorem State.logMap_usb (m page : Nat) (c : MapChange) : (s.logMap m page c).usb = s.usb := rfl
@[simp] theorem State.logMap_tag (m page : Nat) (c : MapChange) : (s.logMap m page c).tag = s.tag := rfl
@[simp] theorem State.logMap_feeds (m page : Nat) (c : MapChange) : (s.logMap m page c).feeds = s.feeds := rfl
@[simp] theorem State.logMap_thermal (m page : Nat) (c : MapChange) : (s.logMap m page c).thermal = s.thermal := rfl
@[simp] theorem State.logMap_pins (m page : Nat) (c : MapChange) : (s.logMap m page c).pins = s.pins := rfl

/-! ### Extents that are dropped, and object sessions that end: they reach the media, the counter of free values and the
store alone -/

theorem State.logToken_eq (es : List Extent) (token : Option Nat) (f : Nat → MapChange) :
    ∃ n m, s.logToken es token f = { s with fresh := n, media := m } := by
  have g : ∀ (t : Nat) (l : List Nat) (s : State), ∃ n m, l.foldl (fun s m => s.logMap m 0 (f t)) s = { s with fresh := n, media := m } := by
    intro t l
    induction l with
    | nil => intro s; exact ⟨_, _, rfl⟩
    | cons a l ih => intro s; obtain ⟨n, m, e⟩ := ih (s.logMap a 0 (f t)); exact ⟨n, m, by rw [List.foldl_cons, e]; rfl⟩
  cases token with
  | none => exact ⟨_, _, rfl⟩
  | some t => exact g t _ s

theorem State.dropExtents_eq (es : List Extent) (token : Option Nat) :
    ∃ n m, s.dropExtents es token = { s with fresh := n, media := m } := by
  obtain ⟨n, m, e⟩ := s.logToken_eq es token .void
  unfold State.dropExtents; rw [e]
  cases token <;> exact ⟨_, _, rfl⟩

theorem State.endObjects_eq (p : ObjSession → Bool) :
    ∃ n m k, s.endObjects p = { s with fresh := n, media := m, kv := k } := by
  have g : ∀ (l : List ObjSession) (s : State), ∃ n m,
      l.foldl (fun s o => s.dropExtents o.extents o.token) s = { s with fresh := n, media := m } := by
    intro l
    induction l with
    | nil => intro s; exact ⟨_, _, rfl⟩
    | cons a l ih =>
      intro s
      obtain ⟨n, m, e⟩ := s.dropExtents_eq a.extents a.token
      obtain ⟨n2, m2, e2⟩ := ih (s.dropExtents a.extents a.token)
      exact ⟨n2, m2, by rw [List.foldl_cons, e2, e]⟩
  obtain ⟨n, m, e⟩ := g (s.kv.objects.filter fun o => p o && !(s.cmds.list.any fun c => c.obj == some o.handle &&
    c.extents.any (·.ofObj) && c.hasCsn)) s
  exact ⟨n, m, _, by unfold State.endObjects; dsimp only; rw [e]⟩

@[simp] theorem State.dropExtents_pending (es : List Extent) (token : Option Nat) : (s.dropExtents es token).pending = s.pending := by
  obtain ⟨n, m, e⟩ := s.dropExtents_eq es token; rw [e]
@[simp] theorem State.endObjects_pending (p : ObjSession → Bool) : (s.endObjects p).pending = s.pending := by
  obtain ⟨n, m, k, e⟩ := s.endObjects_eq p; rw [e]
@[simp] theorem State.dropExtents_out (es : List Extent) (token : Option Nat) : (s.dropExtents es token).out = s.out := by
  obtain ⟨n, m, e⟩ := s.dropExtents_eq es token; rw [e]
@[simp] theorem State.endObjects_out (p : ObjSession → Bool) : (s.endObjects p).out = s.out := by
  obtain ⟨n, m, k, e⟩ := s.endObjects_eq p; rw [e]
@[simp] theorem State.dropExtents_ident (es : List Extent) (token : Option Nat) : (s.dropExtents es token).ident = s.ident := by
  obtain ⟨n, m, e⟩ := s.dropExtents_eq es token; rw [e]
@[simp] theorem State.endObjects_ident (p : ObjSession → Bool) : (s.endObjects p).ident = s.ident := by
  obtain ⟨n, m, k, e⟩ := s.endObjects_eq p; rw [e]
@[simp] theorem State.dropExtents_mode (es : List Extent) (token : Option Nat) : (s.dropExtents es token).mode = s.mode := by
  obtain ⟨n, m, e⟩ := s.dropExtents_eq es token; rw [e]
@[simp] theorem State.endObjects_mode (p : ObjSession → Bool) : (s.endObjects p).mode = s.mode := by
  obtain ⟨n, m, k, e⟩ := s.endObjects_eq p; rw [e]
@[simp] theorem State.dropExtents_power (es : List Extent) (token : Option Nat) : (s.dropExtents es token).power = s.power := by
  obtain ⟨n, m, e⟩ := s.dropExtents_eq es token; rw [e]
@[simp] theorem State.endObjects_power (p : ObjSession → Bool) : (s.endObjects p).power = s.power := by
  obtain ⟨n, m, k, e⟩ := s.endObjects_eq p; rw [e]
@[simp] theorem State.dropExtents_ctrl (es : List Extent) (token : Option Nat) : (s.dropExtents es token).ctrl = s.ctrl := by
  obtain ⟨n, m, e⟩ := s.dropExtents_eq es token; rw [e]
@[simp] theorem State.endObjects_ctrl (p : ObjSession → Bool) : (s.endObjects p).ctrl = s.ctrl := by
  obtain ⟨n, m, k, e⟩ := s.endObjects_eq p; rw [e]
@[simp] theorem State.dropExtents_settings (es : List Extent) (token : Option Nat) : (s.dropExtents es token).settings = s.settings := by
  obtain ⟨n, m, e⟩ := s.dropExtents_eq es token; rw [e]
@[simp] theorem State.endObjects_settings (p : ObjSession → Bool) : (s.endObjects p).settings = s.settings := by
  obtain ⟨n, m, k, e⟩ := s.endObjects_eq p; rw [e]
@[simp] theorem State.dropExtents_time (es : List Extent) (token : Option Nat) : (s.dropExtents es token).time = s.time := by
  obtain ⟨n, m, e⟩ := s.dropExtents_eq es token; rw [e]
@[simp] theorem State.endObjects_time (p : ObjSession → Bool) : (s.endObjects p).time = s.time := by
  obtain ⟨n, m, k, e⟩ := s.endObjects_eq p; rw [e]
@[simp] theorem State.dropExtents_sess (es : List Extent) (token : Option Nat) : (s.dropExtents es token).sess = s.sess := by
  obtain ⟨n, m, e⟩ := s.dropExtents_eq es token; rw [e]
@[simp] theorem State.endObjects_sess (p : ObjSession → Bool) : (s.endObjects p).sess = s.sess := by
  obtain ⟨n, m, k, e⟩ := s.endObjects_eq p; rw [e]
@[simp] theorem State.dropExtents_cmds (es : List Extent) (token : Option Nat) : (s.dropExtents es token).cmds = s.cmds := by
  obtain ⟨n, m, e⟩ := s.dropExtents_eq es token; rw [e]
@[simp] theorem State.endObjects_cmds (p : ObjSession → Bool) : (s.endObjects p).cmds = s.cmds := by
  obtain ⟨n, m, k, e⟩ := s.endObjects_eq p; rw [e]
@[simp] theorem State.dropExtents_locks (es : List Extent) (token : Option Nat) : (s.dropExtents es token).locks = s.locks := by
  obtain ⟨n, m, e⟩ := s.dropExtents_eq es token; rw [e]
@[simp] theorem State.endObjects_locks (p : ObjSession → Bool) : (s.endObjects p).locks = s.locks := by
  obtain ⟨n, m, k, e⟩ := s.endObjects_eq p; rw [e]
@[simp] theorem State.dropExtents_kv (es : List Extent) (token : Option Nat) : (s.dropExtents es token).kv = s.kv := by
  obtain ⟨n, m, e⟩ := s.dropExtents_eq es token; rw [e]
@[simp] theorem State.dropExtents_seq (es : List Extent) (token : Option Nat) : (s.dropExtents es token).seq = s.seq := by
  obtain ⟨n, m, e⟩ := s.dropExtents_eq es token; rw [e]
@[simp] theorem State.endObjects_seq (p : ObjSession → Bool) : (s.endObjects p).seq = s.seq := by
  obtain ⟨n, m, k, e⟩ := s.endObjects_eq p; rw [e]
@[simp] theorem State.dropExtents_win (es : List Extent) (token : Option Nat) : (s.dropExtents es token).win = s.win := by
  obtain ⟨n, m, e⟩ := s.dropExtents_eq es token; rw [e]
@[simp] theorem State.endObjects_win (p : ObjSession → Bool) : (s.endObjects p).win = s.win := by
  obtain ⟨n, m, k, e⟩ := s.endObjects_eq p; rw [e]
@[simp] theorem State.dropExtents_ns (es : List Extent) (token : Option Nat) : (s.dropExtents es token).ns = s.ns := by
  obtain ⟨n, m, e⟩ := s.dropExtents_eq es token; rw [e]
@[simp] theorem State.endObjects_ns (p : ObjSession → Bool) : (s.endObjects p).ns = s.ns := by
  obtain ⟨n, m, k, e⟩ := s.endObjects_eq p; rw [e]
@[simp] theorem State.dropExtents_creds (es : List Extent) (token : Option Nat) : (s.dropExtents es token).creds = s.creds := by
  obtain ⟨n, m, e⟩ := s.dropExtents_eq es token; rw [e]
@[simp] theorem State.endObjects_creds (p : ObjSession → Bool) : (s.endObjects p).creds = s.creds := by
  obtain ⟨n, m, k, e⟩ := s.endObjects_eq p; rw [e]
@[simp] theorem State.dropExtents_asu (es : List Extent) (token : Option Nat) : (s.dropExtents es token).asu = s.asu := by
  obtain ⟨n, m, e⟩ := s.dropExtents_eq es token; rw [e]
@[simp] theorem State.endObjects_asu (p : ObjSession → Bool) : (s.endObjects p).asu = s.asu := by
  obtain ⟨n, m, k, e⟩ := s.endObjects_eq p; rw [e]
@[simp] theorem State.dropExtents_vault (es : List Extent) (token : Option Nat) : (s.dropExtents es token).vault = s.vault := by
  obtain ⟨n, m, e⟩ := s.dropExtents_eq es token; rw [e]
@[simp] theorem State.endObjects_vault (p : ObjSession → Bool) : (s.endObjects p).vault = s.vault := by
  obtain ⟨n, m, k, e⟩ := s.endObjects_eq p; rw [e]
@[simp] theorem State.dropExtents_programs (es : List Extent) (token : Option Nat) : (s.dropExtents es token).programs = s.programs := by
  obtain ⟨n, m, e⟩ := s.dropExtents_eq es token; rw [e]
@[simp] theorem State.endObjects_programs (p : ObjSession → Bool) : (s.endObjects p).programs = s.programs := by
  obtain ⟨n, m, k, e⟩ := s.endObjects_eq p; rw [e]
@[simp] theorem State.dropExtents_comets (es : List Extent) (token : Option Nat) : (s.dropExtents es token).comets = s.comets := by
  obtain ⟨n, m, e⟩ := s.dropExtents_eq es token; rw [e]
@[simp] theorem State.endObjects_comets (p : ObjSession → Bool) : (s.endObjects p).comets = s.comets := by
  obtain ⟨n, m, k, e⟩ := s.endObjects_eq p; rw [e]
@[simp] theorem State.dropExtents_attn (es : List Extent) (token : Option Nat) : (s.dropExtents es token).attn = s.attn := by
  obtain ⟨n, m, e⟩ := s.dropExtents_eq es token; rw [e]
@[simp] theorem State.endObjects_attn (p : ObjSession → Bool) : (s.endObjects p).attn = s.attn := by
  obtain ⟨n, m, k, e⟩ := s.endObjects_eq p; rw [e]
@[simp] theorem State.dropExtents_health (es : List Extent) (token : Option Nat) : (s.dropExtents es token).health = s.health := by
  obtain ⟨n, m, e⟩ := s.dropExtents_eq es token; rw [e]
@[simp] theorem State.endObjects_health (p : ObjSession → Bool) : (s.endObjects p).health = s.health := by
  obtain ⟨n, m, k, e⟩ := s.endObjects_eq p; rw [e]
@[simp] theorem State.dropExtents_ports (es : List Extent) (token : Option Nat) : (s.dropExtents es token).ports = s.ports := by
  obtain ⟨n, m, e⟩ := s.dropExtents_eq es token; rw [e]
@[simp] theorem State.endObjects_ports (p : ObjSession → Bool) : (s.endObjects p).ports = s.ports := by
  obtain ⟨n, m, k, e⟩ := s.endObjects_eq p; rw [e]
@[simp] theorem State.dropExtents_pair (es : List Extent) (token : Option Nat) : (s.dropExtents es token).pair = s.pair := by
  obtain ⟨n, m, e⟩ := s.dropExtents_eq es token; rw [e]
@[simp] theorem State.endObjects_pair (p : ObjSession → Bool) : (s.endObjects p).pair = s.pair := by
  obtain ⟨n, m, k, e⟩ := s.endObjects_eq p; rw [e]
@[simp] theorem State.dropExtents_fw (es : List Extent) (token : Option Nat) : (s.dropExtents es token).fw = s.fw := by
  obtain ⟨n, m, e⟩ := s.dropExtents_eq es token; rw [e]
@[simp] theorem State.endObjects_fw (p : ObjSession → Bool) : (s.endObjects p).fw = s.fw := by
  obtain ⟨n, m, k, e⟩ := s.endObjects_eq p; rw [e]
@[simp] theorem State.dropExtents_usb (es : List Extent) (token : Option Nat) : (s.dropExtents es token).usb = s.usb := by
  obtain ⟨n, m, e⟩ := s.dropExtents_eq es token; rw [e]
@[simp] theorem State.endObjects_usb (p : ObjSession → Bool) : (s.endObjects p).usb = s.usb := by
  obtain ⟨n, m, k, e⟩ := s.endObjects_eq p; rw [e]
@[simp] theorem State.dropExtents_tag (es : List Extent) (token : Option Nat) : (s.dropExtents es token).tag = s.tag := by
  obtain ⟨n, m, e⟩ := s.dropExtents_eq es token; rw [e]
@[simp] theorem State.endObjects_tag (p : ObjSession → Bool) : (s.endObjects p).tag = s.tag := by
  obtain ⟨n, m, k, e⟩ := s.endObjects_eq p; rw [e]
@[simp] theorem State.dropExtents_feeds (es : List Extent) (token : Option Nat) : (s.dropExtents es token).feeds = s.feeds := by
  obtain ⟨n, m, e⟩ := s.dropExtents_eq es token; rw [e]
@[simp] theorem State.endObjects_feeds (p : ObjSession → Bool) : (s.endObjects p).feeds = s.feeds := by
  obtain ⟨n, m, k, e⟩ := s.endObjects_eq p; rw [e]
@[simp] theorem State.dropExtents_thermal (es : List Extent) (token : Option Nat) : (s.dropExtents es token).thermal = s.thermal := by
  obtain ⟨n, m, e⟩ := s.dropExtents_eq es token; rw [e]
@[simp] theorem State.endObjects_thermal (p : ObjSession → Bool) : (s.endObjects p).thermal = s.thermal := by
  obtain ⟨n, m, k, e⟩ := s.endObjects_eq p; rw [e]
@[simp] theorem State.dropExtents_pins (es : List Extent) (token : Option Nat) : (s.dropExtents es token).pins = s.pins := by
  obtain ⟨n, m, e⟩ := s.dropExtents_eq es token; rw [e]
@[simp] theorem State.endObjects_pins (p : ObjSession → Bool) : (s.endObjects p).pins = s.pins := by
  obtain ⟨n, m, k, e⟩ := s.endObjects_eq p; rw [e]

@[simp] theorem State.emit_out (o : Output) : (s.emit o).out = s.out ++ [o] := rfl
@[simp] theorem State.emitAll_out (os : List Output) : (s.emitAll os).out = s.out ++ os := rfl
@[simp] theorem State.draw_fresh : s.draw.fresh = s.fresh + 1 := rfl

/-! ### `State.logEvent`: everything but the log stays -/

@[simp] theorem State.logEvent_pending (code unit index : Nat) (data : List (Nat × Bytes)) :
    (s.logEvent code unit index data).pending = s.pending := rfl
@[simp] theorem State.logEvent_out (code unit index : Nat) (data : List (Nat × Bytes)) :
    (s.logEvent code unit index data).out = s.out := rfl
@[simp] theorem State.logEvent_fresh (code unit index : Nat) (data : List (Nat × Bytes)) :
    (s.logEvent code unit index data).fresh = s.fresh := rfl
@[simp] theorem State.logEvent_ident (code unit index : Nat) (data : List (Nat × Bytes)) :
    (s.logEvent code unit index data).ident = s.ident := rfl
@[simp] theorem State.logEvent_mode (code unit index : Nat) (data : List (Nat × Bytes)) :
    (s.logEvent code unit index data).mode = s.mode := rfl
@[simp] theorem State.logEvent_power (code unit index : Nat) (data : List (Nat × Bytes)) :
    (s.logEvent code unit index data).power = s.power := rfl
@[simp] theorem State.logEvent_ctrl (code unit index : Nat) (data : List (Nat × Bytes)) :
    (s.logEvent code unit index data).ctrl = s.ctrl := rfl
@[simp] theorem State.logEvent_settings (code unit index : Nat) (data : List (Nat × Bytes)) :
    (s.logEvent code unit index data).settings = s.settings := rfl
@[simp] theorem State.logEvent_time (code unit index : Nat) (data : List (Nat × Bytes)) :
    (s.logEvent code unit index data).time = s.time := rfl
@[simp] theorem State.logEvent_sess (code unit index : Nat) (data : List (Nat × Bytes)) :
    (s.logEvent code unit index data).sess = s.sess := rfl
@[simp] theorem State.logEvent_cmds (code unit index : Nat) (data : List (Nat × Bytes)) :
    (s.logEvent code unit index data).cmds = s.cmds := rfl
@[simp] theorem State.logEvent_locks (code unit index : Nat) (data : List (Nat × Bytes)) :
    (s.logEvent code unit index data).locks = s.locks := rfl
@[simp] theorem State.logEvent_kv (code unit index : Nat) (data : List (Nat × Bytes)) :
    (s.logEvent code unit index data).kv = s.kv := rfl
@[simp] theorem State.logEvent_seq (code unit index : Nat) (data : List (Nat × Bytes)) :
    (s.logEvent code unit index data).seq = s.seq := rfl
@[simp] theorem State.logEvent_win (code unit index : Nat) (data : List (Nat × Bytes)) :
    (s.logEvent code unit index data).win = s.win := rfl
@[simp] theorem State.logEvent_ns (code unit index : Nat) (data : List (Nat × Bytes)) :
    (s.logEvent code unit index data).ns = s.ns := rfl
@[simp] theorem State.logEvent_creds (code unit index : Nat) (data : List (Nat × Bytes)) :
    (s.logEvent code unit index data).creds = s.creds := rfl
@[simp] theorem State.logEvent_asu (code unit index : Nat) (data : List (Nat × Bytes)) :
    (s.logEvent code unit index data).asu = s.asu := rfl
@[simp] theorem State.logEvent_vault (code unit index : Nat) (data : List (Nat × Bytes)) :
    (s.logEvent code unit index data).vault = s.vault := rfl
@[simp] theorem State.logEvent_programs (code unit index : Nat) (data : List (Nat × Bytes)) :
    (s.logEvent code unit index data).programs = s.programs := rfl
@[simp] theorem State.logEvent_comets (code unit index : Nat) (data : List (Nat × Bytes)) :
    (s.logEvent code unit index data).comets = s.comets := rfl
@[simp] theorem State.logEvent_media (code unit index : Nat) (data : List (Nat × Bytes)) :
    (s.logEvent code unit index data).media = s.media := rfl
@[simp] theorem State.logEvent_health (code unit index : Nat) (data : List (Nat × Bytes)) :
    (s.logEvent code unit index data).health = s.health := rfl
@[simp] theorem State.logEvent_ports (code unit index : Nat) (data : List (Nat × Bytes)) :
    (s.logEvent code unit index data).ports = s.ports := rfl
@[simp] theorem State.logEvent_pair (code unit index : Nat) (data : List (Nat × Bytes)) :
    (s.logEvent code unit index data).pair = s.pair := rfl
@[simp] theorem State.logEvent_fw (code unit index : Nat) (data : List (Nat × Bytes)) :
    (s.logEvent code unit index data).fw = s.fw := rfl
@[simp] theorem State.logEvent_usb (code unit index : Nat) (data : List (Nat × Bytes)) :
    (s.logEvent code unit index data).usb = s.usb := rfl
@[simp] theorem State.logEvent_tag (code unit index : Nat) (data : List (Nat × Bytes)) :
    (s.logEvent code unit index data).tag = s.tag := rfl
@[simp] theorem State.logEvent_feeds (code unit index : Nat) (data : List (Nat × Bytes)) :
    (s.logEvent code unit index data).feeds = s.feeds := rfl
@[simp] theorem State.logEvent_thermal (code unit index : Nat) (data : List (Nat × Bytes)) :
    (s.logEvent code unit index data).thermal = s.thermal := rfl
@[simp] theorem State.logEvent_pins (code unit index : Nat) (data : List (Nat × Bytes)) :
    (s.logEvent code unit index data).pins = s.pins := rfl
/-- A new log entry does not touch the causes. -/
@[simp] theorem State.logEvent_causes (code unit index : Nat) (data : List (Nat × Bytes)) :
    (s.logEvent code unit index data).attn.causes = s.attn.causes := by
  unfold State.logEvent State.logged; dsimp only; split <;> rfl

@[simp] theorem State.logEvent_warnings (code unit index : Nat) (data : List (Nat × Bytes)) :
    (s.logEvent code unit index data).attn.warnings = s.attn.warnings := by
  unfold State.logEvent State.logged; dsimp only; split <;> rfl

/-! ### Commands and sessions after their updates -/

/-- Finding an element by a number that the change keeps. -/
theorem find_mapWhere {α : Type} (key : α → Nat) (n : Nat) (f : α → α) (hf : ∀ a, key (f a) = key a) (l : List α) :
    (mapWhere (key · == n) f l).find? (key · == n) = (l.find? (key · == n)).map f := by
  induction l with
  | nil => rfl
  | cons a l ih =>
    simp only [mapWhere, List.map_cons, List.find?_cons] at ih ⊢
    by_cases h : (key a == n) = true
    · simp [h, hf]
    · rw [Bool.not_eq_true] at h; simp only [h, Bool.false_eq_true, if_false]; exact ih

/-- Finding an element by a number after a change of the elements that `q` selects. -/
theorem find_mapWhere_of {α : Type} (key : α → Nat) (n : Nat) (q : α → Bool) (f : α → α) (hf : ∀ a, key (f a) = key a)
    (l : List α) :
    (mapWhere q f l).find? (key · == n) = (l.find? (key · == n)).map fun a => if q a then f a else a := by
  induction l with
  | nil => rfl
  | cons a l ih =>
    simp only [mapWhere, List.map_cons, List.find?_cons] at ih ⊢
    have hk : key (if q a = true then f a else a) = key a := by split <;> simp [hf]
    rw [hk]
    by_cases h : (key a == n) = true
    · simp [h]
    · rw [Bool.not_eq_true] at h; simp only [h]; exact ih

/-- Opening fences leaves a command that was not behind one. -/
theorem State.cmd?_releaseFences (sid ring ref : Nat) (c : Cmd) (h : s.cmd? ref = some c) (hp : c.phase ≠ .fenced) :
    (s.releaseFences sid ring).cmd? ref = some c := by
  have e : (s.releaseFences sid ring).cmd? ref = (s.cmd? ref).map
      (fun c => if (c.sid == sid && c.ring == ring && s.fenceOpen c) = true
        then { c with phase := if needsAreas c.desc then .areas else .ready } else c) :=
    find_mapWhere_of (fun (c : Cmd) => c.ref) ref (fun c => c.sid == sid && c.ring == ring && s.fenceOpen c)
      (fun c => { c with phase := if needsAreas c.desc then .areas else .ready }) (fun _ => rfl) s.cmds.list
  rw [e, h]
  simp [State.fenceOpen, hp]

/-- A command after its own change. -/
theorem State.cmd?_modCmd (ref : Nat) (f : Cmd → Cmd) (hf : ∀ c, (f c).ref = c.ref) :
    (s.modCmd ref f).cmd? ref = (s.cmd? ref).map f := find_mapWhere (fun (c : Cmd) => c.ref) ref f hf s.cmds.list

/-- A session after its own change. -/
theorem State.session?_modSession (sid : Nat) (f : Session → Session) (hf : ∀ x, (f x).sid = x.sid) :
    (s.modSession sid f).session? sid = (s.session? sid).map f := find_mapWhere (fun (x : Session) => x.sid) sid f hf s.sess.sessions

/-- A comet after its own change. -/
theorem State.comet?_modComet (num : Nat) (f : Comet → Comet) (hf : ∀ k, (f k).num = k.num) :
    (s.modComet num f).comet? num = (s.comet? num).map f := find_mapWhere (fun (k : Comet) => k.num) num f hf s.comets.list

/-- A command found by its reference has that reference. -/
theorem State.cmd?_ref (ref : Nat) (c : Cmd) (h : s.cmd? ref = some c) : c.ref = ref := by
  have := List.find?_some h; simpa using this

/-- A forgotten command is found no more. -/
@[simp] theorem State.cmd?_dropCmd (ref : Nat) : (s.dropCmd ref).cmd? ref = none := by
  simp [State.cmd?, State.dropCmd, List.find?_eq_none]

end Sys2Proof.Machine
end

