-- ==== Sys2Proof/WellFormed.lean ====
section
/-! DEFINITION. Well-formed commands: the operands lie in the ranges that the module has parts for (00 Table 0.1, 01
Table 1.1, 03 Table 3.11, 08 Table 8.1). A command outside them names something the module has not got. -/

namespace Sys2Proof

/-- A logical port 0 to 127 or a pair link 0 to 7 (17). -/
def LinkId.wf : LinkId → Bool
  | .port l => decide (l < 128)
  | .pair n => decide (n < 8)

/-- Moon 0 to 7, die 0 to 511, block 0 to 20,399 (08 Table 8.1). -/
def BlockId.wf (b : BlockId) : Bool := decide (b.moon < 8) && decide (b.die < 512) && decide (b.block < 20400)

/-- Moon 0 to 7, channel island 0 to 7 (01 Table 1.3). -/
def Island.wf : Island → Bool
  | .channel m i => decide (m < 8) && decide (i < 8)
  | .moon m => decide (m < 8)
  | .front _ => true

/-- A unit of the module. -/
def UnitId.wf : UnitId → Bool
  | .moon m => decide (m < 8)
  | _ => true

/-- A band, or an SLC block of the module. -/
def AgedData.wf : AgedData → Bool
  | .band _ => true
  | .slc b => b.wf

/-- An object's page, or a map page of moon 0 to 7. -/
def StripeFill.wf : StripeFill → Bool
  | .object _ => true
  | .mapPage m _ => decide (m < 8)

/-- A sensor of 20 Table 20.7. -/
def Sensor.wf : Sensor → Bool
  | .die m d => decide (m < 8) && decide (d < 512)
  | .moon m _ => decide (m < 8)
  | _ => true

/-- A host port 0 to 31, a logical port 0 to 127, or the bootstrap group (18). -/
def StageGroup.wf : StageGroup → Bool
  | .hostPort n => decide (n < 32)
  | .logicalPort l => decide (l < 128)
  | .bootstrap => true

/-- A well-formed command. -/
def Instr.wf (i : Instr) : Bool :=
  match i with
  | .kvGet _ => true
  | .kvPut _ => true
  | .kvDelete _ => true
  | .kvCas _ => true
  | .kvHead _ _ => true
  | .kvBatch _ => true
  | .kvObjBegin _ => true
  | .kvObjAppend _ => true
  | .kvObjSeal _ => true
  | .kvDeleteRange _ => true
  | .unknownOpcode _ => true
  | .cometScan _ => true
  | .cometSearch _ => true
  | .cometFixityAudit _ => true
  | .cometShortSelfTest _ => true
  | .cometExtendedSelfTest _ => true
  | .cometNamespaceExport _ => true
  | .admLoginBegin _ _ => true
  | .admLoginProve _ => true
  | .admRingCreate _ => true
  | .admRingDestroy _ => true
  | .admRingReset _ => true
  | .admRingStart _ => true
  | .admRingResize _ => true
  | .admRingQuery _ _ => true
  | .admNsCreate _ => true
  | .admNsSet _ => true
  | .admNsDelete _ => true
  | .admNsQuery _ _ => true
  | .credentialCreate _ _ => true
  | .credentialSetSecret _ _ => true
  | .credentialGrant _ => true
  | .credentialRevoke _ => true
  | .credentialDelete _ => true
  | .credentialOutboundSet _ _ => true
  | .credentialOutboundDelete _ => true
  | .ruleAdd _ => true
  | .ruleRemove _ => true
  | .ruleEvaluate _ _ => true
  | .keyslotImport _ _ => true
  | .keyslotErase _ => true
  | .keyslotSetLimit _ => true
  | .keyslotQuery _ _ => true
  | .admProgramLoad _ => true
  | .programUnload _ => true
  | .programLoadTurn slot _ => decide (slot < 16)
  | .pairForm _ _ _ _ => true
  | .pairJoin _ => true
  | .pairSwap _ _ => true
  | .pairDissolve _ => true
  | .pairDissolveForce _ => true
  | .pairSetWitness _ _ => true
  | .pairQuery _ _ => true
  | .rangeMapApply _ _ => true
  | .rangeMapQuery _ _ => true
  | .admImageBlock _ _ => true
  | .admImageCommit _ => true
  | .imageCommitApply _ => true
  | .imageCommitRevert _ => true
  | .applyWarmStart => true
  | .admMigrateConfirm _ => true
  | .modeCommissionComplete _ => true
  | .modeServiceEnter _ => true
  | .modeServiceExit _ => true
  | .modeArchivalLockSet _ => true
  | .modeArchivalLockClear _ => true
  | .powerP0 _ => true
  | .powerP1 _ => true
  | .powerP2 _ => true
  | .powerP3 _ => true
  | .powerShutdown _ => true
  | .powerWarmRestart _ => true
  | .admFormat _ => true
  | .admAttest _ _ => true
  | .healthRead _ _ => true
  | .healthAck _ => true
  | .admLogRead _ _ => true
  | .ctrlP0 _ => true
  | .ctrlP1 _ => true
  | .ctrlP2 _ => true
  | .ctrlP3 _ => true
  | .ctrlShutdown _ => true
  | .ctrlWarmRestart _ => true
  | .ctrlColdRestart _ => true
  | .ctrlServiceEnter _ => true
  | .ctrlServiceExit _ => true
  | .ctrlCommissionComplete _ => true
  | .ctrlArchivalLockSet _ => true
  | .ctrlArchivalLockClear _ => true
  | .ctrlEfuseClear _ _ => true
  | .ctrlUnknown _ _ => true
  | .registerWrite _ _ _ => true
  | .stagedFieldWrite _ _ _ => true
  | .portConfigApply _ port _ => decide (port < 32)
  | .addressApply _ lport _ => decide (lport < 128)
  | .bootstrapApply _ _ => true
  | .stageDiscard _ g => g.wf
  | .attnAck _ _ => true
  | .counterSnap _ link => link.wf
  | .ppsSecondsWrite _ _ => true
  | .timeSourceWrite _ _ _ => true
  | .setupEnable _ => true
  | .setupEnableResume _ => true
  | .setupReset _ => true
  | .windowOpen _ => true
  | .i3cEntdaa _ => true
  | .spdmGetVersion => true
  | .spdmGetCapabilities => true
  | .spdmNegotiateAlgorithms => true
  | .spdmGetDigests => true
  | .spdmGetCertificate _ _ _ => true
  | .spdmChallenge _ _ => true
  | .spdmGetMeasurements _ _ _ => true
  | .spdmUnsupportedRequest _ => true
  | .usbVbusChange _ => true
  | .usbBusReset => true
  | .usbStandardRequest setup => setup.length == 8
  | .rspUnknownRequest setup => setup.length == 8
  | .rspImageBlock _ comp _ _ => decide (comp < 256)
  | .rspImageCommit comp _ _ _ _ => decide (comp < 256)
  | .rspImageDiscard comp _ => decide (comp < 256)
  | .rspMigrateConfirm _ => true
  | .rspTagRead _ _ => true
  | .rspTagLabelWrite _ _ _ => true
  | .rspStatus => true
  | .tagInventory => true
  | .tagStayQuiet _ => true
  | .tagSelect _ => true
  | .tagResetToReady => true
  | .tagGetSystemInfo _ => true
  | .tagReadSingleBlock _ => true
  | .tagReadMultipleBlocks _ _ => true
  | .tagWriteSingleBlock _ _ => true
  | .tagLockBlock _ => true
  | .tagRfSessionEnd => true
  | .tagWiredRetry => true
  | .tagHealthUpdate => true
  | .connectionRequest req => decide (req.lport < 128)
  | .hostDreq _ => true
  | .invalidHostOperation _ => true
  | .qpError _ => true
  | .orphanHoldExpire _ => true
  | .sessionAgeOut _ => true
  | .loginLockoutExpire _ => true
  | .doorbellPoll _ ring => decide (ring < 4096)
  | .doorbellReadResponse _ ring _ => decide (ring < 4096)
  | .descriptorFetch _ ring descs => decide (ring < 4096) && decide (descs.length ≤ 16) && descs.all (fun d => d.length == 64)
  | .ringIdleTimeout _ ring _ => decide (ring < 4096)
  | .idleSweep _ => true
  | .nudge _ _ _ => true
  | .completionEvent _ ring => decide (ring < 4096)
  | .hostAreaReadDone _ _ => true
  | .keyLockGrant _ => true
  | .valueFetchDone _ _ _ => true
  | .extentStaged _ _ => true
  | .csnGrant _ => true
  | .mutationCommit _ => true
  | .journalRecorded _ => true
  | .slcProgramDone _ => true
  | .pageReadDone _ _ _ => true
  | .sealCheckResult _ _ _ => true
  | .mapFillDone moon => decide (moon < 8)
  | .mapCacheInvalidationDone moon => decide (moon < 8)
  | .keyFetchDone moon slot => decide (moon < 8) && decide (slot < 8192)
  | .appendWaitTimeout _ => true
  | .objectSessionExpire _ => true
  | .deleteRangeCountDone _ => true
  | .ringResetEnd _ ring _ => decide (ring < 4096)
  | .pinExpire _ => true
  | .pinLingerExpire _ => true
  | .cometProgressUpdate _ _ => true
  | .resultRecordWrite _ _ _ => true
  | .creditReread _ _ => true
  | .cometEnd _ => true
  | .exportPeerCompletion _ _ _ _ => true
  | .exportRetry _ _ _ _ => true
  | .exportPeerTimeout _ _ => true
  | .idleTimerExpire => true
  | .powerStateEntered => true
  | .cleanShutdownDone => true
  | .coldStart _ _ => true
  | .startStepReached facts => facts.damaged.all (fun d => d.1.1.wf && d.2.length == 64)
  | .islandWakeFail i _ => i.unit.wf
  | .islandRetry i _ => i.unit.wf
  | .coldPrepare _ => true
  | .warmingEnter _ => true
  | .warmingExit _ => true
  | .warmingLong _ => true
  | .windowCompute volts => volts.length == 4
  | .windowResultTimeout => true
  | .capacitanceStep caps => caps.length == 4
  | .stringLoss string => decide (string < 4)
  | .writeThroughTimeout => true
  | .windowLowTimeout => true
  | .feedLost _ _ => true
  | .commitOrDiscardDone => true
  | .flushDone => true
  | .flushShortfall _ => true
  | .powerLossEnd _ => true
  | .feedRequalified _ _ => true
  | .efusePowerGood _ => true
  | .efuseTrip _ _ => true
  | .efuseRetry _ => true
  | .presentDeassert => true
  | .presentAssert _ => true
  | .throttleRaise island _ => island.wf
  | .throttleLower island _ => island.wf
  | .thermalTrip island _ => island.wf
  | .tripRecovery island => island.wf
  | .tripRebuildTimeout island => island.wf
  | .sensorBroken q => q.wf
  | .sidebandShortDetect pin => decide (pin < 24)
  | .sidebandShortClear pin => decide (pin < 24)
  | .aliveContentionDetect => true
  | .aliveContentionTest _ => true
  | .dieLost moon die => decide (moon < 8) && decide (die < 512)
  | .channelLost moon channel => decide (moon < 8) && decide (channel < 64)
  | .moonLost moon _ => decide (moon < 8)
  | .rebuildDone _ => true
  | .frontLost _ _ => true
  | .frontReturn _ => true
  | .dramDeviceFailed u _ => u.wf
  | .hostPortFailed port _ _ => decide (port < 32)
  | .portReturn lport => decide (lport < 128)
  | .cipherMismatch moon _ => decide (moon < 8)
  | .mgmtWatchdog => true
  | .mgmtRestartDone => true
  | .timeIslandFail => true
  | .fatalFault _ => true
  | .vaultAlarm row => decide (row < 4)
  | .keyCacheZeroize => true
  | .asuScrub _ _ _ => true
  | .asuPeerRepair _ _ _ => true
  | .blockRetire b _ => b.wf
  | .stripeComplete _ fills => fills.all (·.wf)
  | .stripePadTimeout moon => decide (moon < 8)
  | .garbageCollection _ => true
  | .readDisturbRefresh b => b.wf
  | .readCounterSave moon => decide (moon < 8)
  | .ageClockTick _ => true
  | .retentionSample b _ => b.wf
  | .ageRefresh data => data.wf
  | .wearLevelling _ => true
  | .mapWriteback moon => decide (moon < 8)
  | .healthDailySample _ => true
  | .heartbeatSend => true
  | .heartbeatReceive link _ _ => decide (link < 8)
  | .heartbeatTimeout link => decide (link < 8)
  | .pairAliveLost => true
  | .helloReceive cable _ _ _ => decide (cable.near < 8) && decide (cable.far < 8)
  | .gaspReceive _ _ => true
  | .pairForwardReceive _ => true
  | .completionAckReport _ => true
  | .swapDoneReceive _ _ _ => true
  | .leaseRenew => true
  | .witnessCasResponse _ => true
  | .leaseExpire => true
  | .witnessPoll _ _ _ => true
  | .joinExpire => true
  | .resyncDone _ => true
  | .linkUp link => link.wf
  | .announceRepeat x => x.what.wf
  | .frameReceive link _ => link.wf
  | .addressResolutionRequest lport _ _ => decide (lport < 128)
  | .pfcFrame lport _ => decide (lport < 128)
  | .cnpReceive lport => decide (lport < 128)
  | .ecnMarkedPacket x => decide (x.what < 128)
  | .gearUp link _ => link.wf
  | .gearDown link _ => link.wf
  | .ptpMessage lport _ => decide (lport < 128)
  | .ptpTimeout => true
  | .ppsEdge _ _ => true
  | .ppsLoss => true
  | .imageBankTimeout comp => decide (comp < 256)
  | .trialBankFail comp => decide (comp < 256)
  | .p0Reached => true
  | .timeIslandRestarted => true
  | .holdUpBankExhausted => true
  | .coolantInletReading _ => true
  | .pairAliveRestored => true
  | .swapRequestReceive _ _ _ => true
  | .partnerRecordHeld _ => true
  | .resyncFrameReceive _ _ _ _ => true

end Sys2Proof
end

