-- ==== Sys2Proof/Tests/Slice0.lean ====
section
/-! SUPPORT. The model's own tests: ill-formed commands that well-formedness refuses, vectors of the manual and of the
standards it names, and for each obligation with hypotheses a state and operands that meet them. -/

set_option Elab.async false

open Sys2Proof Sys2Proof.Machine

namespace Sys2Proof.Tests

/-! ### States and commands for the tests -/

/-- 64 bytes with fields (offset, width, value) over zeros. -/
def mk (l : List (Nat × Nat × Nat)) : Bytes := l.foldl (fun d f => overwrite d f.1 (toLe f.2.1 f.2.2)) (zeros 64)

/-- The descriptor of a command on the key "abc" of namespace 3. -/
def kd (op : Nat) (more : List (Nat × Nat × Nat) := []) : Bytes :=
  mk ([(0, 1, op), (6, 2, 3), (8, 2, 3), (24, 3, 0x636261)] ++ more)

def key : Bytes := [0x61, 0x62, 0x63]
def val : Bytes := [1, 2, 3, 4]
def admRing : Ring := { idx := 0 }
def dataRing : Ring := { idx := 1 }

/-- A Custodian's session with its admin ring and one data ring. -/
def sess : Session :=
  { sid := 1, handle := 7, cls := .live, role := 1, cred := 5, setup := { state := 1, window := true }, rings := [admRing, dataRing] }

def nsA : Namespace := { nsid := 3, slot := 1, quotaBytes := 1000, quotaObjs := 10 }
def ver : Version := { nsid := 3, key := key, csn := 0x100, value := some val, slot := 1, durable := true }
def feedOn : Feed := { inRange := true, lost := false, chan := .on }
def ruleAll : Rule := { idx := 0, nsAny := true, credAny := true, roles := 7, ops := 255, allow := true }
def slot1 : KeySlot := { slot := 1, st := .loaded, root := List.replicate 32 9 }
def custodian : Credential := { cred := 5, role := 1, secret := List.replicate 32 1 }
def curator : Credential := { cred := 6, role := 2, secret := [] }

/-- A running module in SOLO: one session, one namespace, a rule that allows everything. -/
def base : State :=
  { State.reset with
    mode := { mode := .solo }, power := { pstate := .p0, step := 12 },
    feeds := { a := feedOn, b := feedOn, bulkUp := true, mgmtUp := true },
    sess := { sessions := [sess], nextSid := 2 }, ns := [nsA], creds := { list := [custodian] },
    asu := { rules := [ruleAll] }, vault := { slots := [slot1], cached := [(0, 1), (1, 1)] },
    usb := { vbus := true, pullUp := true, i3cAddr := some 8 } }

/-- `base` with one version stored. -/
def stored : State := { base with kv := { versions := [ver] } }

def inMode (m : Mode) (s : State := base) : State := { s with mode := { s.mode with mode := m } }
def withSess (x : Session) (s : State := base) : State := { s with sess := { s.sess with sessions := [x] } }
def withRing (r : Ring) : Session := { sess with rings := [admRing, r] }

/-- A data command ready in the data ring. -/
def data (d : Bytes) : Cmd :=
  { ref := 0, sid := 1, ring := 1, count := 0, desc := d, parts := (partOf d (.data []) (.data []) (.data [])).toList }

/-- An administrative command ready in the admin ring. -/
def adm (l : List (Nat × Nat × Nat)) : Cmd := { ref := 0, sid := 1, ring := 0, count := 0, desc := mk l }

def withCmd (c : Cmd) (s : State := base) : State := { s with cmds := { list := [c], nextRef := 1 } }

def putPart : Part := { op := opPut, nsid := 3, key := key, len := 4, segs := [(0, 0, 4)] }
def putDone : Part := { putPart with value := some (.data val) }
def put : Cmd := { data (kd opPut [(56, 4, 4)]) with late := true }
def ext : Extent := { part := 0, off := 0, len := 4, home := 0, shadow := 1, slot := 1 }
def getCmd : Cmd := data (kd opGet [(56, 4, 4)])
def getPart : Part := { op := opGet, nsid := 3, key := key, len := 4, segs := [(0, 0, 4)] }
def rangePart : Part := { op := opDeleteRange, nsid := 3, key := key, endKey := [0x7A], segs := [(0, 0, 1)] }
def areas : HostAreas :=
  { key := .data [], endKey := .data [0x7A], sgl := .data [], block := .data [], low := .data [], high := .data [], subs := [] }
def obj9 : ObjSession := { handle := 9, sid := 1, nsid := 3, key := key }
def blk : Bytes := overwrite (zeros 128) 32 [18]
def comet : Comet :=
  { num := 77, kind := .scan, sid := 1, ring := 1, nsid := 3, snapshot := 0x100, block := blk, unitsTotal := 1 }
def withComet (k : Comet) (s : State := stored) : State := { s with comets := { list := [k] } }
def cometCmd (sub : Nat) : Cmd := { data (mk [(0, 1, 0x20), (1, 1, sub), (6, 2, 3), (56, 4, 128)]) with parts := [], block := blk }

/-- Secret 32 × 0x02 wrapped for session 1 of `base` (computed by an independent AES-256 Key Wrap of RFC 3394). -/
def wrapped : Bytes := toLe 40 0x0ea0d61ba331160eed9074d38b62d684680aa3bf82f8c9ce5c6185258ecbd79db7294db44613d42d
def wrappedRoot : Bytes := toLe 40 0xc887c9afaa5a64f7e0b96d3a447311d973fa2c8b8d2ad415c84166e834ce92fc8115010a82357d7b
def secret2 : Bytes := List.replicate 32 2

def pass : BeginRec := { role := 1, cred := 5, hostNonce := zeros 32, modNonce := zeros 32 }
def loginSess : Session := { sess with role := 0, cls := .pending, begun := some pass }
def proveCmd : Cmd :=
  { adm [(0, 1, 0x41)] with desc := overwrite (mk [(0, 1, 0x41)]) 8 (hmac256 custodian.secret (loginTranscript loginSess pass)) }

def paired (m : Mode) (p : PairPart := {}) (s : State := base) : State := { inMode m s with pair := { p with paired := true } }
def linkOn : PairLink := { trained := true, up := true }
def linked (s : State) : State := { s with ports := { s.ports with links := linkOn :: List.replicate 7 {} } }
def frame : PairFrame := { version := 1, epoch := 1, moduleId := 0, member := 1, role := 2, seq := 0 }
def beat : HeartbeatBody := { mode := 2, inStep := true, warming := false, winZero := false, highCsn := 5 }
def partner : PartnerInfo := { joinPending := true, version := 1, serial := zeros 16, kcvs := [(1, [])] }
def fwd : Forwarded := { csn := 9, nsid := 3, key := key, value := some val, digest := none, crcOk := true }

def image : Bytes :=
  overwrite (overwrite (overwrite (zeros 98) 0 (toLe 4 0x414E5850 ++ toLe 2 1 ++ toLe 2 1)) 16 (toLe 4 32)) 20 (toLe 4 2)
def load : ProgLoad := { ref := 0, gen := 0, len := 98, nsid := 3 }
def progs (p : ProgSlot) (s : State) : State := { s with programs := p :: s.programs.tail }

def withComps (k : Component) (s : State := base) : State := { s with fw := { s.fw with comps := List.replicate 4 k } }
def withMoon (m : Moon) (s : State := base) : State := { s with media := { s.media with moons := m :: List.replicate 7 {} } }
def withHost (h : HostPort) (s : State := base) : State :=
  { s with ports := { s.ports with hosts := h :: List.replicate 31 {} } }
def withLPort (l : LPort) (s : State := base) : State :=
  { s with ports := { s.ports with logical := l :: List.replicate 127 {} } }
def withPower (p : PowerPart) (s : State := base) : State := { s with power := p }
def withTag (t : Tag) (s : State := base) : State := { s with tag := t }
def feedA (f : Feed) (s : State := base) : State := { s with feeds := { s.feeds with a := f } }
def atIsland (i : IslandState) (s : State := base) : State := { s with thermal := { s.thermal with islands := [i] } }
def withTime (t : TimePart) (source : Nat := 0) (s : State := base) : State :=
  { s with time := t, settings := { s.settings with timeSource := source } }
def loss (l : LossStep) (s : State := base) : State := { s with feeds := { s.feeds with loss := l } }
def blockA : BlockId := { moon := 0, die := 0, block := 0 }
def goodFrame : RxFrame :=
  { fcsOk := true, length := 64, dstMine := true, vlan := none, pfc := false, ether := 0x0806, ipOk := true, udpClass := true,
    udpSumOk := true, rocev2 := false, icrcOk := true, bufFree := true }
def lbytes : Bytes := List.replicate 96 0

/-- An image of component 1 without payload, and a staging bank that holds it (19 Table 19.5). -/
def fwImage : Bytes :=
  overwrite (overwrite (overwrite (zeros 256) 0 (toLe 4 0x4D495850 ++ toLe 2 1 ++ toLe 1 1)) 24 (sha384 [])) 72
    (toLe 2 1 ++ toLe 2 1 ++ toLe 2 1 ++ toLe 2 1)
def fwBank : Component := { stage := .receiving, staged := [(0, fwImage)] }


/-- A data command behind another one in an ORDERED ring. -/
def behind (c : Cmd) (s : State := base) : State :=
  withSess (withRing { dataRing with ordered := true })
    { s with cmds := { list := [{ put with ref := 9, phase := .valueWait }, c], nextRef := 10 } }

theorem some_getD_of_isSome {α : Type} (o : Option α) (d : α) (h : o.isSome = true) : o = some (o.getD d) := by
  cases o with
  | none => exact absurd h (by simp)
  | some x => rfl

/-- A degraded read of a version of one chunk that has no page leaves the state. -/
theorem tried_noPages (s : State) (c : Cmd) (v : Version)
    (h : s.qlcChunks v (readSpan c.desc v).1 (readSpan c.desc v).2 = [0]) (hp : s.pageOf (s.stored v) 0 = none) :
    s.pagesTried c v .degraded = s := by
  simp [State.pagesTried, State.rescuePage, State.whichPage, h, hp, Nat.mod_one]

/-! ### Well-formedness: an ill-formed term for each check -/

theorem test_wf_good : ([.blockRetire blockA .wornOut, .windowOpen 1, .programLoadTurn 15 .accessError, .doorbellPoll 1 4095,
    .stripeComplete 5 [.object 1, .mapPage 7 0], .helloReceive ⟨0, 7⟩ frame [] true,
    .usbStandardRequest (zeros 8), .windowCompute [1, 2, 3, 4], .keyFetchDone 7 8191] : List Instr).all Instr.wf = true := by
  decide +kernel
theorem test_wf_program_slot : Instr.wf (.programLoadTurn 16 .accessError) = false := by decide
theorem test_wf_host_port : Instr.wf (.portConfigApply .i3c 32 0) = false := by decide
theorem test_wf_logical_port : Instr.wf (.addressApply .i3c 128 0) = false := by decide
theorem test_wf_stage_host_port : Instr.wf (.stageDiscard .i3c (.hostPort 32)) = false := by decide
theorem test_wf_stage_logical_port : Instr.wf (.stageDiscard .i3c (.logicalPort 128)) = false := by decide
theorem test_wf_link_port : Instr.wf (.counterSnap .i3c (.port 128)) = false := by decide
theorem test_wf_link_pair : Instr.wf (.linkUp (.pair 8)) = false := by decide
theorem test_wf_usb_setup : Instr.wf (.usbStandardRequest (zeros 7)) = false := by decide
theorem test_wf_rsp_setup : Instr.wf (.rspUnknownRequest (zeros 9)) = false := by decide
theorem test_wf_component : ([.rspImageBlock 0 256 [] true, .rspImageCommit 256 false false [] true,
    .rspImageDiscard 256 true, .imageBankTimeout 256, .trialBankFail 256] : List Instr).any Instr.wf = false := by decide
theorem test_wf_connection : Instr.wf (.connectionRequest ⟨4096, true, 0x4B56, 128, 1, false, 0⟩) = false := by decide
theorem test_wf_ring : ([.doorbellPoll 1 4096, .doorbellReadResponse 1 4096 0, .descriptorFetch 1 4096 [],
    .ringIdleTimeout 1 4096 0, .completionEvent 1 4096, .ringResetEnd 1 4096 ⟨.acked, []⟩] : List Instr).any Instr.wf = false := by
  decide
theorem test_wf_fetch_count : Instr.wf (.descriptorFetch 1 1 (List.replicate 17 (zeros 64))) = false := by decide
theorem test_wf_fetch_length : Instr.wf (.descriptorFetch 1 1 [zeros 63]) = false := by decide
theorem test_wf_moon : ([.mapFillDone 8, .mapCacheInvalidationDone 8, .mapWriteback 8, .stripePadTimeout 8,
    .readCounterSave 8, .keyFetchDone 8 1, .dieLost 8 0, .channelLost 8 0, .moonLost 8 0, .cipherMismatch 8 false] :
    List Instr).any Instr.wf = false := by decide
theorem test_wf_key_slot : Instr.wf (.keyFetchDone 0 8192) = false := by decide
theorem test_wf_strings : ([.windowCompute [1, 2, 3], .capacitanceStep [1, 2, 3, 4, 5], .stringLoss 4] :
    List Instr).any Instr.wf = false := by decide
theorem test_wf_unit : ([.islandWakeFail ⟨.moon 8, 0⟩ false, .islandRetry ⟨.moon 8, 0⟩ true, .dramDeviceFailed (.moon 8) ⟨0, false, []⟩] :
    List Instr).any Instr.wf = false := by decide
theorem test_wf_island : ([.throttleRaise (.channel 8 0) 0, .throttleLower (.channel 0 8) 0, .thermalTrip (.moon 8) ⟨0, []⟩,
    .tripRecovery (.moon 8), .tripRebuildTimeout (.moon 8)] : List Instr).any Instr.wf = false := by decide
theorem test_wf_sensor : ([.sensorBroken (.die 8 0), .sensorBroken (.die 0 512), .sensorBroken (.moon 8 0)] :
    List Instr).any Instr.wf = false := by decide
theorem test_wf_pin : ([.sidebandShortDetect 24, .sidebandShortClear 24] : List Instr).any Instr.wf = false := by decide
theorem test_wf_die : ([.dieLost 0 512, .channelLost 0 64] : List Instr).any Instr.wf = false := by decide
theorem test_wf_failed_port : Instr.wf (.hostPortFailed 32 none 0) = false := by decide
theorem test_wf_alarm_row : Instr.wf (.vaultAlarm 4) = false := by decide
theorem test_wf_block : ([.blockRetire { moon := 8, die := 0, block := 0 } .wornOut,
    .readDisturbRefresh { moon := 0, die := 512, block := 0 }, .readDisturbRefresh { moon := 0, die := 0, block := 20400 }] :
    List Instr).any Instr.wf = false := by decide
theorem test_wf_port_events : ([.portReturn 128, .addressResolutionRequest 128 [] ⟨0, .sent⟩, .pfcFrame 128 true, .cnpReceive 128,
    .ecnMarkedPacket ⟨128, .sent⟩, .ptpMessage 128 ⟨0, .announce⟩] : List Instr).any Instr.wf = false := by decide
theorem test_wf_far_link : Instr.wf (.helloReceive ⟨0, 8⟩ frame [] true) = false := by decide
theorem test_wf_start_facts : ([.startStepReached { damaged := [(({ moon := 8, die := 0, block := 0 }, 0), zeros 64)], coldestDie := 0 },
    .startStepReached { damaged := [((blockA, 0), zeros 63)], coldestDie := 0 }] : List Instr).any Instr.wf = false := by decide
theorem test_wf_media_work : ([.stripeComplete 0 [.mapPage 8 0], .ageRefresh (.slc { moon := 0, die := 0, block := 20400 })] :
    List Instr).any Instr.wf = false := by decide
theorem test_wf_pair_link : ([.heartbeatReceive 8 frame beat, .heartbeatTimeout 8, .helloReceive ⟨8, 0⟩ frame [] true] :
    List Instr).any Instr.wf = false := by decide

/-! ### Vectors of the manual and of the standards it names -/

/-- The tweak worked out in 14 after R522. -/
theorem test_tweak : xtsTweak 0x1A2B3C4D 5 2 false = toLe 16 0x200014000_1A2B3C4D := by decide +kernel

/-- The byte of Moon 5's page rebuilt in 08 Table 8.5. -/
theorem test_parity_byte : parityPage [[0x3C], [0xA5], [0x0F], [0xCB], [0x71], [0xE2], [0x58]] 1 = [0x96] := by decide

/-- CRC-32C of "123456789" (the check value of the Castagnoli polynomial with the parameters of 01 R32). -/
theorem test_crc32c : crc32c (ascii "123456789") = 0xE3069283#32 := by decide +kernel

/-- SHA-256 of "abc" (FIPS 180-4). -/
theorem test_sha256 : beNat (sha256 (ascii "abc")) =
    0xba7816bf8f01cfea414140de5dae2223b00361a396177a9cb410ff61f20015ad := by decide +kernel

/-- SHA-384 of "abc" (FIPS 180-4). -/
theorem test_sha384 : beNat (sha384 (ascii "abc")) =
    0xcb00753f45a35e8bb5a03d699ac65007272c32ab0eded1631a8b605a43ff5bed8086072ba1e7cc2358baeca134c825a7 := by decide +kernel

/-- AES-256 decryption of FIPS 197, appendix C.3. -/
theorem test_aes256 : beNat (aesDec ((List.range 32).map (BitVec.ofNat 8)) (toBe 16 0x8ea2b7ca516745bfeafc49904b496089)) =
    0x00112233445566778899aabbccddeeff := by decide +kernel

/-- The window of the first row of 07 Table 7.4: 14.40 mF at 100 V gives 27.75 GiB. -/
theorem test_window_beginning_of_life :
    ({ base with win := { strings := List.replicate 4 { volt := 100000, cap := 3600 } } } : State).rawWindow = 111 := by
  decide +kernel

/-- The window with one string failed, the sixth row of 07 Table 7.4: 20.25 GiB. -/
theorem test_window_string_failed :
    ({ base with win := { strings := { inService := false } :: List.replicate 3 { volt := 100000, cap := 3600 } } } :
      State).rawWindow = 81 := by decide +kernel

/-- The day of the shelf deadline in 19 after R688: 22,547 is 25 September 2031. -/
theorem test_deadline_day : civilDay 22547 = (2031, 9, 25) := by decide +kernel

/-- No row of the table gives bits, so no word spells a command. -/
theorem test_no_word (n w : Nat) : decodeTableWord n w = none := rfl

/-! ### A state and operands for each statement that has hypotheses

The theorem `witness_<Obligation>` shows, clause by clause, that the hypotheses of the obligation are met together. The
three after `commit_passes` stand apart: they take two values that the model leaves open. -/

set_option maxRecDepth 100000 in
/-- The key that wraps secrets of session 1 of `base` unwraps `wrapped`. -/
theorem wrap_ok (k : Bytes) (h : k = hmac256 custodian.secret (ascii "PX-WRAP")) :
    keyUnwrap k (fit 40 wrapped) = some secret2 := by subst h; decide +kernel

set_option maxRecDepth 100000 in
/-- The key that wraps roots of session 1 of `base` unwraps `wrappedRoot`. -/
theorem root_ok (k : Bytes) (h : k = hmac256 custodian.secret (ascii "PX-SLOT")) :
    keyUnwrap k (fit 40 wrappedRoot) = some secret2 := by subst h; decide +kernel

/-- An image is verified only if the vault knows its key and its signature is good, which is left to the module: the
commit passes where both hold. -/
theorem commit_passes (s : State) (h : s.fw = (withComps fwBank).fw) (hk : Config.keyKnown 0 = true)
    (hs : Config.imageSignatureOk 0 (slice fwImage 0 160) (slice fwImage 160 96) = true) :
    s.commitFailure 1 (sha384 fwImage) = none := by
  have e : s.commitFailure 1 (sha384 fwImage) = (withComps fwBank).commitFailure 1 (sha384 fwImage) := by
    cases s; cases h; rfl
  have q : (withComps fwBank).comp 1 = fwBank := rfl
  have i : fwBank.image = fwImage := by decide +kernel
  have k : u32At fwImage 20 = 0 := by decide +kernel
  have a : (sha384 (fwImage.take (256 + u32At fwImage 16)) != fit 48 (sha384 fwImage)) = false := by decide +kernel
  have b : (slice fwImage 24 48 != sha384 ((fwImage.take (256 + u32At fwImage 16)).drop 256)) = false := by decide +kernel
  have c : (withComps fwBank).fw.canStart 1 (imageFacts (fwImage.take (256 + u32At fwImage 16))) = true := by
    decide +kernel
  have f : (!(fwBank.holds 256 && decide (256 + u32At fwImage 16 ≤ maxImage 1) &&
      fwBank.holds (256 + u32At fwImage 16) && u32At fwImage 0 == 0x4D495850 &&
      u16At fwImage 4 == 1 && byteAt fwImage 6 == 1)) = false := by decide +kernel
  have g : ¬ u32At fwImage 12 < fwBank.counter := by decide +kernel
  rw [e]
  simp only [State.commitFailure, q, i, f, a, b, c, k, hk, hs]
  simp [g]

def commitCmd (more : List (Nat × Nat × Nat)) : Cmd :=
  { adm [] with desc := overwrite (mk ([(0, 1, 0x53), (8, 1, 1)] ++ more)) 16 (sha384 fwImage) }

theorem commitCmd_digest : slice (commitCmd []).desc 16 48 = sha384 fwImage := by decide +kernel

theorem commitCmd_digest_switch : slice (commitCmd [(9, 1, 1)]).desc 16 48 = sha384 fwImage := by decide +kernel

theorem witness_ImagesAreStagedAndApplied_1 (hk : Config.keyKnown 0 = true)
    (hs : Config.imageSignatureOk 0 (slice fwImage 0 160) (slice fwImage 160 96) = true) :
    ∃ (ref : Nat) (c : Cmd) (s : State), (s.fw.comps.length = 4) ∧
    (let n := bitsOf (byteAt c.desc 8) 0 2;
       (n = 1 ∨ n = 2) ∧ (s.ownsBank n (s.sender c) = true) ∧ (s.commitFailure n (slice c.desc 16 48) = none) ∧
        (s.Ready ref c (fun d => isCommit false false d || isCommit false true d)) ∧
        (bitOf (byteAt c.desc 9) 1 = false)) :=
  ⟨0, commitCmd [], withCmd (commitCmd []) (withComps fwBank), by decide +kernel, by decide +kernel, by decide +kernel,
    commitCmd_digest ▸ commit_passes _ rfl hk hs, by decide +kernel, by decide +kernel⟩

theorem witness_ImagesAreStagedAndApplied_2 (hk : Config.keyKnown 0 = true)
    (hs : Config.imageSignatureOk 0 (slice fwImage 0 160) (slice fwImage 160 96) = true) :
    ∃ (ref : Nat) (c : Cmd) (s : State), (s.fw.comps.length = 4) ∧
    (let n := bitsOf (byteAt c.desc 8) 0 2;
       (n = 1 ∨ n = 2) ∧ (s.ownsBank n (s.sender c) = true) ∧ (s.commitFailure n (slice c.desc 16 48) = none) ∧
        (s.Ready ref c (isCommit true false)) ∧ (s.mode.mode = .service)) :=
  ⟨0, commitCmd [(9, 1, 1)], withCmd (commitCmd [(9, 1, 1)]) (withComps fwBank (inMode .service)), by decide +kernel,
    by decide +kernel, by decide +kernel, commitCmd_digest_switch ▸ commit_passes _ rfl hk hs, by decide +kernel,
    by decide +kernel⟩

theorem witness_ServicePortRequests_9 (hk : Config.keyKnown 0 = true)
    (hs : Config.imageSignatureOk 0 (slice fwImage 0 160) (slice fwImage 160 96) = true) :
    ∃ (comp : Nat) (digest : Bytes) (s : State), (s.pathOpen .usb = true) ∧ (s.fw.comps.length = 4) ∧ (comp < 4) ∧
    (s.ownsBank comp .service = true) ∧ (digest.length = 48) ∧ (s.commitFailure comp digest = none) :=
  ⟨1, sha384 fwImage, withComps fwBank, by decide +kernel, by decide +kernel, by decide +kernel, by decide +kernel,
    by decide +kernel, commit_passes _ rfl hk hs⟩

theorem witness_StepRunsTheFront :
    (∃ (i : Instr) (rest : List Instr) (s : State),
      (s.pending = i :: rest)) ∧
    (∃ (s : State),
      (s.pending = []) ∧ (s.time.up = true) ∧ ((s.time.now + 1) % 1000000 ≠ 0)) ∧
    (∃ (s : State),
      (s.pending = []) ∧ (s.time.up = true) ∧ ((s.time.now + 1) % 1000000 = 0)) ∧
    (∃ (s : State),
      (s.pending = []) ∧ (s.time.up = false)) :=
  ⟨⟨.tagResetToReady, [], { base with pending := [.tagResetToReady] }, by decide +kernel⟩,
   ⟨base, by decide +kernel⟩,
   ⟨{ base with time := { base.time with now := 999999 } }, by decide +kernel⟩,
   ⟨{ base with time := { up := false } }, by decide +kernel⟩⟩

theorem witness_EveryRowKeepsQueueAndIdentity :
    ∃ (i : Instr) (s : State) (t : State),
      (exec i s = .next t) :=
  ⟨.tagResetToReady, base, _, rfl⟩

theorem witness_TagMemoryStaysCanonical :
    ∃ (s : State) (t : State),
      (s.TagWf) ∧ (step s = .next t) :=
  ⟨base, _, by decide +kernel, rfl⟩

theorem witness_ModuleTimeNeverStepsBack :
    ∃ (s : State) (t : State),
      (step s = .next t) :=
  ⟨base, _, rfl⟩

theorem witness_WindowStaysWithin32GiB :
    ∃ (s : State) (t : State),
      (s.win.window ≤ 34359738368) ∧ (step s = .next t) :=
  ⟨base, _, by decide +kernel, rfl⟩

theorem witness_AntiRollbackCountersOnlyRise :
    (∃ (i : Instr) (s : State) (t : State),
      (exec i s = .next t)) ∧
    (∃ (i : Instr) (s : State) (t : State),
      (exec i s = .next t) ∧ (confirmsMigration i = false)) ∧
    (∃ (ref : Nat) (n : Nat) (c : Cmd) (s : State),
      (n < s.fw.comps.length) ∧ (s.Ready ref c (fun d => dOpcode d == 0x54))) ∧
    (∃ (n : Nat) (digest : Bytes) (s : State),
      (n < s.fw.comps.length) ∧ (u32At (s.comp n).image 12 < (s.comp n).counter) ∧ (s.ownsBank n .service = true) ∧
      (s.pathOpen .usb = true) ∧ (n < 4) ∧ (digest.length = 48)) ∧
    (∃ (ref : Nat) (n : Nat) (c : Cmd) (s : State),
      (n < s.fw.comps.length) ∧ (u32At (s.comp n).image 12 < (s.comp n).counter) ∧
      (s.ownsBank n (s.sender c) = true) ∧ (n = 1 ∨ n = 2) ∧ (bitsOf (byteAt c.desc 8) 0 2 = n) ∧
      (s.Ready ref c (isCommit false false))) :=
  ⟨⟨.tagResetToReady, base, _, rfl⟩,
   ⟨.tagResetToReady, base, _, rfl, rfl⟩,
   ⟨0, 0, adm [(0, 1, 0x54)], withCmd (adm [(0, 1, 0x54)]), by decide +kernel⟩,
   ⟨0, zeros 48, withComps { counter := 5 }, by decide +kernel⟩,
   ⟨0, 1, adm [(0, 1, 0x53), (8, 1, 1)], withCmd (adm [(0, 1, 0x53), (8, 1, 1)]) (withComps { counter := 5 }),
    by decide +kernel⟩⟩

theorem witness_KeptPartsChangeOnlyByTheirRows :
    ∃ (i : Instr) (s t : State), exec i s = .next t ∧ changesSettings i = false ∧ changesCredentials i = false ∧
      changesKeySlots i = false ∧ changesTables i = false ∧ changesVersions i = false :=
  ⟨.tagResetToReady, base, _, rfl, by decide⟩

theorem witness_FinishWritesTheEntry :
    (∃ (ref : Nat) (c : Cmd) (x : Session) (r : Ring) (s : State),
      (s.cmd? ref = some c) ∧ (s.session? c.sid = some x) ∧ (x.ring? c.ring = some r) ∧
      (s.ringCmds c.sid c.ring = [c]) ∧ (s.mirroring = false) ∧ (x.cls ≠ .orphan) ∧ (c.isCommitted = false) ∧
      (c.phase ≠ .finished)) ∧
    (∃ (ref : Nat) (c : Cmd) (x : Session) (r : Ring) (s : State),
      (s.cmd? ref = some c) ∧ (s.session? c.sid = some x) ∧ (x.ring? c.ring = some r) ∧
      (s.ringCmds c.sid c.ring = [c]) ∧ (s.mirroring = false) ∧ (x.cls = .orphan) ∧ (s.forwards = false)) ∧
    (∃ (ref : Nat) (c : Cmd) (x : Session) (r : Ring) (s : State),
      (s.cmd? ref = some c) ∧ (s.session? c.sid = some x) ∧ (x.ring? c.ring = some r) ∧
      (s.ringCmds c.sid c.ring = [c]) ∧ (s.mirroring = true)) :=
  ⟨⟨0, data (kd opPut), sess, dataRing, withCmd (data (kd opPut)), by decide +kernel⟩,
   ⟨0, data (kd opPut), { sess with cls := .orphan }, dataRing, withCmd (data (kd opPut)) (withSess
    { sess with cls := .orphan }), by decide +kernel⟩,
   ⟨0, data (kd opPut), sess, dataRing, withCmd (data (kd opPut)) (paired .primary { inStep := true }),
    by decide +kernel⟩⟩

theorem witness_LogMergesAndReplaces :
    (∃ (code : Nat) (unit : Nat) (index : Nat) (s : State),
      let like := fun (e : LogEntry) => e.code = code ∧ e.unit = unit ∧ e.index = index ∧ e.severity ≠ 3 ∧
          s.time.now < e.time + 1000000000
      ((∃ e ∈ s.attn.log, like e))) ∧
    (∃ (code : Nat) (unit : Nat) (index : Nat) (s : State),
      let like := fun (e : LogEntry) => e.code = code ∧ e.unit = unit ∧ e.index = index ∧ e.severity ≠ 3 ∧
          s.time.now < e.time + 1000000000
      ((∀ e ∈ s.attn.log, ¬ like e)) ∧ (s.attn.log.length < 65536)) ∧
    (∃ (code : Nat) (unit : Nat) (index : Nat) (s : State),
      let like := fun (e : LogEntry) => e.code = code ∧ e.unit = unit ∧ e.index = index ∧ e.severity ≠ 3 ∧
          s.time.now < e.time + 1000000000
      ((∀ e ∈ s.attn.log, ¬ like e)) ∧ (s.attn.log.length = 65536)) ∧
    (∃ (s : State),
      (s.attn.log.length ≤ 65536) ∧ ((s.attn.log.map (·.seq)).Pairwise (· < ·)) ∧
      ((∀ e ∈ s.attn.log, e.seq < s.attn.nextSeq))) :=
  ⟨⟨0x0601, 0xFF, 0,
    { base with attn := { log := [{ seq := 1, time := 0, code := 0x0601, severity := 1, unit := 0xFF }], nextSeq := 2 } },
    by decide +kernel⟩,
   ⟨0, 0, 0, base, by decide +kernel⟩,
   ⟨0, 0, 0,
    { base with attn := { log := List.replicate 65536 { seq := 1, time := 0, code := 1, severity := 1, unit := 0 } } },
    by refine ⟨fun e he => ?_, List.length_replicate⟩; rw [List.eq_of_mem_replicate he]; decide⟩,
   ⟨base, by decide +kernel⟩⟩

theorem witness_ChecksDecideFirst :
    (∃ (ref : Nat) (c : Cmd) (k : Comp) (s : State),
      (s.cmd? ref = some c) ∧ (c.phase = .ready) ∧ (s.checkRefusal c = some k) ∧ (isOp opGet c.desc = true)) ∧
    (∃ (ref : Nat) (c : Cmd) (k : Comp) (s : State),
      (s.cmd? ref = some c) ∧ (c.phase = .ready) ∧ (s.checkRefusal c = some k) ∧ (isOp opPut c.desc = true)) ∧
    (∃ (ref : Nat) (c : Cmd) (k : Comp) (s : State),
      (s.cmd? ref = some c) ∧ (c.phase = .ready) ∧ (s.checkRefusal c = some k) ∧ (isOp opDelete c.desc = true)) ∧
    (∃ (ref : Nat) (c : Cmd) (k : Comp) (s : State),
      (s.cmd? ref = some c) ∧ (c.phase = .ready) ∧ (s.checkRefusal c = some k) ∧ (isOp opCas c.desc = true)) ∧
    (∃ (ref : Nat) (c : Cmd) (k : Comp) (s : State),
      (s.cmd? ref = some c) ∧ (c.phase = .ready) ∧ (s.checkRefusal c = some k) ∧ (isOp opHead c.desc = true)) ∧
    (∃ (ref : Nat) (c : Cmd) (k : Comp) (s : State),
      (s.cmd? ref = some c) ∧ (c.phase = .ready) ∧ (s.checkRefusal c = some k) ∧ (isOp opBatch c.desc = true)) ∧
    (∃ (ref : Nat) (c : Cmd) (k : Comp) (s : State),
      (s.cmd? ref = some c) ∧ (c.phase = .ready) ∧ (s.checkRefusal c = some k) ∧ (isOp opDeleteRange c.desc = true)) ∧
    (∃ (ref : Nat) (c : Cmd) (k : Comp) (s : State),
      (s.cmd? ref = some c) ∧ (c.phase = .ready) ∧ (s.checkRefusal c = some k) ∧ (dOpcode c.desc = 0x57)) :=
  ⟨⟨0, data (kd opGet), Comp.plain .busyRetry, withCmd (data (kd opGet)) (inMode .service), by decide +kernel⟩,
   ⟨0, data (kd opPut), Comp.plain .busyRetry, withCmd (data (kd opPut)) (inMode .service), by decide +kernel⟩,
   ⟨0, data (kd opDelete), Comp.plain .busyRetry, withCmd (data (kd opDelete)) (inMode .service), by decide +kernel⟩,
   ⟨0, data (kd opCas), Comp.plain .busyRetry, withCmd (data (kd opCas)) (inMode .service), by decide +kernel⟩,
   ⟨0, data (kd opHead), Comp.plain .busyRetry, withCmd (data (kd opHead)) (inMode .service), by decide +kernel⟩,
   ⟨0, data (kd opBatch), { status := .busyRetry, aux := 0xFFFFFFFF }, withCmd (data (kd opBatch)) (inMode .service),
    by decide +kernel⟩,
   ⟨0, data (kd opDeleteRange), Comp.plain .busyRetry, withCmd (data (kd opDeleteRange)) (inMode .service),
    by decide +kernel⟩,
   ⟨0, adm [(0, 1, 0x57)], Comp.denied 6, withCmd (adm [(0, 1, 0x57)]) (inMode .mirror), by decide +kernel⟩⟩

theorem witness_MutationsStartAndDecide :
    (∃ (ref : Nat) (c : Cmd) (s : State),
      (s.Ready ref c (isOp opPut))) ∧
    (∃ (ref : Nat) (c : Cmd) (s : State),
      (s.Ready ref c (isOp opDelete))) ∧
    (∃ (ref : Nat) (c : Cmd) (s : State),
      (s.Ready ref c (isOp opCas))) ∧
    (∃ (ref : Nat) (c : Cmd) (s : State),
      (s.Ready ref c (isOp opBatch))) ∧
    (∃ (ref : Nat) (c : Cmd) (s : State),
      (s.Ready ref c (isOp opDeleteRange))) ∧
    (∃ (ref : Nat) (c : Cmd) (p : Part) (s : State),
      (s.cmd? ref = some c) ∧ (c.parts = [p]) ∧ (s.mayAsk c = true) ∧ (s.locks.overflow = []) ∧
      (s.objectEnded c = false) ∧ (s.roomFor (s.lockRow c 0 p) = true) ∧
      (clearOf s.locks.rows (s.lockRow c 0 p) = true) ∧ (s.decideFailure c = none)) :=
  ⟨⟨0, data (kd opPut [(56, 4, 4)]), withCmd (data (kd opPut [(56, 4, 4)])), by decide +kernel⟩,
   ⟨0, data (kd opDelete), withCmd (data (kd opDelete)), by decide +kernel⟩,
   ⟨0, data (kd opCas [(56, 4, 4)]), withCmd (data (kd opCas [(56, 4, 4)])), by decide +kernel⟩,
   ⟨0, { data (kd opBatch) with parts := [putPart], late := true }, withCmd
    ({ data (kd opBatch) with parts := [putPart], late := true }), by decide +kernel⟩,
   ⟨0, { data (kd opDeleteRange [(56, 4, 1)]) with parts := [rangePart] }, withCmd
    ({ data (kd opDeleteRange [(56, 4, 1)]) with parts := [rangePart] }), by decide +kernel⟩,
   ⟨0, data (kd opPut [(56, 4, 4)]), putPart, withCmd (data (kd opPut [(56, 4, 4)])), by decide +kernel⟩⟩

theorem witness_ReadsRunToTheirEnd :
    (∃ (ref : Nat) (c : Cmd) (p : Part) (n : Namespace) (s : State),
      (c.parts = [p]) ∧ (p.nsid = dNsid c.desc) ∧ (c.version = none) ∧ (s.namespace? p.nsid = some n) ∧
      ((n.compat = true → dValueLen c.desc ≤ 67108864)) ∧ (s.Ready ref c (isOp opGet)) ∧ (s.mayCommit c = false)) ∧
    (∃ (ref : Nat) (c : Cmd) (p : Part) (n : Namespace) (s : State),
      (c.parts = [p]) ∧ (p.nsid = dNsid c.desc) ∧ (c.version = none) ∧ (s.namespace? p.nsid = some n) ∧
      ((n.compat = true → dValueLen c.desc ≤ 67108864)) ∧ (s.Ready ref c (isOp opGet)) ∧ (s.mayCommit c = true) ∧
      (s.pinMissing c.desc = true)) ∧
    (∃ (ref : Nat) (c : Cmd) (p : Part) (n : Namespace) (s : State),
      (c.parts = [p]) ∧ (p.nsid = dNsid c.desc) ∧ (c.version = none) ∧ (s.namespace? p.nsid = some n) ∧
      ((n.compat = true → dValueLen c.desc ≤ 67108864)) ∧ (s.Ready ref c (isOp opGet)) ∧ (s.mayCommit c = true) ∧
      (s.pinMissing c.desc = false) ∧ (s.blockersOf p.nsid p.key ≠ [])) ∧
    (∃ (ref : Nat) (c : Cmd) (p : Part) (n : Namespace) (s : State),
      (c.parts = [p]) ∧ (p.nsid = dNsid c.desc) ∧ (c.version = none) ∧ (s.namespace? p.nsid = some n) ∧
      ((n.compat = true → dValueLen c.desc ≤ 67108864)) ∧ (s.Ready ref c (isOp opGet)) ∧ (s.mayCommit c = true) ∧
      (s.pinMissing c.desc = false) ∧ (s.blockersOf p.nsid p.key = []) ∧ (s.slotLoaded n.slot = false)) ∧
    (∃ (ref : Nat) (c : Cmd) (p : Part) (n : Namespace) (s : State),
      (c.parts = [p]) ∧ (p.nsid = dNsid c.desc) ∧ (c.version = none) ∧ (s.namespace? p.nsid = some n) ∧
      ((n.compat = true → dValueLen c.desc ≤ 67108864)) ∧ (s.Ready ref c (isOp opGet)) ∧
      (let seen := (s.seenVersion c.desc p.nsid p.key).filter (·.value.isSome)
       (s.mayCommit c = true) ∧ (s.pinMissing c.desc = false) ∧ (s.blockersOf p.nsid p.key = []) ∧
       (s.slotLoaded n.slot = true) ∧ (seen = none))) ∧
    (∃ (ref : Nat) (c : Cmd) (p : Part) (n : Namespace) (s : State) (v : Version) (b : Bytes),
      (c.parts = [p]) ∧ (p.nsid = dNsid c.desc) ∧ (c.version = none) ∧ (s.namespace? p.nsid = some n) ∧
      ((n.compat = true → dValueLen c.desc ≤ 67108864)) ∧ (s.Ready ref c (isOp opGet)) ∧
      (let seen := (s.seenVersion c.desc p.nsid p.key).filter (·.value.isSome)
       (s.mayCommit c = true) ∧ (s.pinMissing c.desc = false) ∧ (s.blockersOf p.nsid p.key = []) ∧
       (s.slotLoaded n.slot = true) ∧ (seen = some v) ∧ (v.value = some b) ∧ (getRange c.desc b = []))) ∧
    (∃ (ref : Nat) (c : Cmd) (p : Part) (n : Namespace) (s : State) (v : Version) (b : Bytes),
      (c.parts = [p]) ∧ (p.nsid = dNsid c.desc) ∧ (c.version = none) ∧ (s.namespace? p.nsid = some n) ∧
      ((n.compat = true → dValueLen c.desc ≤ 67108864)) ∧ (s.Ready ref c (isOp opGet)) ∧
      (let seen := (s.seenVersion c.desc p.nsid p.key).filter (·.value.isSome)
       (s.mayCommit c = true) ∧ (s.pinMissing c.desc = false) ∧ (s.blockersOf p.nsid p.key = []) ∧
       (s.slotLoaded n.slot = true) ∧ (seen = some v) ∧ (v.value = some b) ∧ (getRange c.desc b ≠ []) ∧
       (lostTo c.desc v = true))) ∧
    (∃ (ref : Nat) (c : Cmd) (p : Part) (n : Namespace) (s : State) (v : Version) (b : Bytes),
      (c.parts = [p]) ∧ (p.nsid = dNsid c.desc) ∧ (c.version = none) ∧ (s.namespace? p.nsid = some n) ∧
      ((n.compat = true → dValueLen c.desc ≤ 67108864)) ∧ (s.Ready ref c (isOp opGet)) ∧
      (let seen := (s.seenVersion c.desc p.nsid p.key).filter (·.value.isSome)
       (s.mayCommit c = true) ∧ (s.pinMissing c.desc = false) ∧ (s.blockersOf p.nsid p.key = []) ∧
       (s.slotLoaded n.slot = true) ∧ (seen = some v) ∧ (v.value = some b) ∧ (getRange c.desc b ≠ []) ∧
       (lostTo c.desc v = false))) ∧
    (∃ (ref : Nat) (c : Cmd) (p : Part) (s : State),
      (s.Ready ref c (isOp opHead)) ∧ (c.parts = [p]) ∧ (c.version = none) ∧ (s.mayCommit c = false)) ∧
    (∃ (ref : Nat) (c : Cmd) (p : Part) (s : State),
      (s.Ready ref c (isOp opHead)) ∧ (c.parts = [p]) ∧ (c.version = none) ∧ (s.mayCommit c = true) ∧
      (s.pinMissing c.desc = true)) ∧
    (∃ (ref : Nat) (c : Cmd) (p : Part) (s : State) (v : Version),
      (s.Ready ref c (isOp opHead)) ∧ (c.parts = [p]) ∧ (c.version = some v) ∧ (dValueLen c.desc < 64)) ∧
    (∃ (ref : Nat) (c : Cmd) (p : Part) (s : State) (v : Version),
      (s.Ready ref c (isOp opHead)) ∧ (c.parts = [p]) ∧ (c.version = some v) ∧ (64 ≤ dValueLen c.desc) ∧
      (s.polls c.sid = true)) ∧
    (∃ (ref : Nat) (c : Cmd) (p : Part) (s : State) (v : Version),
      (s.Ready ref c (isOp opHead)) ∧ (c.parts = [p]) ∧ (c.version = some v) ∧ (64 ≤ dValueLen c.desc) ∧
      (s.polls c.sid = false)) ∧
    (∃ (ref : Nat) (c : Cmd) (p : Part) (n : Namespace) (s : State),
      (s.Ready ref c (isOp opHead)) ∧ (c.parts = [p]) ∧ (c.version = none) ∧ (p.nsid = dNsid c.desc) ∧
      (s.mayCommit c = true) ∧ (s.pinMissing c.desc = false) ∧ (s.namespace? p.nsid = some n) ∧
      (s.blockersOf p.nsid p.key ≠ [])) ∧
    (∃ (ref : Nat) (c : Cmd) (p : Part) (n : Namespace) (s : State),
      (s.Ready ref c (isOp opHead)) ∧ (c.parts = [p]) ∧ (c.version = none) ∧ (p.nsid = dNsid c.desc) ∧
      (s.mayCommit c = true) ∧ (s.pinMissing c.desc = false) ∧ (s.namespace? p.nsid = some n) ∧
      (s.blockersOf p.nsid p.key = []) ∧ (s.slotLoaded n.slot = false)) ∧
    (∃ (ref : Nat) (c : Cmd) (p : Part) (n : Namespace) (s : State),
      (s.Ready ref c (isOp opHead)) ∧ (c.parts = [p]) ∧ (c.version = none) ∧ (p.nsid = dNsid c.desc) ∧
      (s.mayCommit c = true) ∧ (s.pinMissing c.desc = false) ∧ (s.namespace? p.nsid = some n) ∧
      (let seen := (s.seenVersion c.desc p.nsid p.key).filter (·.value.isSome)
       (s.blockersOf p.nsid p.key = []) ∧ (s.slotLoaded n.slot = true) ∧ (seen = none))) ∧
    (∃ (ref : Nat) (c : Cmd) (p : Part) (n : Namespace) (s : State) (v : Version),
      (s.Ready ref c (isOp opHead)) ∧ (c.parts = [p]) ∧ (c.version = none) ∧ (p.nsid = dNsid c.desc) ∧
      (s.mayCommit c = true) ∧ (s.pinMissing c.desc = false) ∧ (s.namespace? p.nsid = some n) ∧
      (let seen := (s.seenVersion c.desc p.nsid p.key).filter (·.value.isSome)
       (s.blockersOf p.nsid p.key = []) ∧ (s.slotLoaded n.slot = true) ∧ (seen = some v) ∧ (v.metaLost = true))) ∧
    (∃ (ref : Nat) (c : Cmd) (p : Part) (n : Namespace) (s : State) (v : Version) (m : Moon),
      (s.Ready ref c (isOp opHead)) ∧ (c.parts = [p]) ∧ (c.version = none) ∧ (p.nsid = dNsid c.desc) ∧
      (s.mayCommit c = true) ∧ (s.pinMissing c.desc = false) ∧ (s.namespace? p.nsid = some n) ∧
      (let seen := (s.seenVersion c.desc p.nsid p.key).filter (·.value.isSome)
       (s.blockersOf p.nsid p.key = []) ∧ (s.slotLoaded n.slot = true) ∧ (seen = some v) ∧ (v.metaLost = false) ∧
       (v.place ≠ .staged) ∧ (s.media.moons[s.lookupMoon v.home]? = some m) ∧ (m.mapHit v.objId = none))) ∧
    (∃ (ref : Nat) (c : Cmd) (p : Part) (n : Namespace) (s : State) (v : Version),
      (s.Ready ref c (isOp opHead)) ∧ (c.parts = [p]) ∧ (c.version = none) ∧ (p.nsid = dNsid c.desc) ∧
      (s.mayCommit c = true) ∧ (s.pinMissing c.desc = false) ∧ (s.namespace? p.nsid = some n) ∧
      (let seen := (s.seenVersion c.desc p.nsid p.key).filter (·.value.isSome)
       (s.blockersOf p.nsid p.key = []) ∧ (s.slotLoaded n.slot = true) ∧ (seen = some v) ∧ (v.metaLost = false) ∧
       (v.place = .staged) ∧ (dValueLen c.desc < 64))) ∧
    (∃ (ref : Nat) (c : Cmd) (p : Part) (n : Namespace) (s : State) (v : Version),
      (s.Ready ref c (isOp opHead)) ∧ (c.parts = [p]) ∧ (c.version = none) ∧ (p.nsid = dNsid c.desc) ∧
      (s.mayCommit c = true) ∧ (s.pinMissing c.desc = false) ∧ (s.namespace? p.nsid = some n) ∧
      (let seen := (s.seenVersion c.desc p.nsid p.key).filter (·.value.isSome)
       (s.blockersOf p.nsid p.key = []) ∧ (s.slotLoaded n.slot = true) ∧ (seen = some v) ∧ (v.metaLost = false) ∧
       (v.place = .staged) ∧ (64 ≤ dValueLen c.desc) ∧ (s.polls c.sid = true))) ∧
    (∃ (moon : Nat) (obj : Nat) (locs : List Nat) (m : Moon) (s : State),
      (s.media.moons[moon]? = some m) ∧ (m.mapFill = some (obj, locs)) ∧ (m.mapLate = []) ∧ (m.mapInval = false) ∧
      ((∀ c ∈ s.cmds.list, c.phase ≠ .mapWait))) ∧
    (∃ (moon : Nat) (slot : Nat) (s : State),
      (moon < 8) ∧ (s.vault.up = true) ∧ (s.slotLoaded slot = true)) ∧
    (∃ (ref : Nat) (c : Cmd) (v : Version) (s : State),
      (s.cmd? ref = some c) ∧ (c.version = some v) ∧ (s.polls c.sid = true) ∧ (c.phase = .pageRead) ∧
      (v.suite ≠ 2) ∧ (s.outcomeOf c v .direct = .direct)) ∧
    (∃ (ref : Nat) (c : Cmd) (v : Version) (s : State),
      (s.cmd? ref = some c) ∧ (c.version = some v) ∧ (s.polls c.sid = true) ∧
      (let u := s.pagesTried c v .degraded
       (c.phase = .pageRead) ∧ (v.suite ≠ 2) ∧ (u.outcomeOf c v .degraded = .degraded) ∧
       (u.qlcChunks v (readSpan c.desc v).1 (readSpan c.desc v).2 ≠ []))) ∧
    (∃ (ref : Nat) (c : Cmd) (v : Version) (s : State),
      (s.cmd? ref = some c) ∧ (c.version = some v) ∧ (s.polls c.sid = true) ∧ (c.phase = .pageRead) ∧
      (v.suite = 2) ∧ (s.outcomeOf c v .direct = .direct) ∧ (c.compat = false)) ∧
    (∃ (ref : Nat) (c : Cmd) (v : Version) (s : State),
      (s.cmd? ref = some c) ∧ (c.version = some v) ∧ (s.polls c.sid = true) ∧ (c.phase = .pageRead) ∧
      (v.suite = 2) ∧ (s.outcomeOf c v .direct = .direct) ∧ (c.compat = true)) ∧
    (∃ (ref : Nat) (c : Cmd) (v : Version) (s : State),
      (s.cmd? ref = some c) ∧ (c.version = some v) ∧ (s.polls c.sid = true) ∧ (c.phase = .sealWait) ∧
      ((s.stored v).badSeal = false) ∧ (c.compat = false)) ∧
    (∃ (ref : Nat) (c : Cmd) (v : Version) (s : State),
      (s.cmd? ref = some c) ∧ (c.version = some v) ∧ (s.polls c.sid = true) ∧ (c.phase = .sealWait) ∧
      ((s.stored v).badSeal = false) ∧ (c.compat = true)) ∧
    (∃ (ref : Nat) (c : Cmd) (v : Version) (s : State) (pass : Bool),
      (s.cmd? ref = some c) ∧ (c.version = some v) ∧ (s.polls c.sid = true) ∧ (c.phase = .sealWait) ∧
      (pass = false ∨ (s.stored v).badSeal = true)) :=
  ⟨⟨0, data (kd opGet [(56, 4, 4)]), (data (kd opGet [(56, 4, 4)])).parts.headD getPart, nsA, behind (data (kd opGet
    [(56, 4, 4)])) stored, by decide +kernel⟩,
   ⟨0, data (kd opGet [(4, 2, 4), (16, 8, 0x100), (56, 4, 4)]), (data (kd opGet [(4, 2, 4), (16, 8, 0x100), (56, 4,
    4)])).parts.headD getPart, nsA, withCmd (data (kd opGet [(4, 2, 4), (16, 8, 0x100), (56, 4, 4)])) (stored),
    by decide +kernel⟩,
   ⟨0, data (kd opGet [(56, 4, 4)]), (data (kd opGet [(56, 4, 4)])).parts.headD getPart, nsA, withCmd (data (kd opGet
    [(56, 4, 4)]))
    ({ stored with locks := { rows := [{ stored.lockRow put 0 putPart with granted := true, ref := 9 }] } }),
    by decide +kernel⟩,
   ⟨0, data (kd opGet [(56, 4, 4)]), (data (kd opGet [(56, 4, 4)])).parts.headD getPart, nsA, withCmd (data (kd opGet
    [(56, 4, 4)])) ({ stored with vault := {} }), by decide +kernel⟩,
   ⟨0, data (kd opGet [(56, 4, 4)]), (data (kd opGet [(56, 4, 4)])).parts.headD getPart, nsA, withCmd (data (kd opGet
    [(56, 4, 4)])) (base), by decide +kernel⟩,
   ⟨0, data (kd opGet []), (data (kd opGet [])).parts.headD getPart, nsA, withCmd (data (kd opGet [])) (stored), ver,
    val, by decide +kernel⟩,
   ⟨0, data (kd opGet [(56, 4, 4)]), (data (kd opGet [(56, 4, 4)])).parts.headD getPart, nsA, withCmd (data (kd opGet
    [(56, 4, 4)])) ({ stored with kv := { versions := [{ ver with lost := true }] } }), { ver with lost := true },
    val, by decide +kernel⟩,
   ⟨0, data (kd opGet [(56, 4, 4)]), (data (kd opGet [(56, 4, 4)])).parts.headD getPart, nsA, withCmd (data (kd opGet
    [(56, 4, 4)])) (stored), ver, val, by decide +kernel⟩,
   ⟨0, data (kd opHead [(56, 4, 64)]), (data (kd opHead [(56, 4, 64)])).parts.headD getPart, behind (data (kd opHead
    [(56, 4, 64)])) stored, by decide +kernel⟩,
   ⟨0, data (kd opHead [(4, 2, 4), (16, 8, 0x100), (56, 4, 64)]), (data (kd opHead [(4, 2, 4), (16, 8, 0x100), (56, 4,
    64)])).parts.headD getPart, withCmd (data (kd opHead [(4, 2, 4), (16, 8, 0x100), (56, 4, 64)])) (stored),
    by decide +kernel⟩,
   ⟨0, { data (kd opHead [(56, 4, 32)]) with version := some ver },
    ({ data (kd opHead [(56, 4, 32)]) with version := some ver }).parts.headD getPart, withCmd
    ({ data (kd opHead [(56, 4, 32)]) with version := some ver }) (stored), ver, by decide +kernel⟩,
   ⟨0, { data (kd opHead [(56, 4, 64)]) with version := some ver },
    ({ data (kd opHead [(56, 4, 64)]) with version := some ver }).parts.headD getPart, withCmd
    ({ data (kd opHead [(56, 4, 64)]) with version := some ver }) (stored), ver, by decide +kernel⟩,
   ⟨0, { data (kd opHead [(56, 4, 64)]) with version := some ver },
    ({ data (kd opHead [(56, 4, 64)]) with version := some ver }).parts.headD getPart, withCmd
    ({ data (kd opHead [(56, 4, 64)]) with version := some ver }) (withSess { sess with cls := .orphan } stored),
    ver, by decide +kernel⟩,
   ⟨0, data (kd opHead [(56, 4, 64)]), (data (kd opHead [(56, 4, 64)])).parts.headD getPart, nsA, withCmd (data (kd
    opHead [(56, 4, 64)]))
    ({ stored with locks := { rows := [{ stored.lockRow put 0 putPart with granted := true, ref := 9 }] } }),
    by decide +kernel⟩,
   ⟨0, data (kd opHead [(56, 4, 64)]), (data (kd opHead [(56, 4, 64)])).parts.headD getPart, nsA, withCmd (data (kd
    opHead [(56, 4, 64)])) ({ stored with vault := {} }), by decide +kernel⟩,
   ⟨0, data (kd opHead [(56, 4, 64)]), (data (kd opHead [(56, 4, 64)])).parts.headD getPart, nsA, withCmd (data (kd
    opHead [(56, 4, 64)])) (base), by decide +kernel⟩,
   ⟨0, data (kd opHead [(56, 4, 64)]), (data (kd opHead [(56, 4, 64)])).parts.headD getPart, nsA, withCmd (data (kd
    opHead [(56, 4, 64)])) ({ stored with kv := { versions := [{ ver with metaLost := true }] } }),
    { ver with metaLost := true }, by decide +kernel⟩,
   ⟨0, data (kd opHead [(56, 4, 64)]), (data (kd opHead [(56, 4, 64)])).parts.headD getPart, nsA, withCmd (data (kd
    opHead [(56, 4, 64)])) ({ stored with kv := { versions := [{ ver with place := .slc }] } }),
    { ver with place := .slc }, {}, by decide +kernel⟩,
   ⟨0, data (kd opHead [(56, 4, 32)]), (data (kd opHead [(56, 4, 32)])).parts.headD getPart, nsA, withCmd (data (kd
    opHead [(56, 4, 32)])) ({ stored with kv := { versions := [{ ver with place := .staged }] } }),
    { ver with place := .staged }, by decide +kernel⟩,
   ⟨0, data (kd opHead [(56, 4, 64)]), (data (kd opHead [(56, 4, 64)])).parts.headD getPart, nsA, withCmd (data (kd
    opHead [(56, 4, 64)])) ({ stored with kv := { versions := [{ ver with place := .staged }] } }),
    { ver with place := .staged }, by decide +kernel⟩,
   ⟨0, 9, [], { mapFill := some (9, []), mapInval := false }, withMoon { mapFill := some (9, []), mapInval := false },
    by decide +kernel⟩,
   ⟨0, 1, base, by decide +kernel⟩,
   ⟨0, { getCmd with phase := .pageRead, version := some ver, compat := false }, ver, withCmd
    ({ getCmd with phase := .pageRead, version := some ver, compat := false }) (stored), by decide +kernel⟩,
   ⟨0, { getCmd with phase := .pageRead, version := some ({ ver with place := .qlc, objId := 9, folded := [5] }) },
    { ver with place := .qlc, objId := 9, folded := [5] }, withCmd
    ({ getCmd with phase := .pageRead, version := some ({ ver with place := .qlc, objId := 9, folded := [5] }) })
    ({ base with kv := { versions := [{ ver with place := .qlc, objId := 9, folded := [5] }] }, media := { base.media with bands := [{ num := 0, blocks := (List.range 8).map fun m => { blockA with moon := m } }] } }),
    by rw [tried_noPages] <;> decide +kernel⟩,
   ⟨0, { getCmd with phase := .pageRead, version := some { ver with suite := 2 }, compat := false },
    { ver with suite := 2 }, withCmd
    ({ getCmd with phase := .pageRead, version := some { ver with suite := 2 }, compat := false }) (stored),
    by decide +kernel⟩,
   ⟨0, { getCmd with phase := .pageRead, version := some { ver with suite := 2 }, compat := true },
    { ver with suite := 2 }, withCmd
    ({ getCmd with phase := .pageRead, version := some { ver with suite := 2 }, compat := true }) (stored),
    by decide +kernel⟩,
   ⟨0, { getCmd with phase := .sealWait, version := some ver, compat := false }, ver, withCmd
    ({ getCmd with phase := .sealWait, version := some ver, compat := false }) (stored), by decide +kernel⟩,
   ⟨0, { getCmd with phase := .sealWait, version := some ver, compat := true }, ver, withCmd
    ({ getCmd with phase := .sealWait, version := some ver, compat := true }) (stored), by decide +kernel⟩,
   ⟨0, { getCmd with phase := .sealWait, version := some ver, compat := false }, ver, withCmd
    ({ getCmd with phase := .sealWait, version := some ver, compat := false }) (stored), false, by decide +kernel⟩⟩

theorem witness_ObjectCommandsRun :
    (∃ (ref : Nat) (c : Cmd) (p : Part) (s : State),
      (c.parts = [p]) ∧ (s.mayCommit c = true) ∧ (s.Ready ref c (isOp opObjBegin)) ∧
      ((s.kv.objects.filter (·.sid == c.sid)).length < 1024) ∧ (s.kv.objects.length < 262144)) ∧
    (∃ (ref : Nat) (c : Cmd) (p : Part) (o : ObjSession) (s : State),
      (c.parts = [p]) ∧ (s.mayCommit c = true) ∧ (s.object? (dArg64 c.desc) = some o) ∧ (s.Settled) ∧
      (s.Ready ref c (isOp opObjAppend)) ∧ (s.receiving o.handle = false) ∧ (s.sealing o.handle = false) ∧
      (dArg32 c.desc = o.bytes.length) ∧ (s.overQuota [(o.nsid, s.appendGrowth o (dValueLen c.desc))] = false) ∧
      (s.noSpace [(o.nsid, s.appendGrowth o (dValueLen c.desc))] = false)) ∧
    (∃ (ref : Nat) (c : Cmd) (p : Part) (o : ObjSession) (s : State),
      (c.parts = [p]) ∧ (s.mayCommit c = true) ∧ (s.object? (dArg64 c.desc) = some o) ∧ (s.Settled) ∧
      (s.Ready ref c (isOp opObjSeal)) ∧ (s.appendsBefore c = false)) ∧
    (∃ (ref : Nat) (c : Cmd) (o : ObjSession) (s : State),
      (s.cmd? ref = some c) ∧ (c.phase = .turnWait) ∧ (dOpcode c.desc = opObjAppend) ∧
      (c.obj.bind s.object? = some o) ∧ (o.bytes.length < dArg32 c.desc)) ∧
    (∃ (obj : Nat) (s : State),
      ((∀ d ∈ s.cmds.list, d.obj = some obj → d.phase = .finished))) ∧
    (∃ (ref : Nat) (c : Cmd) (s : State),
      (s.cmd? ref = some c) ∧ (c.phase = .unknown)) :=
  ⟨⟨0, data (kd opObjBegin), { op := opObjBegin, nsid := 3, key := key, segs := [(0, 0, 0)] }, withCmd (data (kd
    opObjBegin)), by decide +kernel⟩,
   ⟨0, data (mk [(0, 1, 8), (16, 8, 9), (56, 4, 4)]),
    { op := 8, nsid := 0, key := [], len := 4, arg64 := 9, segs := [(0, 0, 4)] }, obj9, withCmd (data (mk [(0, 1,
    8), (16, 8, 9), (56, 4, 4)])) ({ base with kv := { objects := [obj9] } }), by decide +kernel⟩,
   ⟨0, data (mk [(0, 1, 9), (16, 8, 9)]), { op := 9, nsid := 0, key := [], arg64 := 9, segs := [(0, 0, 0)] }, obj9,
    withCmd (data (mk [(0, 1, 9), (16, 8, 9)])) ({ base with kv := { objects := [obj9] } }), by decide +kernel⟩,
   ⟨0, { data (mk [(0, 1, 8), (16, 8, 9), (56, 4, 4), (60, 4, 4)]) with phase := .turnWait, obj := some 9 }, obj9,
    withCmd ({ data (mk [(0, 1, 8), (16, 8, 9), (56, 4, 4), (60, 4, 4)]) with phase := .turnWait, obj := some 9 })
    ({ base with kv := { objects := [obj9] } }), by decide +kernel⟩,
   ⟨0, withCmd (data (kd opObjBegin)), by decide +kernel⟩,
   ⟨0, { data (mk [(0, 1, 0x30)]) with phase := .unknown }, withCmd
    ({ data (mk [(0, 1, 0x30)]) with phase := .unknown }), by decide +kernel⟩⟩

theorem witness_CommandsProgress :
    (∃ (ref : Nat) (c : Cmd) (a : HostAreas) (ps : List Part) (s : State),
      (s.cmd? ref = some c) ∧ (c.phase = .areas) ∧ (dOpcode c.desc ≠ opComet) ∧
      ((s.partsFrom c a).parts = .inl ps) ∧ (s.lateCheck { c with parts := ps } = none) ∧ (s.Settled)) ∧
    (∃ (ref : Nat) (c : Cmd) (s : State),
      (s.cmd? ref = some c) ∧ (c.phase = .lockWait) ∧ (s.locks.overflow.any (·.ref == ref) = false) ∧
      ((∃ r ∈ s.locks.rows, r.ref = ref)) ∧ ((∀ r ∈ s.locks.rows, r.ref = ref → c.lockTodo = [] ∧
      r.part < c.parts.length ∧ clearOf (s.rowsBefore ref r.part ++ s.locks.rows.filter (·.granted)) r = true)) ∧
      ((∀ i < c.parts.length, ∃ r ∈ s.locks.rows, r.ref = ref ∧ r.part = i)) ∧ (s.objectEnded c = false) ∧
      (s.decideFailure c = none)) ∧
    (∃ (ref : Nat) (c : Cmd) (s : State),
      (s.cmd? ref = some c) ∧ (c.phase = .orderWait) ∧ (opMutation (dOpcode c.desc) = false) ∧
      (s.mayCommit c = true)) ∧
    (∃ (ref : Nat) (c : Cmd) (p : Part) (s : State),
      (s.cmd? ref = some c) ∧ (c.parts = [p]) ∧ (p.op = opPut ∨ p.op = opCas) ∧ (p.wants = true) ∧
      (c.phase = .valueWait) ∧ (c.decided = true)) ∧
    (∃ (ref : Nat) (c : Cmd) (e : Extent) (k : Nat) (s : State),
      (s.cmd? ref = some c) ∧ (c.extents[k]? = some e) ∧ (e.staged = false) ∧ (c.phase ≠ .committed) ∧
      (c.wantsPart e.part = false)) :=
  ⟨⟨0, { data (kd opDeleteRange [(56, 4, 1)]) with parts := [], phase := .areas }, areas, [rangePart], withCmd
    ({ data (kd opDeleteRange [(56, 4, 1)]) with parts := [], phase := .areas }), by decide +kernel⟩,
   ⟨0, { put with phase := .lockWait }, withCmd ({ put with phase := .lockWait })
    ({ base with locks := { rows := [base.lockRow put 0 putPart] } }), by decide +kernel⟩,
   ⟨0, { getCmd with phase := .orderWait }, withCmd ({ getCmd with phase := .orderWait }), by decide +kernel⟩,
   ⟨0, { put with phase := .valueWait, decided := true, locked := true }, putPart, withCmd
    ({ put with phase := .valueWait, decided := true, locked := true }), by decide +kernel⟩,
   ⟨0, { put with parts := [putDone], phase := .csnWait, extents := [ext] }, ext, 0, withCmd
    ({ put with parts := [putDone], phase := .csnWait, extents := [ext] }), by decide +kernel⟩⟩

theorem witness_MutationsCommit :
    (∃ (ref : Nat) (c : Cmd) (s : State),
      (s.cmd? ref = some c) ∧ (c.phase = .csnWait) ∧ (s.mayGrant c = true)) ∧
    (∃ (ref : Nat) (c : Cmd) (s : State),
      (s.cmd? ref = some c) ∧ (c.phase = .granted) ∧ ((∀ p ∈ c.parts, p.op ≠ opDeleteRange)) ∧ (s.warm = false) ∧
      ((s.mirroring = true → c.partner = true)) ∧ (s.Settled)) ∧
    (∃ (ref : Nat) (c : Cmd) (s : State),
      (s.cmd? ref = some c) ∧ (c.phase = .committed) ∧ (c.progd = true ∨ c.stagedAll = true) ∧
      (fStrict (dFlags c.desc) = false ∨ s.atMedia c = true) ∧ (dOpcode c.desc ≠ opDeleteRange) ∧
      (digestBuffer c.desc = none)) ∧
    (∃ (ref : Nat) (c : Cmd) (s : State) (rkey : Nat) (addr : Nat) (dg : Bytes),
      (s.cmd? ref = some c) ∧ (c.phase = .committed) ∧ (c.progd = true ∨ c.stagedAll = true) ∧
      (fStrict (dFlags c.desc) = false ∨ s.atMedia c = true) ∧ (dOpcode c.desc ≠ opDeleteRange) ∧
      (digestBuffer c.desc = some (rkey, addr)) ∧ (c.digest = some dg) ∧ (s.polls c.sid = true)) ∧
    (∃ (ref : Nat) (c : Cmd) (s : State),
      (s.cmd? ref = some c) ∧ (c.phase = .committed) ∧ (c.progd = true ∨ c.stagedAll = true) ∧
      (fStrict (dFlags c.desc) = true) ∧ (s.atMedia c = false)) ∧
    (∃ (ref : Nat) (c : Cmd) (s : State),
      (s.cmd? ref = some c) ∧ (c.phase = .committed) ∧ (c.progd = true ∨ c.stagedAll = true) ∧
      (fStrict (dFlags c.desc) = false) ∧ (dOpcode c.desc = opDeleteRange)) ∧
    (∃ (ref : Nat) (c : Cmd) (e : Extent) (s : State),
      (s.cmd? ref = some c) ∧ (c.phase = .csnWait) ∧ (c.extents = [e]) ∧ (e.staged = true) ∧ (e.progd = false) ∧
      (e.ofObj = false) ∧ (c.wantsPart e.part = false) ∧
      (e.charge = sumNat ((c.parts.filter (·.writes)).map fun p => p.key.length + p.len)) ∧ (c.token = none) ∧
      (s.warm = false) ∧ ((∀ q ∈ s.seq.charges, ∀ x ∈ q.extents, x.staged = true → x.progd = true))) ∧
    (∃ (ref : Nat) (c : Cmd) (s : State),
      (s.cmd? ref = some c) ∧ (c.phase = .counting) ∧ (dOpcode c.desc = opDeleteRange)) :=
  ⟨⟨0, { put with parts := [putDone], phase := .csnWait }, withCmd
    ({ put with parts := [putDone], phase := .csnWait }) ({ base with win := { window := 1000 } }),
    by decide +kernel⟩,
   ⟨0, { put with parts := [putDone], phase := .granted, csn := 0x1000 }, withCmd
    ({ put with parts := [putDone], phase := .granted, csn := 0x1000 }), by decide +kernel⟩,
   ⟨0, { put with parts := [putDone], phase := .committed, csn := 0x1000, progd := true }, withCmd
    ({ put with parts := [putDone], phase := .committed, csn := 0x1000, progd := true }), by decide +kernel⟩,
   ⟨0,
    { put with desc := kd opPut [(4, 2, 16), (16, 8, 64), (56, 4, 4), (60, 4, 7)], parts := [putDone], phase := .committed, csn := 0x1000, progd := true, digest := some (zeros 32) },
    withCmd
    ({ put with desc := kd opPut [(4, 2, 16), (16, 8, 64), (56, 4, 4), (60, 4, 7)], parts := [putDone], phase := .committed, csn := 0x1000, progd := true, digest := some (zeros 32) }),
    7, 64, zeros 32, by decide +kernel⟩,
   ⟨0,
    { data (kd opPut [(4, 2, 2), (56, 4, 4)]) with parts := [putDone], phase := .committed, csn := 0x1000, extents := [{ ext with staged := true }] },
    withCmd
    ({ data (kd opPut [(4, 2, 2), (56, 4, 4)]) with parts := [putDone], phase := .committed, csn := 0x1000, extents := [{ ext with staged := true }] }),
    by decide +kernel⟩,
   ⟨0,
    { data (kd opDeleteRange [(56, 4, 1)]) with parts := [rangePart], phase := .committed, csn := 0x1000, progd := true },
    withCmd
    ({ data (kd opDeleteRange [(56, 4, 1)]) with parts := [rangePart], phase := .committed, csn := 0x1000, progd := true }),
    by decide +kernel⟩,
   ⟨0, { put with parts := [putDone], phase := .csnWait, extents := [{ ext with key := 3, staged := true }] },
    { ext with key := 3, staged := true }, withCmd
    ({ put with parts := [putDone], phase := .csnWait, extents := [{ ext with key := 3, staged := true }] }),
    by decide +kernel⟩,
   ⟨0, { data (kd opDeleteRange) with phase := .counting, keys := 2 }, withCmd
    ({ data (kd opDeleteRange) with phase := .counting, keys := 2 }), by decide +kernel⟩⟩

theorem witness_CometsStartAndReport :
    (∃ (ref : Nat) (c : Cmd) (s : State),
      let e : Instr × Nat × CometKind := (Instr.cometScan ref, 1, .scan)
      (s.Ready ref c (isComet e.2.1)) ∧ (s.mayCommit c = false)) ∧
    (∃ (ref : Nat) (c : Cmd) (s : State),
      let e : Instr × Nat × CometKind := (Instr.cometSearch ref, 2, .search)
      (s.Ready ref c (isComet e.2.1)) ∧ (s.mayCommit c = false)) ∧
    (∃ (ref : Nat) (c : Cmd) (s : State),
      let e : Instr × Nat × CometKind := (Instr.cometFixityAudit ref, 3, .audit)
      (s.Ready ref c (isComet e.2.1)) ∧ (s.mayCommit c = false)) ∧
    (∃ (ref : Nat) (c : Cmd) (s : State),
      let e : Instr × Nat × CometKind := (Instr.cometShortSelfTest ref, 4, .shortTest)
      (s.Ready ref c (isComet e.2.1)) ∧ (s.mayCommit c = false)) ∧
    (∃ (ref : Nat) (c : Cmd) (s : State),
      let e : Instr × Nat × CometKind := (Instr.cometExtendedSelfTest ref, 5, .extTest)
      (s.Ready ref c (isComet e.2.1)) ∧ (s.mayCommit c = false)) ∧
    (∃ (ref : Nat) (c : Cmd) (s : State),
      let e : Instr × Nat × CometKind := (Instr.cometNamespaceExport ref, 6, .export_)
      (s.Ready ref c (isComet e.2.1)) ∧ (s.mayCommit c = false)) ∧
    (∃ (ref : Nat) (c : Cmd) (s : State) (r : Comp),
      let e : Instr × Nat × CometKind := (Instr.cometScan ref, 1, .scan)
      (s.Ready ref c (isComet e.2.1)) ∧ (s.mayCommit c = true) ∧ (s.cometRefusal c e.2.2 = some r)) ∧
    (∃ (ref : Nat) (c : Cmd) (s : State) (r : Comp),
      let e : Instr × Nat × CometKind := (Instr.cometSearch ref, 2, .search)
      (s.Ready ref c (isComet e.2.1)) ∧ (s.mayCommit c = true) ∧ (s.cometRefusal c e.2.2 = some r)) ∧
    (∃ (ref : Nat) (c : Cmd) (s : State) (r : Comp),
      let e : Instr × Nat × CometKind := (Instr.cometFixityAudit ref, 3, .audit)
      (s.Ready ref c (isComet e.2.1)) ∧ (s.mayCommit c = true) ∧ (s.cometRefusal c e.2.2 = some r)) ∧
    (∃ (ref : Nat) (c : Cmd) (s : State) (r : Comp),
      let e : Instr × Nat × CometKind := (Instr.cometShortSelfTest ref, 4, .shortTest)
      (s.Ready ref c (isComet e.2.1)) ∧ (s.mayCommit c = true) ∧ (s.cometRefusal c e.2.2 = some r)) ∧
    (∃ (ref : Nat) (c : Cmd) (s : State) (r : Comp),
      let e : Instr × Nat × CometKind := (Instr.cometExtendedSelfTest ref, 5, .extTest)
      (s.Ready ref c (isComet e.2.1)) ∧ (s.mayCommit c = true) ∧ (s.cometRefusal c e.2.2 = some r)) ∧
    (∃ (ref : Nat) (c : Cmd) (s : State) (r : Comp),
      let e : Instr × Nat × CometKind := (Instr.cometNamespaceExport ref, 6, .export_)
      (s.Ready ref c (isComet e.2.1)) ∧ (s.mayCommit c = true) ∧ (s.cometRefusal c e.2.2 = some r)) ∧
    (∃ (ref : Nat) (c : Cmd) (s : State),
      let e : Instr × Nat × CometKind := (Instr.cometScan ref, 1, .scan)
      (s.Ready ref c (isComet e.2.1)) ∧
      (let num := unusedFrom (0 :: s.comets.list.map (·.num)) (2 ^ 64) (s.comets.list.length + 2) (Config.cometNumber s.fresh).toNat
       (s.mayCommit c = true) ∧ (s.cometRefusal c e.2.2 = none) ∧ (s.comet? num = none))) ∧
    (∃ (ref : Nat) (c : Cmd) (s : State),
      let e : Instr × Nat × CometKind := (Instr.cometSearch ref, 2, .search)
      (s.Ready ref c (isComet e.2.1)) ∧
      (let num := unusedFrom (0 :: s.comets.list.map (·.num)) (2 ^ 64) (s.comets.list.length + 2) (Config.cometNumber s.fresh).toNat
       (s.mayCommit c = true) ∧ (s.cometRefusal c e.2.2 = none) ∧ (s.comet? num = none))) ∧
    (∃ (ref : Nat) (c : Cmd) (s : State),
      let e : Instr × Nat × CometKind := (Instr.cometFixityAudit ref, 3, .audit)
      (s.Ready ref c (isComet e.2.1)) ∧
      (let num := unusedFrom (0 :: s.comets.list.map (·.num)) (2 ^ 64) (s.comets.list.length + 2) (Config.cometNumber s.fresh).toNat
       (s.mayCommit c = true) ∧ (s.cometRefusal c e.2.2 = none) ∧ (s.comet? num = none))) ∧
    (∃ (ref : Nat) (c : Cmd) (s : State),
      let e : Instr × Nat × CometKind := (Instr.cometShortSelfTest ref, 4, .shortTest)
      (s.Ready ref c (isComet e.2.1)) ∧
      (let num := unusedFrom (0 :: s.comets.list.map (·.num)) (2 ^ 64) (s.comets.list.length + 2) (Config.cometNumber s.fresh).toNat
       (s.mayCommit c = true) ∧ (s.cometRefusal c e.2.2 = none) ∧ (s.comet? num = none))) ∧
    (∃ (ref : Nat) (c : Cmd) (s : State),
      let e : Instr × Nat × CometKind := (Instr.cometExtendedSelfTest ref, 5, .extTest)
      (s.Ready ref c (isComet e.2.1)) ∧
      (let num := unusedFrom (0 :: s.comets.list.map (·.num)) (2 ^ 64) (s.comets.list.length + 2) (Config.cometNumber s.fresh).toNat
       (s.mayCommit c = true) ∧ (s.cometRefusal c e.2.2 = none) ∧ (s.comet? num = none))) ∧
    (∃ (ref : Nat) (c : Cmd) (s : State),
      let e : Instr × Nat × CometKind := (Instr.cometNamespaceExport ref, 6, .export_)
      (s.Ready ref c (isComet e.2.1)) ∧
      (let num := unusedFrom (0 :: s.comets.list.map (·.num)) (2 ^ 64) (s.comets.list.length + 2) (Config.cometNumber s.fresh).toNat
       (s.mayCommit c = true) ∧ (s.cometRefusal c e.2.2 = none) ∧ (s.comet? num = none))) ∧
    (∃ (num : Nat) (k : Comet) (x : Session) (s : State),
      (s.comet? num = some k) ∧ (k.st = .running) ∧ (k.kind ≠ .rebuild) ∧ (s.session? k.sid = some x) ∧
      (let submits := k.kind == .export_ && !k.submitted && s.maySubmit k
       (x.cls = .live) ∧ (k.kind ≠ .extTest) ∧ (submits = false))) ∧
    (∃ (num : Nat) (k : Comet) (x : Session) (s : State),
      (s.comet? num = some k) ∧ (k.st = .running) ∧ (k.kind ≠ .rebuild) ∧ (s.session? k.sid = some x) ∧
      (let submits := k.kind == .export_ && !k.submitted && s.maySubmit k
       (x.cls = .live) ∧ (submits = true))) ∧
    (∃ (num : Nat) (k : Comet) (x : Session) (s : State),
      (s.comet? num = some k) ∧ (k.st = .running) ∧ (k.kind ≠ .rebuild) ∧ (s.session? k.sid = some x) ∧
      (x.cls = .live) ∧ (k.kind = .extTest)) ∧
    (∃ (num : Nat) (k : Comet) (x : Session) (s : State),
      (s.comet? num = some k) ∧ (k.st = .running) ∧ (k.kind ≠ .rebuild) ∧ (s.session? k.sid = some x) ∧
      (x.cls = .live) ∧ (x.role ≠ 0)) ∧
    (∃ (num : Nat) (k : Comet) (x : Session) (bs : Bytes) (s : State),
      (s.comet? num = some k) ∧ (k.st = .running) ∧ (k.kind ≠ .rebuild) ∧ (s.session? k.sid = some x) ∧
      (let n := u64At bs 0
       (x.cls = .live) ∧ (k.consumed ≤ n) ∧ (n ≤ k.bytes) ∧ (k.creditWait = false))) ∧
    (∃ (num : Nat) (k : Comet) (x : Session) (bs : Bytes) (s : State),
      (s.comet? num = some k) ∧ (k.st = .running) ∧ (k.kind ≠ .rebuild) ∧ (s.session? k.sid = some x) ∧
      (let n := u64At bs 0
       (x.cls = .live) ∧ (k.consumed < n) ∧ (n ≤ k.bytes) ∧ (k.creditWait = true))) ∧
    (∃ (num : Nat) (k : Comet) (x : Session) (bs : Bytes) (s : State),
      (s.comet? num = some k) ∧ (k.st = .running) ∧ (k.kind ≠ .rebuild) ∧ (s.session? k.sid = some x) ∧
      (let n := u64At bs 0
       (x.cls = .live) ∧ (n < k.consumed ∨ k.bytes < n))) ∧
    (∃ (num : Nat) (k : Comet) (x : Session) (s : State),
      (s.comet? num = some k) ∧ (k.st = .running) ∧ (k.kind ≠ .rebuild) ∧ (s.session? k.sid = some x) ∧
      (x.cls = .orphan) ∧ (k.kind ≠ .extTest)) :=
  ⟨⟨0, cometCmd 1, behind (cometCmd 1) stored, by decide +kernel⟩,
   ⟨0, cometCmd 2, behind (cometCmd 2) stored, by decide +kernel⟩,
   ⟨0, cometCmd 3, behind (cometCmd 3) stored, by decide +kernel⟩,
   ⟨0, cometCmd 4, behind (cometCmd 4) stored, by decide +kernel⟩,
   ⟨0, cometCmd 5, behind (cometCmd 5) stored, by decide +kernel⟩,
   ⟨0, cometCmd 6, behind (cometCmd 6) stored, by decide +kernel⟩,
   ⟨0, cometCmd 1, withCmd (cometCmd 1)
    ({ stored with comets := { list := (List.range 64).map fun k => { comet with num := k + 1 } } }), Comp.plain
    .busyRetry, by decide +kernel⟩,
   ⟨0, cometCmd 2, withCmd (cometCmd 2)
    ({ stored with comets := { list := (List.range 64).map fun k => { comet with num := k + 1 } } }), Comp.plain
    .busyRetry, by decide +kernel⟩,
   ⟨0, cometCmd 3, withCmd (cometCmd 3)
    ({ stored with comets := { list := (List.range 64).map fun k => { comet with num := k + 1 } } }), Comp.plain
    .busyRetry, by decide +kernel⟩,
   ⟨0, cometCmd 4, withCmd (cometCmd 4)
    ({ stored with comets := { list := (List.range 64).map fun k => { comet with num := k + 1 } } }), Comp.plain
    .busyRetry, by decide +kernel⟩,
   ⟨0, cometCmd 5, withCmd (cometCmd 5)
    ({ stored with comets := { list := (List.range 64).map fun k => { comet with num := k + 1 } } }), Comp.plain
    .busyRetry, by decide +kernel⟩,
   ⟨0, cometCmd 6, withCmd (cometCmd 6)
    ({ stored with comets := { list := (List.range 64).map fun k => { comet with num := k + 1 } } }), Comp.plain
    .busyRetry, by decide +kernel⟩,
   ⟨0, cometCmd 1, withCmd (cometCmd 1) (stored), by decide +kernel⟩,
   ⟨0, cometCmd 2, withCmd (cometCmd 2) (stored), by decide +kernel⟩,
   ⟨0, cometCmd 3, withCmd (cometCmd 3) (stored), by decide +kernel⟩,
   ⟨0, cometCmd 4, withCmd (cometCmd 4) (stored), by decide +kernel⟩,
   ⟨0, cometCmd 5, withCmd (cometCmd 5) (stored), by decide +kernel⟩,
   ⟨0, cometCmd 6, withCmd (cometCmd 6) (stored), by decide +kernel⟩,
   ⟨77, comet, sess, withComet comet, by decide +kernel⟩,
   ⟨77, { comet with kind := .export_ }, sess, withComet { comet with kind := .export_ }, by decide +kernel⟩,
   ⟨77, { comet with kind := .extTest }, sess, withComet { comet with kind := .extTest }, by decide +kernel⟩,
   ⟨77, comet, sess, withComet comet, by decide +kernel⟩,
   ⟨77, comet, sess, [], withComet comet, by decide +kernel⟩,
   ⟨77, { comet with bytes := 8, creditWait := true }, sess, toLe 8 5, withComet
    { comet with bytes := 8, creditWait := true }, by decide +kernel⟩,
   ⟨77, comet, sess, toLe 8 5, withComet comet, by decide +kernel⟩,
   ⟨77, comet, { sess with cls := .orphan }, withSess { sess with cls := .orphan } (withComet comet),
    by decide +kernel⟩⟩

theorem witness_CometsRecordAndEnd :
    (∃ (num : Nat) (k : Comet) (v : Version) (x : Session) (s : State),
      (s.comet? num = some k) ∧ (s.session? k.sid = some x) ∧ (x.cls = .live) ∧
      (k.kind = .scan ∨ k.kind = .search) ∧ (s.mayRead k = true) ∧ (s.tooHot k v = false) ∧
      ((s.visibleTo k.nsid k.snapshot k.low k.high).find? (·.key == v.key) = some v) ∧ (v.key ∉ k.seen) ∧
      (k.creditWait = true)) ∧
    (∃ (num : Nat) (k : Comet) (v : Version) (x : Session) (s : State),
      (s.comet? num = some k) ∧ (s.session? k.sid = some x) ∧ (x.cls = .live) ∧
      (k.kind = .scan ∨ k.kind = .search) ∧ (s.mayRead k = true) ∧ (s.tooHot k v = false) ∧
      ((s.visibleTo k.nsid k.snapshot k.low k.high).find? (·.key == v.key) = some v) ∧ (v.key ∉ k.seen) ∧
      (let deg := s.rangeOut v 0 (k.span v)
       let vs := allVerdicts (s.progOf k) (blkMatch k.block) v.key (v.value.getD [])
       let r := matchRecord k v (((s.namespace? k.nsid).map (·.compat)).getD false) deg false vs
       let fits := fun (r : Bytes) => k.creditWait = false ∧ k.padBefore r.length = 0 ∧ k.fits r.length = true
       (s.unreadableTo k v = false) ∧ ((v.suite = 2 → v.badSeal = false)) ∧
       (matchTrue (blkMatch k.block) vs = true) ∧ (fits r))) ∧
    (∃ (num : Nat) (k : Comet) (v : Version) (x : Session) (s : State),
      (s.comet? num = some k) ∧ (s.session? k.sid = some x) ∧ (x.cls = .live) ∧
      (k.kind = .scan ∨ k.kind = .search) ∧ (s.mayRead k = true) ∧ (s.tooHot k v = false) ∧
      ((s.visibleTo k.nsid k.snapshot k.low k.high).find? (·.key == v.key) = some v) ∧ (v.key ∉ k.seen) ∧
      (let deg := s.rangeOut v 0 (k.span v)
       let vs := allVerdicts (s.progOf k) (blkMatch k.block) v.key (v.value.getD [])
       let r := matchRecord k v (((s.namespace? k.nsid).map (·.compat)).getD false) deg false vs
       (s.unreadableTo k v = false) ∧ ((v.suite = 2 → v.badSeal = false)) ∧ (k.creditWait = false) ∧
       (matchTrue (blkMatch k.block) vs = true) ∧ (k.padBefore r.length = 0) ∧ (k.fits r.length = false))) ∧
    (∃ (num : Nat) (k : Comet) (v : Version) (x : Session) (s : State),
      (s.comet? num = some k) ∧ (s.session? k.sid = some x) ∧ (x.cls = .live) ∧
      (k.kind = .scan ∨ k.kind = .search) ∧ (s.mayRead k = true) ∧ (s.tooHot k v = false) ∧
      ((s.visibleTo k.nsid k.snapshot k.low k.high).find? (·.key == v.key) = some v) ∧ (v.key ∉ k.seen) ∧
      (let vs := allVerdicts (s.progOf k) (blkMatch k.block) v.key (v.value.getD [])
       (s.unreadableTo k v = false) ∧ ((v.suite = 2 → v.badSeal = false)) ∧ (k.creditWait = false) ∧
       (matchTrue (blkMatch k.block) vs = false))) ∧
    (∃ (num : Nat) (k : Comet) (v : Version) (x : Session) (s : State),
      (s.comet? num = some k) ∧ (s.session? k.sid = some x) ∧ (x.cls = .live) ∧
      (k.kind = .scan ∨ k.kind = .search) ∧ (s.mayRead k = true) ∧ (s.tooHot k v = false) ∧
      ((s.visibleTo k.nsid k.snapshot k.low k.high).find? (·.key == v.key) = some v) ∧ (v.key ∉ k.seen) ∧
      (let deg := s.rangeOut v 0 (k.span v)
       let vs := allVerdicts (s.progOf k) (blkMatch k.block) v.key (v.value.getD [])
       let r := matchRecord k v (((s.namespace? k.nsid).map (·.compat)).getD false) deg false vs
       let fits := fun (r : Bytes) => k.creditWait = false ∧ k.padBefore r.length = 0 ∧ k.fits r.length = true
       (s.unreadableTo k v = true) ∧ (k.peerWait = false) ∧ (fits (unreadableRecord v deg (s.keyGone v))))) ∧
    (∃ (num : Nat) (k : Comet) (x : Session) (s : State),
      (s.comet? num = some k) ∧ (s.session? k.sid = some x) ∧ (x.cls = .live) ∧ (k.st = .running) ∧
      (k.kind ≠ .rebuild) ∧ (s.allDone k = true) ∧ (k.creditWait = false)) ∧
    (∃ (csn : Nat) (s : State),
      (s.pinned csn = true) ∧ (s.resyncUses csn = false) ∧
      ((∀ k ∈ s.comets.list, k.st = .running → k.pinned = true → k.snapshot ≠ csn))) ∧
    (∃ (csn : Nat) (s : State),
      (s.pinned csn = true) ∧ (s.resyncUses csn = true ∨ (∃ k ∈ s.comets.list, k.st = .running ∧ k.pinned = true ∧
      k.snapshot = csn))) :=
  ⟨⟨77, { comet with creditWait := true }, ver, sess, withComet { comet with creditWait := true }, by decide +kernel⟩,
   ⟨77, comet, ver, sess, withComet comet, by decide +kernel⟩,
   ⟨77, { comet with bytes := 262144 }, ver, sess, withComet { comet with bytes := 262144 }, by decide +kernel⟩,
   ⟨77, { comet with block := overwrite blk 48 [1] }, ver, sess, withComet
    { comet with block := overwrite blk 48 [1] }, by decide +kernel⟩,
   ⟨77, comet, { ver with metaLost := true }, sess, withComet comet
    { base with kv := { versions := [{ ver with metaLost := true }] } }, by decide +kernel⟩,
   ⟨77, { comet with seen := [key] }, sess, withComet { comet with seen := [key] }, by decide +kernel⟩,
   ⟨0x100, { stored with kv := { stored.kv with pins := [{ csn := 0x100, lifetime := 1, linger := 1 }] } },
    by decide +kernel⟩,
   ⟨0x100, withComet { comet with pinned := true }
    { stored with kv := { stored.kv with pins := [{ csn := 0x100, lifetime := 1, linger := 1 }] } },
    by decide +kernel⟩⟩

theorem witness_ExportsFollowTheirPeer :
    (∃ (num : Nat) (k : Comet) (v : Version) (x : Session) (s : State),
      (s.comet? num = some k) ∧ (k.kind = .export_) ∧ (s.session? k.sid = some x) ∧ (x.cls = .live) ∧
      (s.mayRead k = true) ∧ (s.exportVersion k v.key v.csn = some v) ∧ (blkReportAll k.block = false) ∧
      (k.peerWait = false)) ∧
    (∃ (num : Nat) (st : Nat) (k : Comet) (v : Version) (x : Session) (s : State),
      (s.comet? num = some k) ∧ (k.kind = .export_) ∧ (s.session? k.sid = some x) ∧ (x.cls = .live) ∧
      (s.mayRead k = true) ∧ (s.exportVersion k v.key v.csn = some v) ∧ (st / 256 = 6)) ∧
    (∃ (num : Nat) (st : Nat) (k : Comet) (v : Version) (x : Session) (s : State),
      (s.comet? num = some k) ∧ (k.kind = .export_) ∧ (s.session? k.sid = some x) ∧ (x.cls = .live) ∧
      (s.mayRead k = true) ∧ (s.exportVersion k v.key v.csn = some v) ∧ ((v.key, v.csn, st) ∈ k.retries) ∧
      (s.tooHot k v = false)) ∧
    (∃ (num : Nat) (st : Nat) (k : Comet) (v : Version) (x : Session) (s : State),
      (s.comet? num = some k) ∧ (k.kind = .export_) ∧ (s.session? k.sid = some x) ∧ (x.cls = .live) ∧
      (s.mayRead k = true) ∧ (s.exportVersion k v.key v.csn = some v) ∧ (k.retries = [(v.key, v.csn, st)]) ∧
      (let r := k.exportRec v st false false 0
       (k.padBefore r.length = 0) ∧ (k.fits r.length = true))) ∧
    (∃ (num : Nat) (k : Comet) (x : Session) (s : State),
      (s.comet? num = some k) ∧ (k.kind = .export_) ∧ (s.session? k.sid = some x) ∧ (x.cls = .live) ∧
      (k.st = .running)) :=
  ⟨⟨77, { comet with kind := .export_ }, ver, sess, withComet { comet with kind := .export_ }, by decide +kernel⟩,
   ⟨77, 0x0601, { comet with kind := .export_, retries := [(key, 0x100, 0x0601)] }, ver, sess, withComet
    { comet with kind := .export_, retries := [(key, 0x100, 0x0601)] }, by decide +kernel⟩,
   ⟨77, 0x0801, { comet with kind := .export_, retries := [(key, 0x100, 0x0801)] }, ver, sess, withComet
    { comet with kind := .export_, retries := [(key, 0x100, 0x0801)] }, by decide +kernel⟩,
   ⟨77, 0x0801, { comet with kind := .export_, retries := [(key, 0x100, 0x0801)] }, ver, sess, withComet
    { comet with kind := .export_, retries := [(key, 0x100, 0x0801)] }, by decide +kernel⟩,
   ⟨77, { comet with kind := .export_ }, sess, withComet { comet with kind := .export_ }, by decide +kernel⟩⟩

theorem witness_LoginGivesTheRole :
    (∃ (ref : Nat) (c : Cmd) (x : Session) (s : State) (k : Comp),
      (s.session? c.sid = some x) ∧ (s.Ready ref c (isOp 0x40)) ∧ (s.beginRefusal c.desc = some k)) ∧
    (∃ (ref : Nat) (c : Cmd) (x : Session) (s : State),
      (s.session? c.sid = some x) ∧ (s.Ready ref c (isOp 0x40)) ∧ (s.beginRefusal c.desc = none) ∧ (x.cls ≠ .orphan)) ∧
    (∃ (ref : Nat) (c : Cmd) (x : Session) (s : State),
      (s.session? c.sid = some x) ∧ (s.Ready ref c (isOp 0x41)) ∧ (x.begun = none)) ∧
    (∃ (ref : Nat) (c : Cmd) (x : Session) (s : State) (b : BeginRec),
      (s.session? c.sid = some x) ∧ (s.Ready ref c (isOp 0x41)) ∧ (x.begun = some b) ∧ (b.used = true)) ∧
    (∃ (ref : Nat) (c : Cmd) (x : Session) (s : State) (b : BeginRec),
      (s.session? c.sid = some x) ∧ (s.Ready ref c (isOp 0x41)) ∧ (x.begun = some b) ∧ (b.used = false) ∧
      (s.proofOk x b (slice c.desc 8 32) = true) ∧ (x.resuming = none)) ∧
    (∃ (ref : Nat) (c : Cmd) (x : Session) (s : State) (b : BeginRec) (h : Nat) (o : Session),
      (s.session? c.sid = some x) ∧ (s.Ready ref c (isOp 0x41)) ∧ (x.begun = some b) ∧ (b.used = false) ∧
      (s.proofOk x b (slice c.desc 8 32) = true) ∧ (x.resuming = some h) ∧ (s.orphanOf h = some o) ∧
      (o.sid ≠ c.sid) ∧ (s.session? o.sid = some o) ∧ (s.mirroring = false) ∧ (s.ringCmds c.sid 0 = [c])) ∧
    (∃ (ref : Nat) (c : Cmd) (x : Session) (s : State) (b : BeginRec),
      (s.session? c.sid = some x) ∧ (s.Ready ref c (isOp 0x41)) ∧ (x.begun = some b) ∧ (b.used = false) ∧
      (s.proofOk x b (slice c.desc 8 32) = false) ∧ (x.failed + 1 < 3)) ∧
    (∃ (ref : Nat) (c : Cmd) (x : Session) (s : State) (b : BeginRec),
      (s.session? c.sid = some x) ∧ (s.Ready ref c (isOp 0x41)) ∧ (x.begun = some b) ∧ (b.used = false) ∧
      (s.proofOk x b (slice c.desc 8 32) = false) ∧ (3 ≤ x.failed + 1)) :=
  ⟨⟨0, adm [(0, 1, 0x40), (8, 1, 0), (24, 4, 5), (28, 4, 8192)], loginSess, withCmd (adm [(0, 1, 0x40), (8, 1, 0),
    (24, 4, 5), (28, 4, 8192)]) (withSess loginSess), Comp.denied 7, by decide +kernel⟩,
   ⟨0, adm [(0, 1, 0x40), (8, 1, 1), (24, 4, 5), (28, 4, 8192)], loginSess, withCmd (adm [(0, 1, 0x40), (8, 1, 1),
    (24, 4, 5), (28, 4, 8192)]) (withSess loginSess), by decide +kernel⟩,
   ⟨0, adm [(0, 1, 0x41)], { loginSess with begun := none }, withCmd (adm [(0, 1, 0x41)]) (withSess
    ({ loginSess with begun := none })), by decide +kernel⟩,
   ⟨0, adm [(0, 1, 0x41)], { loginSess with begun := some { pass with used := true } }, withCmd (adm [(0, 1, 0x41)])
    (withSess ({ loginSess with begun := some { pass with used := true } })), { pass with used := true },
    by decide +kernel⟩,
   ⟨0, proveCmd, loginSess, withCmd (proveCmd) (withSess loginSess), pass, by decide +kernel⟩,
   ⟨0,
    { proveCmd with desc := overwrite (mk [(0, 1, 0x41)]) 8 (hmac256 custodian.secret (loginTranscript ({ loginSess with resuming := some 8 }) pass)) },
    { loginSess with resuming := some 8 }, withCmd
    ({ proveCmd with desc := overwrite (mk [(0, 1, 0x41)]) 8 (hmac256 custodian.secret (loginTranscript ({ loginSess with resuming := some 8 }) pass)) })
    ({ base with sess := { sessions := [{ loginSess with resuming := some 8 }, { sess with sid := 2, handle := 8, cls := .orphan, row := 1 }] } }),
    pass, 8, { sess with sid := 2, handle := 8, cls := .orphan, row := 1 }, by decide +kernel⟩,
   ⟨0, adm [(0, 1, 0x41)], loginSess, withCmd (adm [(0, 1, 0x41)]) (withSess (loginSess)), pass, by decide +kernel⟩,
   ⟨0, adm [(0, 1, 0x41)], { loginSess with failed := 2 }, withCmd (adm [(0, 1, 0x41)]) (withSess
    ({ loginSess with failed := 2 })), pass, by decide +kernel⟩⟩

theorem witness_RingsAreManaged :
    (∃ (ref : Nat) (c : Cmd) (s : State),
      let ring := rpRing c.desc
      (s.Ready ref c (isOp 0x42)) ∧
      (let bad := ring = 0 ∨ (s.ring? c.sid ring).isSome = true ∨ ringBasesOk c.desc = false ∨ ringTimesOk c.desc = false
       (bad))) ∧
    (∃ (ref : Nat) (c : Cmd) (s : State),
      let ring := rpRing c.desc
      (s.Ready ref c (isOp 0x42)) ∧
      (let bad := ring = 0 ∨ (s.ring? c.sid ring).isSome = true ∨ ringBasesOk c.desc = false ∨ ringTimesOk c.desc = false
       (¬bad) ∧ (131072 ≤ s.ringCount))) ∧
    (∃ (ref : Nat) (c : Cmd) (s : State),
      let ring := rpRing c.desc
      (s.Ready ref c (isOp 0x42)) ∧
      (let bad := ring = 0 ∨ (s.ring? c.sid ring).isSome = true ∨ ringBasesOk c.desc = false ∨ ringTimesOk c.desc = false
       (¬bad) ∧ (s.ringCount < 131072))) ∧
    (∃ (ref : Nat) (c : Cmd) (s : State),
      let ring := rpRing c.desc
      (s.ring? c.sid ring = none) ∧ (s.Ready ref c (isOp 0x47))) ∧
    (∃ (ref : Nat) (c : Cmd) (s : State) (r : Ring),
      let ring := rpRing c.desc
      (s.ring? c.sid ring = some r) ∧ (s.Ready ref c (isOp 0x45)) ∧ (ring = 0 ∨ r.st ≠ .stopped)) ∧
    (∃ (ref : Nat) (c : Cmd) (s : State) (r : Ring),
      let ring := rpRing c.desc
      (s.ring? c.sid ring = some r) ∧ (s.Ready ref c (isOp 0x45)) ∧ (ring ≠ 0) ∧ (r.st = .stopped)) ∧
    (∃ (ref : Nat) (c : Cmd) (s : State) (r : Ring),
      let ring := rpRing c.desc
      (s.ring? c.sid ring = some r) ∧ (s.Ready ref c (isOp 0x46)) ∧
      (ring = 0 ∨ r.st ≠ .stopped ∨ ringBasesOk c.desc = false)) ∧
    (∃ (ref : Nat) (c : Cmd) (s : State) (r : Ring),
      let ring := rpRing c.desc
      (s.ring? c.sid ring = some r) ∧ (s.Ready ref c (isOp 0x46)) ∧ (ring ≠ 0) ∧ (r.st = .stopped) ∧
      (ringBasesOk c.desc = true)) ∧
    (∃ (ref : Nat) (c : Cmd) (s : State) (r : Ring),
      let ring := rpRing c.desc
      (s.ring? c.sid ring = some r) ∧ (s.Ready ref c (isOp 0x47)) ∧ (s.isOrphan c.sid = false)) ∧
    (∃ (ref : Nat) (c : Cmd) (r : Ring) (w : HostWrite) (s : State),
      (s.ring? c.sid (rpRing c.desc) = some r) ∧ (r.idx ≠ 0) ∧ (c.ring ≠ r.idx) ∧
      ((∀ d ∈ s.cmds.list, d.ref = ref → d = c)) ∧
      (let e := (Instr.admRingReset ⟨ref, w⟩, 0x44)
       (s.Ready ref c (isOp e.2)) ∧ (r.st ≠ .stopped) ∧ (r.st ≠ .resetting))) ∧
    (∃ (ref : Nat) (c : Cmd) (r : Ring) (s : State),
      (s.ring? c.sid (rpRing c.desc) = some r) ∧ (r.idx ≠ 0) ∧ (c.ring ≠ r.idx) ∧
      ((∀ d ∈ s.cmds.list, d.ref = ref → d = c)) ∧
      (let e := (Instr.admRingDestroy ref, 0x43)
       (s.Ready ref c (isOp e.2)) ∧ (r.st ≠ .stopped) ∧ (r.st ≠ .resetting))) ∧
    (∃ (ref : Nat) (c : Cmd) (r : Ring) (w : HostWrite) (s : State),
      (s.ring? c.sid (rpRing c.desc) = some r) ∧ (r.idx ≠ 0) ∧ (c.ring ≠ r.idx) ∧
      ((∀ d ∈ s.cmds.list, d.ref = ref → d = c)) ∧
      (let e := (Instr.admRingReset ⟨ref, w⟩, 0x44)
       (s.Ready ref c (isOp e.2)) ∧ (r.st = .resetting))) ∧
    (∃ (ref : Nat) (c : Cmd) (r : Ring) (s : State),
      (s.ring? c.sid (rpRing c.desc) = some r) ∧ (r.idx ≠ 0) ∧ (c.ring ≠ r.idx) ∧
      ((∀ d ∈ s.cmds.list, d.ref = ref → d = c)) ∧
      (let e := (Instr.admRingDestroy ref, 0x43)
       (s.Ready ref c (isOp e.2)) ∧ (r.st = .resetting))) ∧
    (∃ (ref : Nat) (c : Cmd) (r : Ring) (s : State),
      (s.ring? c.sid (rpRing c.desc) = some r) ∧ (r.idx ≠ 0) ∧ (r.st = .stopped) ∧ (s.Ready ref c (isOp 0x43))) ∧
    (∃ (ref : Nat) (c : Cmd) (r : Ring) (w : HostWrite) (s : State),
      (s.ring? c.sid (rpRing c.desc) = some r) ∧ (r.idx ≠ 0) ∧ (r.st = .stopped) ∧ (s.Ready ref c (isOp 0x44)) ∧
      (w = .acked)) ∧
    (∃ (sid : Nat) (ring : Nat) (r : Ring) (t : ResetRec) (w : HostWrite) (s : State),
      (s.ring? sid ring = some r) ∧ (r.reset = some t) ∧ (s.ringCmds sid ring = []) ∧
      (s.reportFails sid t w = false) ∧ (t.admin = none)) ∧
    (∃ (sid : Nat) (ring : Nat) (r : Ring) (t : ResetRec) (w : HostWrite) (s : State) (a : Nat),
      (s.ring? sid ring = some r) ∧ (r.reset = some t) ∧ (s.ringCmds sid ring = []) ∧
      (s.reportFails sid t w = false) ∧ (t.admin = some a) ∧ (t.cause ≠ 2)) ∧
    (∃ (sid : Nat) (ring : Nat) (r : Ring) (t : ResetRec) (w : HostWrite) (s : State) (a : Nat),
      (s.ring? sid ring = some r) ∧ (r.reset = some t) ∧ (s.ringCmds sid ring = []) ∧
      (s.reportFails sid t w = false) ∧ (t.admin = some a) ∧ (t.cause = 2)) ∧
    (∃ (sid : Nat) (ring : Nat) (r : Ring) (t : ResetRec) (w : HostWrite) (s : State) (a : Nat),
      (s.ring? sid ring = some r) ∧ (r.reset = some t) ∧ (s.ringCmds sid ring = []) ∧
      (s.reportFails sid t w = true) ∧ (s.roleOf sid ≠ 0) ∧ (t.admin = some a) ∧ (t.cause ≠ 2)) :=
  ⟨⟨0, adm [(0, 1, 0x42), (8, 2, 0), (10, 1, 4), (11, 1, 4)], withCmd (adm [(0, 1, 0x42), (8, 2, 0), (10, 1, 4), (11,
    1, 4)]), by decide +kernel⟩,
   ⟨0, adm [(0, 1, 0x42), (8, 2, 2), (10, 1, 4), (11, 1, 4)], withCmd (adm [(0, 1, 0x42), (8, 2, 2), (10, 1, 4), (11,
    1, 4)])
    ({ base with sess := { sessions := sess :: List.replicate 512 { sess with sid := 2, rings := List.replicate 256 dataRing } } }),
    by decide +kernel⟩,
   ⟨0, adm [(0, 1, 0x42), (8, 2, 2), (10, 1, 4), (11, 1, 4)], withCmd (adm [(0, 1, 0x42), (8, 2, 2), (10, 1, 4), (11,
    1, 4)]), by decide +kernel⟩,
   ⟨0, adm [(0, 1, 0x47), (8, 2, 5)], withCmd (adm [(0, 1, 0x47), (8, 2, 5)]), by decide +kernel⟩,
   ⟨0, adm [(0, 1, 0x45), (8, 2, 1)], withCmd (adm [(0, 1, 0x45), (8, 2, 1)]), dataRing, by decide +kernel⟩,
   ⟨0, adm [(0, 1, 0x45), (8, 2, 1)], withCmd (adm [(0, 1, 0x45), (8, 2, 1)]) (withSess (withRing
    { dataRing with st := .stopped })), { dataRing with st := .stopped }, by decide +kernel⟩,
   ⟨0, adm [(0, 1, 0x46), (8, 2, 1), (10, 1, 16), (11, 1, 16)], withCmd (adm [(0, 1, 0x46), (8, 2, 1), (10, 1, 16),
    (11, 1, 16)]), dataRing, by decide +kernel⟩,
   ⟨0, adm [(0, 1, 0x46), (8, 2, 1), (10, 1, 16), (11, 1, 16)], withCmd (adm [(0, 1, 0x46), (8, 2, 1), (10, 1, 16),
    (11, 1, 16)]) (withSess (withRing { dataRing with st := .stopped })), { dataRing with st := .stopped },
    by decide +kernel⟩,
   ⟨0, adm [(0, 1, 0x47), (8, 2, 1)], withCmd (adm [(0, 1, 0x47), (8, 2, 1)]), dataRing, by decide +kernel⟩,
   ⟨0, adm [(0, 1, 0x44), (8, 2, 1)], dataRing, .acked, withCmd (adm [(0, 1, 0x44), (8, 2, 1)]), by decide +kernel⟩,
   ⟨0, adm [(0, 1, 0x43), (8, 2, 1)], dataRing, withCmd (adm [(0, 1, 0x43), (8, 2, 1)]), by decide +kernel⟩,
   ⟨0, adm [(0, 1, 0x44), (8, 2, 1)], { dataRing with st := .resetting, reset := some { cause := 1, admin := none } },
    .acked, withCmd (adm [(0, 1, 0x44), (8, 2, 1)]) (withSess (withRing
    { dataRing with st := .resetting, reset := some { cause := 1, admin := none } })), by decide +kernel⟩,
   ⟨0, adm [(0, 1, 0x43), (8, 2, 1)], { dataRing with st := .resetting, reset := some { cause := 1, admin := none } },
    withCmd (adm [(0, 1, 0x43), (8, 2, 1)]) (withSess (withRing
    { dataRing with st := .resetting, reset := some { cause := 1, admin := none } })), by decide +kernel⟩,
   ⟨0, adm [(0, 1, 0x43), (8, 2, 1)], { dataRing with st := .stopped }, withCmd (adm [(0, 1, 0x43), (8, 2, 1)])
    (withSess (withRing { dataRing with st := .stopped })), by decide +kernel⟩,
   ⟨0, adm [(0, 1, 0x44), (8, 2, 1)], { dataRing with st := .stopped }, .acked, withCmd (adm [(0, 1, 0x44), (8, 2,
    1)]) (withSess (withRing { dataRing with st := .stopped })), by decide +kernel⟩,
   ⟨1, 1, { dataRing with st := .resetting, reset := some { cause := 1, admin := none } },
    { cause := 1, admin := none }, .acked, withSess (withRing
    { dataRing with st := .resetting, reset := some { cause := 1, admin := none } }), by decide +kernel⟩,
   ⟨1, 1, { dataRing with st := .resetting, reset := some { cause := 1, admin := some 0, bufAddr := 64 } },
    { cause := 1, admin := some 0, bufAddr := 64 }, .acked, withCmd
    { adm [(0, 1, 0x44), (8, 2, 1)] with phase := .adminWait } (withSess (withRing
    { dataRing with st := .resetting, reset := some { cause := 1, admin := some 0, bufAddr := 64 } })), 0,
    by decide +kernel⟩,
   ⟨1, 1, { dataRing with st := .resetting, reset := some { cause := 2, admin := some 0, bufAddr := 64 } },
    { cause := 2, admin := some 0, bufAddr := 64 }, .acked, withCmd
    { adm [(0, 1, 0x44), (8, 2, 1)] with phase := .adminWait } (withSess (withRing
    { dataRing with st := .resetting, reset := some { cause := 2, admin := some 0, bufAddr := 64 } })), 0,
    by decide +kernel⟩,
   ⟨1, 1, { dataRing with st := .resetting, reset := some { cause := 1, admin := some 0, bufAddr := 64 } },
    { cause := 1, admin := some 0, bufAddr := 64 }, .accessError, withCmd
    { adm [(0, 1, 0x44), (8, 2, 1)] with phase := .adminWait } (withSess (withRing
    { dataRing with st := .resetting, reset := some { cause := 1, admin := some 0, bufAddr := 64 } })), 0,
    by decide +kernel⟩⟩

theorem witness_SessionsComeAndGo :
    (∃ (q : ConnReq) (s : State),
      (s.acceptsConnection q = true)) ∧
    (∃ (q : ConnReq) (s : State),
      (s.acceptsConnection q = false) ∧ (s.onAir = true)) ∧
    (∃ (s : State),
      (s.power.step ≠ 12)) ∧
    (∃ (sid : Nat) (x : Session) (s : State),
      (s.session? sid = some x) ∧
      (let aged := x.limit ≠ 0 ∧ x.limit ≤ x.age
       (aged) ∧ (x.cls = .orphan))) ∧
    (∃ (sid : Nat) (x : Session) (s : State),
      (s.session? sid = some x) ∧
      (let aged := x.limit ≠ 0 ∧ x.limit ≤ x.age
       (¬aged ∨ x.cls ≠ .orphan))) ∧
    (∃ (sid : Nat) (x : Session) (s : State),
      (s.session? sid = some x) ∧
      (let aged := x.limit ≠ 0 ∧ x.limit ≤ x.age
       let paused := x.cls = .live ∧ (s.power.pstate = .p2 ∨ s.power.pstate = .p3)
       (aged) ∧ (¬paused))) ∧
    (∃ (sid : Nat) (x : Session) (s : State),
      (s.session? sid = some x) ∧
      (let aged := x.limit ≠ 0 ∧ x.limit ≤ x.age
       let paused := x.cls = .live ∧ (s.power.pstate = .p2 ∨ s.power.pstate = .p3)
       (¬aged ∨ paused))) ∧
    (∃ (sid : Nat) (x : Session) (s : State),
      (s.session? sid = some x) ∧ (x.role = 0)) ∧
    (∃ (sid : Nat) (x : Session) (s : State),
      (s.session? sid = some x) ∧ (x.role ≠ 0) ∧ (x.cls = .orphan)) ∧
    (∃ (sid : Nat) (x : Session) (s : State),
      (s.session? sid = some x) ∧
      (let e := (Instr.qpError sid, s)
       (x.role ≠ 0) ∧ (x.cls ≠ .orphan) ∧
       ((∀ d ∈ s.cmds.list, d.sid = sid → (e.2.holdSession sid).endsAtOrphan d = false)))) ∧
    (∃ (sid : Nat) (x : Session) (s : State),
      (s.session? sid = some x) ∧
      (let e := (Instr.invalidHostOperation sid, s.emit (.nak sid))
       (x.role ≠ 0) ∧ (x.cls ≠ .orphan) ∧
       ((∀ d ∈ s.cmds.list, d.sid = sid → (e.2.holdSession sid).endsAtOrphan d = false)))) :=
  ⟨⟨{ mtu := 4096, reliable := true, serviceId := 0x4B56, lport := 0, hostQpn := 2, service := false, addr := 0 },
    base, by decide +kernel⟩,
   ⟨{ mtu := 1024, reliable := true, serviceId := 0x4B56, lport := 0, hostQpn := 2, service := false, addr := 0 },
    base, by decide +kernel⟩,
   ⟨withPower { step := 11 }, by decide +kernel⟩,
   ⟨1, { sess with cls := .orphan, limit := 5, age := 5 }, withSess
    ({ sess with cls := .orphan, limit := 5, age := 5 }), by decide +kernel⟩,
   ⟨1, sess, base, by decide +kernel⟩,
   ⟨1, { sess with cls := .orphan, limit := 5, age := 5 }, withSess
    ({ sess with cls := .orphan, limit := 5, age := 5 }), by decide +kernel⟩,
   ⟨1, sess, base, by decide +kernel⟩,
   ⟨1, loginSess, withSess loginSess, by decide +kernel⟩,
   ⟨1, { sess with cls := .orphan }, withSess { sess with cls := .orphan }, by decide +kernel⟩,
   ⟨1, sess, base, by decide +kernel⟩,
   ⟨1, sess, base, by decide +kernel⟩⟩

theorem witness_RingsAreFetched :
    (∃ (sid : Nat) (ring : Nat) (p : BitVec 32) (r : Ring) (s : State),
      (s.ring? sid ring = some r) ∧ (r.st = .active) ∧ (r.reread = false) ∧ (s.polls sid = true) ∧
      ((p - r.fetch).toNat ≤ 2 ^ r.sqLog2) ∧ (s.fetching = true) ∧ (p ≠ r.fetch) ∧ (r.asked = 0) ∧ (r.ahead = []) ∧
      (s.sess.waits = []) ∧ (s.fetchPaused sid = false)) ∧
    (∃ (sid : Nat) (ring : Nat) (p : BitVec 32) (r : Ring) (s : State),
      (s.ring? sid ring = some r) ∧ (r.st = .active) ∧ (r.reread = false) ∧ (s.polls sid = true) ∧
      ((p - r.fetch).toNat ≤ 2 ^ r.sqLog2) ∧ (s.fetching = true) ∧ (p ≠ r.fetch) ∧ (r.asked = 0) ∧ (r.ahead = []) ∧
      (s.sess.waits = []) ∧ (s.fetchPaused sid = true)) ∧
    (∃ (sid : Nat) (ring : Nat) (p : BitVec 32) (r : Ring) (s : State),
      (s.ring? sid ring = some r) ∧ (r.st = .active) ∧ (r.reread = false) ∧ (s.polls sid = true) ∧
      (2 ^ r.sqLog2 < (p - r.fetch).toNat)) ∧
    (∃ (sid : Nat) (ring : Nat) (d : Bytes) (r : Ring) (x : Session) (s : State),
      (s.session? sid = some x) ∧ (x.ring? ring = some r) ∧ (r.st = .active) ∧ (s.polls sid = true) ∧
      (s.fetching = true) ∧ (0 < r.asked) ∧ (r.ahead = []) ∧ (r.fetch.toNat ∉ r.finished) ∧
      (r.decided.find? (·.count == r.fetch.toNat) = none) ∧ (s.mayTake sid d = true) ∧
      (s.cmd? s.cmds.nextRef = none) ∧ (s.sess.waits = [])) :=
  ⟨⟨1, 1, 16, dataRing, base, by decide +kernel⟩,
   ⟨1, 1, 16, dataRing, { base with cmds := { list := List.replicate 65536 { put with ref := 9 } } },
    by
      refine ⟨?_, ?_, ?_, ?_, ?_, ?_, ?_, ?_, ?_, ?_, by simp [-List.reduceReplicate, State.fetchPaused, put, data]⟩ <;> decide +kernel⟩,
   ⟨1, 1, 17, dataRing, base, by decide +kernel⟩,
   ⟨1, 1, kd opGet [(56, 4, 4)], { dataRing with producer := 1, asked := 1 }, withRing
    { dataRing with producer := 1, asked := 1 }, withSess (withRing { dataRing with producer := 1, asked := 1 }),
    by decide +kernel⟩⟩

theorem witness_IdleRingsAndEvents :
    (∃ (sid : Nat) (ring : Nat) (p : BitVec 32) (r : Ring) (x : Session) (s : State),
      (s.session? sid = some x) ∧ (x.cls = .live) ∧ (x.ring? ring = some r) ∧ (r.st = .active) ∧ (r.reread = true) ∧
      (r.polled = 0) ∧ (p = r.fetch)) ∧
    (∃ (sid : Nat) (ring : Nat) (p : BitVec 32) (r : Ring) (x : Session) (s : State),
      (s.session? sid = some x) ∧ (x.cls = .live) ∧ (x.ring? ring = some r) ∧ (r.st = .active) ∧ (r.reread = true) ∧
      (r.polled = 0) ∧ (p ≠ r.fetch) ∧ ((p - r.fetch).toNat ≤ 2 ^ r.sqLog2)) ∧
    (∃ (sid : Nat) (ring : Nat) (p : BitVec 32) (r : Ring) (x : Session) (s : State),
      (s.session? sid = some x) ∧ (x.cls = .live) ∧ (x.ring? ring = some r) ∧ (r.st = .idle) ∧ (p ≠ r.fetch) ∧
      ((p - r.fetch).toNat ≤ 2 ^ r.sqLog2) ∧ (s.power.pstate = .p0 ∨ s.power.pstate = .p1) ∧ (s.fetching = true)) ∧
    (∃ (sid : Nat) (ring : Nat) (p : BitVec 32) (imm : BitVec 32) (r : Ring) (x : Session) (s : State),
      (s.session? sid = some x) ∧ (x.cls = .live) ∧ (x.ring? ring = some r) ∧ (r.st = .idle) ∧ (p ≠ r.fetch) ∧
      ((p - r.fetch).toNat ≤ 2 ^ r.sqLog2) ∧ (nudgeType imm = 1) ∧ ((nudgeAll imm = false ∧
      nudgeIdx imm = ring) ∨ (nudgeAll imm = true ∧ (x.rings.filter fun r => decide (r.st = .idle)) = [r]))) ∧
    (∃ (sid : Nat) (ring : Nat) (imm : BitVec 32) (r : Ring) (x : Session) (s : State),
      (s.session? sid = some x) ∧ (x.cls = .live) ∧ (x.ring? ring = some r) ∧
      (nudgeType imm ≠ 1 ∨ (nudgeAll imm = false ∧ nudgeIdx imm = ring ∧ r.st ≠ .idle))) ∧
    (∃ (sid : Nat) (ring : Nat) (r : Ring) (s : State),
      (s.ring? sid ring = some r) ∧ (r.eventDue = true) ∧ (s.polls sid = true) ∧ (r.event = 1)) ∧
    (∃ (sid : Nat) (ring : Nat) (r : Ring) (s : State),
      (s.ring? sid ring = some r) ∧ (r.eventDue = true) ∧ (s.polls sid = true) ∧ (r.event = 2)) :=
  ⟨⟨1, 1, 0, { dataRing with reread := true }, withRing ({ dataRing with reread := true }), withSess (withRing
    ({ dataRing with reread := true })), by decide +kernel⟩,
   ⟨1, 1, 16, { dataRing with reread := true }, withRing ({ dataRing with reread := true }), withSess (withRing
    ({ dataRing with reread := true })), by decide +kernel⟩,
   ⟨1, 1, 16, { dataRing with st := .idle }, withRing { dataRing with st := .idle }, withSess (withRing
    { dataRing with st := .idle }), by decide +kernel⟩,
   ⟨1, 1, 1, 0x10000001, { dataRing with st := .idle }, withRing { dataRing with st := .idle }, withSess (withRing
    { dataRing with st := .idle }), by decide +kernel⟩,
   ⟨1, 1, 0, dataRing, sess, base, by decide +kernel⟩,
   ⟨1, 1, { dataRing with eventDue := true, event := 1 }, withSess (withRing
    { dataRing with eventDue := true, event := 1 }), by decide +kernel⟩,
   ⟨1, 1, { dataRing with eventDue := true, event := 2 }, withSess (withRing
    { dataRing with eventDue := true, event := 2 }), by decide +kernel⟩⟩

theorem witness_NamespacesAreMadeAndDeleted :
    (∃ (s : State),
      ((∀ k ∈ s.ns, k.gone = false))) ∧
    (∃ (ref : Nat) (c : Cmd) (s : State),
      (s.Ready ref c (isOp 0x48)) ∧ (s.reapNamespaces.nsCreateRefusal c = none)) ∧
    (∃ (ref : Nat) (c : Cmd) (n : Namespace) (s : State),
      (s.namespace? (dNsid c.desc) = some n) ∧ (n.gone = false) ∧ (s.Ready ref c (isOp 0x49)) ∧
      (s.mayAdminister c (dNsid c.desc) = true) ∧ (npFixity c.desc ≠ 3) ∧ (s.pair.change = none) ∧
      (s.forwards = false)) ∧
    (∃ (ref : Nat) (c : Cmd) (n : Namespace) (s : State),
      (s.namespace? (dNsid c.desc) = some n) ∧ (n.gone = false) ∧ (s.Ready ref c (isOp 0x49)) ∧
      (s.mayAdminister c (dNsid c.desc) = true) ∧ (npFixity c.desc ≠ 3) ∧ (s.pair.change = none) ∧
      (s.forwards = true)) ∧
    (∃ (ref : Nat) (c : Cmd) (n : Namespace) (s : State),
      (s.namespace? (dNsid c.desc) = some n) ∧ (n.gone = false) ∧ (s.Ready ref c (isOp 0x4B)) ∧
      (s.mayQuery c (dNsid c.desc) = true) ∧ (s.isOrphan c.sid = false) ∧ (s.session? c.sid ≠ none)) ∧
    (∃ (ref : Nat) (c : Cmd) (n : Namespace) (s : State),
      (s.Ready ref c (isOp 0x4A)) ∧ (s.Settled) ∧ (s.pair.change = none) ∧ (s.namespace? (dNsid c.desc) = some n) ∧
      ((∀ d ∈ s.cmds.list, d.inNamespace (dNsid c.desc) = false)) ∧ (c.decided = false) ∧ (n.gone = false) ∧
      (s.deleting (dNsid c.desc) = false) ∧ (s.mayAdminister c (dNsid c.desc) = true)) ∧
    (∃ (ref : Nat) (c : Cmd) (n : Namespace) (s : State),
      (s.Ready ref c (isOp 0x4A)) ∧ (s.Settled) ∧ (s.pair.change = none) ∧ (s.namespace? (dNsid c.desc) = some n) ∧
      ((∀ d ∈ s.cmds.list, d.inNamespace (dNsid c.desc) = false)) ∧ (c.decided = true) ∧ (n.gone = false) ∧
      (s.forwards = true)) ∧
    (∃ (ref : Nat) (c : Cmd) (n : Namespace) (s : State),
      (s.Ready ref c (isOp 0x4A)) ∧ (s.Settled) ∧ (s.pair.change = none) ∧ (s.namespace? (dNsid c.desc) = some n) ∧
      ((∀ d ∈ s.cmds.list, d.inNamespace (dNsid c.desc) = false)) ∧ (c.decided = true) ∧ (n.gone = false) ∧
      (s.forwards = false)) ∧
    (∃ (ref : Nat) (c : Cmd) (n : Namespace) (s : State),
      (s.Ready ref c (isOp 0x4A)) ∧ (s.Settled) ∧ (s.pair.change = none) ∧ (s.namespace? (dNsid c.desc) = some n) ∧
      ((∀ d ∈ s.cmds.list, d.inNamespace (dNsid c.desc) = false)) ∧ (c.decided = true) ∧ (n.gone = true)) :=
  ⟨⟨base, by decide +kernel⟩,
   ⟨0, adm [(0, 1, 0x48), (6, 2, 4), (24, 1, 1), (26, 2, 1)], withCmd (adm [(0, 1, 0x48), (6, 2, 4), (24, 1, 1), (26,
    2, 1)]), by decide +kernel⟩,
   ⟨0, adm [(0, 1, 0x49), (6, 2, 3), (8, 8, 99), (28, 4, 1)], nsA, withCmd (adm [(0, 1, 0x49), (6, 2, 3), (8, 8, 99),
    (28, 4, 1)]), by decide +kernel⟩,
   ⟨0, adm [(0, 1, 0x49), (6, 2, 3), (8, 8, 99), (28, 4, 1)], nsA, withCmd (adm [(0, 1, 0x49), (6, 2, 3), (8, 8, 99),
    (28, 4, 1)]) (paired .primary { inStep := true } (base)), by decide +kernel⟩,
   ⟨0, adm [(0, 1, 0x4B), (6, 2, 3)], nsA, withCmd (adm [(0, 1, 0x4B), (6, 2, 3)]), by decide +kernel⟩,
   ⟨0, adm [(0, 1, 0x4A), (6, 2, 3)], nsA, withCmd (adm [(0, 1, 0x4A), (6, 2, 3)])
    ({ stored with kv := { stored.kv with objects := [obj9] } }), by decide +kernel⟩,
   ⟨0, { adm [(0, 1, 0x4A), (6, 2, 3)] with decided := true }, nsA, withCmd
    ({ adm [(0, 1, 0x4A), (6, 2, 3)] with decided := true }) (paired .primary { inStep := true } (stored)),
    by decide +kernel⟩,
   ⟨0, { adm [(0, 1, 0x4A), (6, 2, 3)] with decided := true }, nsA, withCmd
    ({ adm [(0, 1, 0x4A), (6, 2, 3)] with decided := true }) (stored), by decide +kernel⟩,
   ⟨0, { adm [(0, 1, 0x4A), (6, 2, 3)] with decided := true, acc := 1 }, { nsA with gone := true }, withCmd
    ({ adm [(0, 1, 0x4A), (6, 2, 3)] with decided := true, acc := 1 })
    ({ base with ns := [{ nsA with gone := true }] }), by decide +kernel⟩⟩

theorem witness_CredentialsAndRulesAreKept :
    (∃ (ref : Nat) (c : Cmd) (bs : Bytes) (secret : Bytes) (s : State),
      (keyUnwrap (s.wrapKey c "PX-WRAP") (fit 40 bs) = some secret) ∧ (s.Ready ref c (isAdm 0x4C 1)) ∧
      (cpCred c.desc ≠ 0) ∧ (cpRole c.desc ≠ 0) ∧ (s.isCustodian c = true ∨ cpRole c.desc = 3) ∧
      (s.credential? (cpCred c.desc) = none) ∧ (s.creds.list.length < 16384) ∧ (s.pair.change = none) ∧
      (s.forwards = false)) ∧
    (∃ (ref : Nat) (c : Cmd) (bs : Bytes) (secret : Bytes) (s : State),
      (keyUnwrap (s.wrapKey c "PX-WRAP") (fit 40 bs) = some secret) ∧ (s.Ready ref c (isAdm 0x4C 1)) ∧
      (cpCred c.desc ≠ 0) ∧ (cpRole c.desc ≠ 0) ∧ (s.isCustodian c = true ∨ cpRole c.desc = 3) ∧
      (s.credential? (cpCred c.desc) = none) ∧ (s.creds.list.length < 16384) ∧ (s.pair.change = none) ∧
      (s.forwards = true)) ∧
    (∃ (ref : Nat) (c : Cmd) (k : Credential) (bs : Bytes) (secret : Bytes) (s : State),
      (s.credential? (cpCred c.desc) = some k) ∧ (keyUnwrap (s.wrapKey c "PX-WRAP") (fit 40 bs) = some secret) ∧
      (s.Ready ref c (isAdm 0x4C 2)) ∧ (s.mayChange c k = true) ∧ (s.pair.change = none) ∧ (s.forwards = false)) ∧
    (∃ (ref : Nat) (c : Cmd) (k : Credential) (bs : Bytes) (secret : Bytes) (s : State),
      (s.credential? (cpCred c.desc) = some k) ∧ (keyUnwrap (s.wrapKey c "PX-WRAP") (fit 40 bs) = some secret) ∧
      (s.Ready ref c (isAdm 0x4C 2)) ∧ (s.mayChange c k = true) ∧ (s.pair.change = none) ∧ (s.forwards = true)) ∧
    (∃ (ref : Nat) (c : Cmd) (k : Credential) (s : State),
      (s.credential? (cpCred c.desc) = some k) ∧ (s.Ready ref c (isAdm 0x4C 5)) ∧ (s.mayChange c k = true) ∧
      (s.pair.change = none) ∧ (s.forwards = false) ∧
      ((k.role = 1 → (s.creds.list.filter (·.role == 1)).length ≠ 1))) ∧
    (∃ (ref : Nat) (c : Cmd) (k : Credential) (s : State),
      (s.credential? (cpCred c.desc) = some k) ∧ (s.Ready ref c (isAdm 0x4C 5)) ∧ (s.mayChange c k = true) ∧
      (s.pair.change = none) ∧ (s.forwards = true) ∧ ((k.role = 1 → (s.creds.list.filter (·.role == 1)).length ≠ 1))) ∧
    (∃ (ref : Nat) (c : Cmd) (k : Credential) (s : State),
      (s.grantee c = .inl k) ∧ (s.Ready ref c (isAdm 0x4C 3)) ∧ (s.nsExists (cpNsid c.desc) = true) ∧
      (cpNsid c.desc ∉ k.grants) ∧ (k.grants.length < 4096) ∧ (s.pair.change = none) ∧ (s.forwards = false)) ∧
    (∃ (ref : Nat) (c : Cmd) (k : Credential) (s : State),
      (s.grantee c = .inl k) ∧ (s.Ready ref c (isAdm 0x4C 3)) ∧ (s.nsExists (cpNsid c.desc) = true) ∧
      (cpNsid c.desc ∉ k.grants) ∧ (k.grants.length < 4096) ∧ (s.pair.change = none) ∧ (s.forwards = true)) ∧
    (∃ (ref : Nat) (c : Cmd) (k : Credential) (s : State),
      (s.grantee c = .inl k) ∧ (s.Ready ref c (isAdm 0x4C 4)) ∧ (cpNsid c.desc ∈ k.grants) ∧
      (s.pair.change = none) ∧ (s.forwards = false)) ∧
    (∃ (ref : Nat) (c : Cmd) (k : Credential) (s : State),
      (s.grantee c = .inl k) ∧ (s.Ready ref c (isAdm 0x4C 4)) ∧ (cpNsid c.desc ∈ k.grants) ∧
      (s.pair.change = none) ∧ (s.forwards = true)) ∧
    (∃ (ref : Nat) (c : Cmd) (bs : Bytes) (secret : Bytes) (s : State),
      (keyUnwrap (s.wrapKey c "PX-WRAP") (fit 40 bs) = some secret) ∧ (s.Ready ref c (isAdm 0x4C 6)) ∧
      (cpCred c.desc ≠ 0) ∧ (s.isCustodian c = true) ∧ (s.creds.outbound.length < 256) ∧ (s.pair.change = none) ∧
      (s.forwards = false)) ∧
    (∃ (ref : Nat) (c : Cmd) (bs : Bytes) (secret : Bytes) (s : State),
      (keyUnwrap (s.wrapKey c "PX-WRAP") (fit 40 bs) = some secret) ∧ (s.Ready ref c (isAdm 0x4C 6)) ∧
      (cpCred c.desc ≠ 0) ∧ (s.isCustodian c = true) ∧ (s.creds.outbound.length < 256) ∧ (s.pair.change = none) ∧
      (s.forwards = true)) ∧
    (∃ (ref : Nat) (c : Cmd) (s : State),
      (s.Ready ref c (isAdm 0x4C 7)) ∧ (s.isCustodian c = true) ∧
      ((assoc (cpCred c.desc) s.creds.outbound).isSome = true) ∧ (s.pair.change = none) ∧ (s.forwards = false)) ∧
    (∃ (ref : Nat) (c : Cmd) (s : State),
      (s.Ready ref c (isAdm 0x4C 7)) ∧ (s.isCustodian c = true) ∧
      ((assoc (cpCred c.desc) s.creds.outbound).isSome = true) ∧ (s.pair.change = none) ∧ (s.forwards = true)) ∧
    (∃ (ref : Nat) (c : Cmd) (s : State),
      (s.isCustodian c = true) ∧ (s.Ready ref c (isAdm 0x4D 1)) ∧ (upLen c.desc ≤ 16) ∧
      (s.nsExists (dNsid c.desc) = true) ∧ (s.asu.rules.length < 4096) ∧ (s.pair.change = none) ∧
      (s.forwards = false)) ∧
    (∃ (ref : Nat) (c : Cmd) (s : State),
      (s.isCustodian c = true) ∧ (s.Ready ref c (isAdm 0x4D 1)) ∧ (upLen c.desc ≤ 16) ∧
      (s.nsExists (dNsid c.desc) = true) ∧ (s.asu.rules.length < 4096) ∧ (s.pair.change = none) ∧
      (s.forwards = true)) ∧
    (∃ (ref : Nat) (c : Cmd) (r : Rule) (s : State),
      (s.isCustodian c = true) ∧ (s.Ready ref c (isAdm 0x4D 2)) ∧
      (s.asu.rules.find? (·.idx == upRow c.desc) = some r) ∧ (s.pair.change = none) ∧ (s.forwards = false)) ∧
    (∃ (ref : Nat) (c : Cmd) (r : Rule) (s : State),
      (s.isCustodian c = true) ∧ (s.Ready ref c (isAdm 0x4D 2)) ∧
      (s.asu.rules.find? (·.idx == upRow c.desc) = some r) ∧ (s.pair.change = none) ∧ (s.forwards = true)) ∧
    (∃ (ref : Nat) (role : Nat) (ops : Nat) (c : Cmd) (s : State),
      (s.isCustodian c = true) ∧ (s.Ready ref c (isAdm 0x4D 3)) ∧ (oneBit 3 (upRoles c.desc) = some role) ∧
      (oneBit 8 (upOps c.desc) = some ops) ∧ (upLen c.desc ≤ 16) ∧ (s.nsExists (dNsid c.desc) = true) ∧
      (s.isOrphan c.sid = false) ∧ (s.session? c.sid ≠ none)) :=
  ⟨⟨0, adm [(0, 1, 0x4C), (8, 1, 1), (9, 1, 2), (12, 4, 6)], wrapped, secret2, withCmd (adm [(0, 1, 0x4C), (8, 1, 1),
    (9, 1, 2), (12, 4, 6)]), by decide +kernel⟩,
   ⟨0, adm [(0, 1, 0x4C), (8, 1, 1), (9, 1, 2), (12, 4, 6)], wrapped, secret2, withCmd (adm [(0, 1, 0x4C), (8, 1, 1),
    (9, 1, 2), (12, 4, 6)]) (paired .primary { inStep := true } (base)), by decide +kernel⟩,
   ⟨0, adm [(0, 1, 0x4C), (8, 1, 2), (12, 4, 6)], curator, wrapped, secret2, withCmd (adm [(0, 1, 0x4C), (8, 1, 2),
    (12, 4, 6)]) ({ base with creds := { list := [custodian, curator], outbound := [(6, [])] } }),
    by decide +kernel⟩,
   ⟨0, adm [(0, 1, 0x4C), (8, 1, 2), (12, 4, 6)], curator, wrapped, secret2, withCmd (adm [(0, 1, 0x4C), (8, 1, 2),
    (12, 4, 6)]) (paired .primary { inStep := true }
    ({ base with creds := { list := [custodian, curator], outbound := [(6, [])] } })), by decide +kernel⟩,
   ⟨0, adm [(0, 1, 0x4C), (8, 1, 5), (12, 4, 6)], curator, withCmd (adm [(0, 1, 0x4C), (8, 1, 5), (12, 4, 6)])
    ({ base with creds := { list := [custodian, curator], outbound := [(6, [])] } }), by decide +kernel⟩,
   ⟨0, adm [(0, 1, 0x4C), (8, 1, 5), (12, 4, 6)], curator, withCmd (adm [(0, 1, 0x4C), (8, 1, 5), (12, 4, 6)]) (paired
    .primary { inStep := true } ({ base with creds := { list := [custodian, curator], outbound := [(6, [])] } })),
    by decide +kernel⟩,
   ⟨0, adm [(0, 1, 0x4C), (8, 1, 3), (10, 2, 3), (12, 4, 6)], curator, withCmd (adm [(0, 1, 0x4C), (8, 1, 3), (10, 2,
    3), (12, 4, 6)]) ({ base with creds := { list := [custodian, curator], outbound := [(6, [])] } }),
    by decide +kernel⟩,
   ⟨0, adm [(0, 1, 0x4C), (8, 1, 3), (10, 2, 3), (12, 4, 6)], curator, withCmd (adm [(0, 1, 0x4C), (8, 1, 3), (10, 2,
    3), (12, 4, 6)]) (paired .primary { inStep := true }
    ({ base with creds := { list := [custodian, curator], outbound := [(6, [])] } })), by decide +kernel⟩,
   ⟨0, adm [(0, 1, 0x4C), (8, 1, 4), (10, 2, 3), (12, 4, 6)], { curator with grants := [3] }, withCmd (adm [(0, 1,
    0x4C), (8, 1, 4), (10, 2, 3), (12, 4, 6)])
    ({ base with creds := { list := [custodian, { curator with grants := [3] }] } }), by decide +kernel⟩,
   ⟨0, adm [(0, 1, 0x4C), (8, 1, 4), (10, 2, 3), (12, 4, 6)], { curator with grants := [3] }, withCmd (adm [(0, 1,
    0x4C), (8, 1, 4), (10, 2, 3), (12, 4, 6)]) (paired .primary { inStep := true }
    ({ base with creds := { list := [custodian, { curator with grants := [3] }] } })), by decide +kernel⟩,
   ⟨0, adm [(0, 1, 0x4C), (8, 1, 6), (12, 4, 6)], wrapped, secret2, withCmd (adm [(0, 1, 0x4C), (8, 1, 6), (12, 4,
    6)]), by decide +kernel⟩,
   ⟨0, adm [(0, 1, 0x4C), (8, 1, 6), (12, 4, 6)], wrapped, secret2, withCmd (adm [(0, 1, 0x4C), (8, 1, 6), (12, 4,
    6)]) (paired .primary { inStep := true } (base)), by decide +kernel⟩,
   ⟨0, adm [(0, 1, 0x4C), (8, 1, 7), (12, 4, 6)], withCmd (adm [(0, 1, 0x4C), (8, 1, 7), (12, 4, 6)])
    ({ base with creds := { list := [custodian, curator], outbound := [(6, [])] } }), by decide +kernel⟩,
   ⟨0, adm [(0, 1, 0x4C), (8, 1, 7), (12, 4, 6)], withCmd (adm [(0, 1, 0x4C), (8, 1, 7), (12, 4, 6)]) (paired .primary
    { inStep := true } ({ base with creds := { list := [custodian, curator], outbound := [(6, [])] } })),
    by decide +kernel⟩,
   ⟨0, adm [(0, 1, 0x4D), (8, 1, 1), (6, 2, 3), (32, 1, 16)], withCmd (adm [(0, 1, 0x4D), (8, 1, 1), (6, 2, 3), (32,
    1, 16)]), by decide +kernel⟩,
   ⟨0, adm [(0, 1, 0x4D), (8, 1, 1), (6, 2, 3), (32, 1, 16)], withCmd (adm [(0, 1, 0x4D), (8, 1, 1), (6, 2, 3), (32,
    1, 16)]) (paired .primary { inStep := true } (base)), by decide +kernel⟩,
   ⟨0, adm [(0, 1, 0x4D), (8, 1, 2)], ruleAll, withCmd (adm [(0, 1, 0x4D), (8, 1, 2)]), by decide +kernel⟩,
   ⟨0, adm [(0, 1, 0x4D), (8, 1, 2)], ruleAll, withCmd (adm [(0, 1, 0x4D), (8, 1, 2)]) (paired .primary
    { inStep := true } (base)), by decide +kernel⟩,
   ⟨0, 2, 7, adm [(0, 1, 0x4D), (8, 1, 3), (6, 2, 3), (33, 1, 4), (34, 1, 128)], withCmd (adm [(0, 1, 0x4D), (8, 1,
    3), (6, 2, 3), (33, 1, 4), (34, 1, 128)]), by decide +kernel⟩⟩

theorem witness_KeySlotsAndPrograms :
    (∃ (ref : Nat) (c : Cmd) (bs : Bytes) (root : Bytes) (s : State),
      (s.Ready ref c (isAdm 0x4E 1)) ∧ (keyUnwrap (s.wrapKey c "PX-SLOT") (fit 40 bs) = some root) ∧
      (s.importRefusal c.desc root = none)) ∧
    (∃ (ref : Nat) (c : Cmd) (s : State),
      (s.Ready ref c (isAdm 0x4E 2)) ∧ (s.slotUsers (kpSlot c.desc) = 0)) ∧
    (∃ (ref : Nat) (c : Cmd) (s : State),
      (s.Ready ref c (isAdm 0x4E 3)) ∧ (24 ≤ kpLimit c.desc) ∧ (kpLimit c.desc ≤ 40)) ∧
    (∃ (ref : Nat) (c : Cmd) (s : State),
      (s.Ready ref c (isAdm 0x4E 4)) ∧ (s.isOrphan c.sid = false) ∧ (s.session? c.sid ≠ none)) ∧
    (∃ (ref : Nat) (c : Cmd) (s : State),
      (s.Ready ref c isLoad) ∧ (loadOk c.desc = true)) ∧
    (∃ (ref : Nat) (c : Cmd) (s : State),
      (s.Ready ref c isUnload) ∧ (loadOk c.desc = true)) ∧
    (∃ (slot : Nat) (c : Cmd) (p : ProgSlot) (l : ProgLoad) (ls : List ProgLoad) (bs : Bytes) (s : State),
      (s.programs.find? (·.slot == slot) = some p) ∧ (p.queue = l :: ls) ∧ (s.cmd? l.ref = some c) ∧
      (c.phase = .adminWait) ∧ (s.modeOf (s.roleOf c.sid) 0x4F = none) ∧ (s.nsExists l.nsid = true) ∧
      (s.isCustodian c = true) ∧ (s.retainedUsed p = false) ∧ (l.unload = false) ∧ (imageOk (fit l.len bs) = true) ∧
      (s.pair.change = none) ∧ (s.forwards = true)) ∧
    (∃ (slot : Nat) (c : Cmd) (p : ProgSlot) (l : ProgLoad) (ls : List ProgLoad) (bs : Bytes) (s : State),
      (s.programs.find? (·.slot == slot) = some p) ∧ (p.queue = l :: ls) ∧ (s.cmd? l.ref = some c) ∧
      (c.phase = .adminWait) ∧ (s.modeOf (s.roleOf c.sid) 0x4F = none) ∧ (s.nsExists l.nsid = true) ∧
      (s.isCustodian c = true) ∧ (s.retainedUsed p = false) ∧ (l.unload = false) ∧ (imageOk (fit l.len bs) = true) ∧
      (s.pair.change = none) ∧ (s.forwards = false)) :=
  ⟨⟨0, { adm [] with desc := overwrite (mk [(0, 1, 0x4E), (8, 1, 1), (10, 2, 2)]) 24 (kcvOf secret2) }, wrappedRoot,
    secret2, withCmd
    ({ adm [] with desc := overwrite (mk [(0, 1, 0x4E), (8, 1, 1), (10, 2, 2)]) 24 (kcvOf secret2) }),
    by decide +kernel⟩,
   ⟨0, adm [(0, 1, 0x4E), (8, 1, 2), (10, 2, 2)], withCmd (adm [(0, 1, 0x4E), (8, 1, 2), (10, 2, 2)])
    ({ base with vault := { slots := [slot1, { slot1 with slot := 2 }] } }), by decide +kernel⟩,
   ⟨0, adm [(0, 1, 0x4E), (8, 1, 3), (9, 1, 24), (10, 2, 1)], withCmd (adm [(0, 1, 0x4E), (8, 1, 3), (9, 1, 24), (10,
    2, 1)]) ({ base with vault := { slots := [{ slot1 with used := 2 ^ 24 + 1 }] } }), by decide +kernel⟩,
   ⟨0, adm [(0, 1, 0x4E), (8, 1, 4), (10, 2, 1)], withCmd (adm [(0, 1, 0x4E), (8, 1, 4), (10, 2, 1)]),
    by decide +kernel⟩,
   ⟨0, adm [(0, 1, 0x4F), (24, 4, 98)], withCmd (adm [(0, 1, 0x4F), (24, 4, 98)]), by decide +kernel⟩,
   ⟨0, adm [(0, 1, 0x4F), (8, 1, 128)], withCmd (adm [(0, 1, 0x4F), (8, 1, 128)]), by decide +kernel⟩,
   ⟨0, { adm [(0, 1, 0x4F), (24, 4, 98)] with phase := .adminWait }, { slot := 0, queue := [load] }, load, [], image,
    withCmd ({ adm [(0, 1, 0x4F), (24, 4, 98)] with phase := .adminWait }) (paired .primary { inStep := true }
    (progs { slot := 0, queue := [load] } base)), by decide +kernel⟩,
   ⟨0, { adm [(0, 1, 0x4F), (24, 4, 98)] with phase := .adminWait }, { slot := 0, queue := [load] }, load, [], image,
    withCmd ({ adm [(0, 1, 0x4F), (24, 4, 98)] with phase := .adminWait }) (progs { slot := 0, queue := [load] }
    base), by decide +kernel⟩⟩

theorem witness_PairsFormAndDissolve :
    (∃ (ref : Nat) (c : Cmd) (q : PartnerInfo) (s : State),
      let fits := qpAddr c.desc % 8 = 0 ∧ s.linksUp ≠ [] ∧ q.joinPending = true ∧ q.version = 1 ∧
          s.kcvsMatch q = true
      (s.Ready ref c (isAdm 0x50 1)) ∧ (s.mode.mode = .solo) ∧ (fits)) ∧
    (∃ (ref : Nat) (c : Cmd) (q : PartnerInfo) (s : State),
      let fits := qpAddr c.desc % 8 = 0 ∧ s.linksUp ≠ [] ∧ q.joinPending = true ∧ q.version = 1 ∧
          s.kcvsMatch q = true
      (s.Ready ref c (isAdm 0x50 1)) ∧ (s.mode.mode = .solo) ∧ (¬fits)) ∧
    (∃ (ref : Nat) (c : Cmd) (s : State),
      (s.Ready ref c (isAdm 0x50 2)) ∧ (s.mode.mode = .solo) ∧ ((∀ n ∈ s.ns, n.gone = true))) ∧
    (∃ (ref : Nat) (c : Cmd) (s : State),
      (s.Ready ref c (isAdm 0x50 2)) ∧ (s.mode.mode = .solo) ∧ ((∃ n ∈ s.ns, n.gone = false))) ∧
    (∃ (ref : Nat) (c : Cmd) (s : State),
      (s.Ready ref c (isAdm 0x50 5)) ∧ (s.mode.mode = .primary) ∧ (s.pair.inStep = true) ∧ (qpAddr c.desc % 8 = 0)) ∧
    (∃ (ref : Nat) (c : Cmd) (s : State),
      (s.Ready ref c (isAdm 0x50 6)) ∧ (s.isOrphan c.sid = false) ∧ (s.session? c.sid ≠ none)) ∧
    (∃ (ref : Nat) (c : Cmd) (s : State),
      (s.Ready ref c (isAdm 0x50 3)) ∧ (s.mode.mode ∈ [.primary, .mirror, .eclipse]) ∧
      (s.pair.swapAnswer (qpEpoch c.desc) = .busy)) ∧
    (∃ (ref : Nat) (c : Cmd) (s : State),
      (s.Ready ref c (isAdm 0x50 3)) ∧ (s.mode.mode ∈ [.primary, .mirror, .eclipse]) ∧
      (s.pair.swapAnswer (qpEpoch c.desc) = .superseded)) ∧
    (∃ (ref : Nat) (c : Cmd) (s : State),
      (s.Ready ref c (isAdm 0x50 3)) ∧ (s.mode.mode ∈ [.primary, .mirror, .eclipse]) ∧
      (s.pair.swapAnswer (qpEpoch c.desc) = .refused)) ∧
    (∃ (ref : Nat) (c : Cmd) (cas : WitnessAnswer) (s : State),
      (s.Ready ref c (isAdm 0x50 3)) ∧ (s.mode.mode ∈ [.primary, .mirror, .eclipse]) ∧
      (s.pair.swapAnswer (qpEpoch c.desc) = .run) ∧ (s.mode.mode = .primary) ∧ (cas = .value s.pair.word)) ∧
    (∃ (ref : Nat) (c : Cmd) (s : State),
      (s.Ready ref c (isAdm 0x50 3)) ∧ (s.mode.mode ∈ [.primary, .mirror, .eclipse]) ∧
      (s.pair.swapAnswer (qpEpoch c.desc) = .run) ∧ (s.mode.mode ≠ .primary)) ∧
    (∃ (ref : Nat) (c : Cmd) (s : State),
      (s.Ready ref c (isDissolve false)) ∧ (s.mode.mode = .primary ∨ (s.mode.mode = .mirror ∧ s.pair.inStep = true))) ∧
    (∃ (ref : Nat) (c : Cmd) (s : State),
      (s.Ready ref c (isDissolve false)) ∧ (s.mode.mode = .eclipse ∨ (s.mode.mode = .mirror ∧
      s.pair.inStep = false))) ∧
    (∃ (ref : Nat) (c : Cmd) (s : State),
      (s.Ready ref c (isDissolve true)) ∧ (s.mode.mode = .mirror ∨ s.mode.mode = .eclipse) ∧ (s.linksUp = [])) ∧
    (∃ (ref : Nat) (c : Cmd) (s : State),
      (s.Ready ref c (isDissolve true)) ∧ (s.mode.mode = .primary)) :=
  ⟨⟨0, adm [(0, 1, 0x50), (8, 1, 1), (16, 8, 8)], partner, withCmd (adm [(0, 1, 0x50), (8, 1, 1), (16, 8, 8)]) (linked
    base), by decide +kernel⟩,
   ⟨0, adm [(0, 1, 0x50), (8, 1, 1), (16, 8, 8)], partner, withCmd (adm [(0, 1, 0x50), (8, 1, 1), (16, 8, 8)]),
    by decide +kernel⟩,
   ⟨0, adm [(0, 1, 0x50), (8, 1, 2)], withCmd (adm [(0, 1, 0x50), (8, 1, 2)]) ({ base with ns := [] }),
    by decide +kernel⟩,
   ⟨0, adm [(0, 1, 0x50), (8, 1, 2)], withCmd (adm [(0, 1, 0x50), (8, 1, 2)]), by decide +kernel⟩,
   ⟨0, adm [(0, 1, 0x50), (8, 1, 5)], withCmd (adm [(0, 1, 0x50), (8, 1, 5)]) (paired .primary { inStep := true }),
    by decide +kernel⟩,
   ⟨0, adm [(0, 1, 0x50), (8, 1, 6)], withCmd (adm [(0, 1, 0x50), (8, 1, 6)]), by decide +kernel⟩,
   ⟨0, adm [(0, 1, 0x50), (8, 1, 3), (24, 4, 1)], withCmd (adm [(0, 1, 0x50), (8, 1, 3), (24, 4, 1)]) (paired .primary
    { epoch := 1 }), by decide +kernel⟩,
   ⟨0, adm [(0, 1, 0x50), (8, 1, 3), (24, 4, 1)], withCmd (adm [(0, 1, 0x50), (8, 1, 3), (24, 4, 1)]) (paired .primary
    { inStep := true, epoch := 2, lastSwap := some 1 }), by decide +kernel⟩,
   ⟨0, adm [(0, 1, 0x50), (8, 1, 3), (24, 4, 1)], withCmd (adm [(0, 1, 0x50), (8, 1, 3), (24, 4, 1)]) (paired .primary
    { inStep := true, epoch := 3, lastSwap := some 2 }), by decide +kernel⟩,
   ⟨0, adm [(0, 1, 0x50), (8, 1, 3), (24, 4, 1)], .value (witness 1 true 0 1), withCmd (adm [(0, 1, 0x50), (8, 1, 3),
    (24, 4, 1)]) (paired .primary { inStep := true, epoch := 1, word := witness 1 true 0 1 }), by decide +kernel⟩,
   ⟨0, adm [(0, 1, 0x50), (8, 1, 3), (24, 4, 1)], withCmd (adm [(0, 1, 0x50), (8, 1, 3), (24, 4, 1)]) (paired .mirror
    { inStep := true, epoch := 1, word := witness 1 true 0 1 }), by decide +kernel⟩,
   ⟨0, adm [(0, 1, 0x50), (8, 1, 4)], withCmd (adm [(0, 1, 0x50), (8, 1, 4)]) (paired .primary), by decide +kernel⟩,
   ⟨0, adm [(0, 1, 0x50), (8, 1, 4)], withCmd (adm [(0, 1, 0x50), (8, 1, 4)]) (paired .mirror), by decide +kernel⟩,
   ⟨0, adm [(0, 1, 0x50), (8, 1, 4), (9, 1, 1)], withCmd (adm [(0, 1, 0x50), (8, 1, 4), (9, 1, 1)]) (paired .mirror),
    by decide +kernel⟩,
   ⟨0, adm [(0, 1, 0x50), (8, 1, 4), (9, 1, 1)], withCmd (adm [(0, 1, 0x50), (8, 1, 4), (9, 1, 1)]) (paired .primary),
    by decide +kernel⟩⟩

theorem witness_RangeMapChangesWhole :
    (∃ (ref : Nat) (c : Cmd) (s : State),
      (s.pair.change = none) ∧ (s.Ready ref c (isAdm 0x51 1)) ∧ (c.decided = false) ∧ (1 ≤ mpCount c.desc) ∧
      (mpCount c.desc ≤ 1024) ∧ (mpAddr c.desc % 8 = 0) ∧
      (mpExpected c.desc ≠ s.asu.epoch ∨ mpNew c.desc ≤ mpExpected c.desc)) ∧
    (∃ (ref : Nat) (c : Cmd) (bs : Bytes) (s : State) (k : Comp),
      let list := fit (48 * mpCount c.desc) bs
      (s.pair.change = none) ∧ (s.Ready ref c (isAdm 0x51 1)) ∧ (c.decided = false) ∧ (1 ≤ mpCount c.desc) ∧
      (mpCount c.desc ≤ 1024) ∧ (mpAddr c.desc % 8 = 0) ∧ (mpExpected c.desc = s.asu.epoch) ∧
      (mpExpected c.desc < mpNew c.desc) ∧ (applyList s.asu.ranges (chunks 48 (mpCount c.desc) list) = .inr k)) ∧
    (∃ (ref : Nat) (c : Cmd) (bs : Bytes) (s : State) (rows : List RangeRow),
      let list := fit (48 * mpCount c.desc) bs
      (s.pair.change = none) ∧ (s.Ready ref c (isAdm 0x51 1)) ∧ (c.decided = false) ∧ (1 ≤ mpCount c.desc) ∧
      (mpCount c.desc ≤ 1024) ∧ (mpAddr c.desc % 8 = 0) ∧ (mpExpected c.desc = s.asu.epoch) ∧
      (mpExpected c.desc < mpNew c.desc) ∧ (applyList s.asu.ranges (chunks 48 (mpCount c.desc) list) = .inl rows) ∧
      (s.forwards = true)) ∧
    (∃ (ref : Nat) (c : Cmd) (bs : Bytes) (s : State) (rows : List RangeRow),
      let list := fit (48 * mpCount c.desc) bs
      let busy := (s.passed ref).admittedBefore s.cmds.nextRef (listNamespaces (chunks 48 (mpCount c.desc) list))
      (s.pair.change = none) ∧ (s.Ready ref c (isAdm 0x51 1)) ∧ (c.decided = false) ∧ (1 ≤ mpCount c.desc) ∧
      (mpCount c.desc ≤ 1024) ∧ (mpAddr c.desc % 8 = 0) ∧ (mpExpected c.desc = s.asu.epoch) ∧
      (mpExpected c.desc < mpNew c.desc) ∧ (applyList s.asu.ranges (chunks 48 (mpCount c.desc) list) = .inl rows) ∧
      (s.forwards = false) ∧ (busy = false)) ∧
    (∃ (ref : Nat) (c : Cmd) (bs : Bytes) (s : State) (rows : List RangeRow),
      let list := fit (48 * mpCount c.desc) bs
      let busy := (s.passed ref).admittedBefore s.cmds.nextRef (listNamespaces (chunks 48 (mpCount c.desc) list))
      (s.pair.change = none) ∧ (s.Ready ref c (isAdm 0x51 1)) ∧ (c.decided = false) ∧ (1 ≤ mpCount c.desc) ∧
      (mpCount c.desc ≤ 1024) ∧ (mpAddr c.desc % 8 = 0) ∧ (mpExpected c.desc = s.asu.epoch) ∧
      (mpExpected c.desc < mpNew c.desc) ∧ (applyList s.asu.ranges (chunks 48 (mpCount c.desc) list) = .inl rows) ∧
      (s.forwards = false) ∧ (busy = true)) ∧
    (∃ (ref : Nat) (c : Cmd) (s : State),
      (s.pair.change = none) ∧ (s.Ready ref c (isAdm 0x51 1)) ∧ (c.decided = true) ∧
      ((s.passed ref).admittedBefore c.acc (listNamespaces (chunks 48 (c.block.length / 48) c.block)) = false)) ∧
    (∃ (ref : Nat) (c : Cmd) (s : State),
      (s.Ready ref c (isAdm 0x51 2)) ∧ (s.isOrphan c.sid = false) ∧ (s.session? c.sid ≠ none)) :=
  ⟨⟨0, adm [(0, 1, 0x51), (8, 1, 1), (10, 2, 1)], withCmd (adm [(0, 1, 0x51), (8, 1, 1), (10, 2, 1)]),
    by decide +kernel⟩,
   ⟨0, adm [(0, 1, 0x51), (8, 1, 1), (10, 2, 1), (28, 4, 1)], zeros 48, withCmd (adm [(0, 1, 0x51), (8, 1, 1), (10, 2,
    1), (28, 4, 1)]), Comp.denied 7, by decide +kernel⟩,
   ⟨0, adm [(0, 1, 0x51), (8, 1, 1), (10, 2, 1), (28, 4, 1)], overwrite (zeros 48) 0 [1], withCmd (adm [(0, 1, 0x51),
    (8, 1, 1), (10, 2, 1), (28, 4, 1)]) (paired .primary { inStep := true } (base)), [{ nsid := 0 }],
    by decide +kernel⟩,
   ⟨0, adm [(0, 1, 0x51), (8, 1, 1), (10, 2, 1), (28, 4, 1)], overwrite (zeros 48) 0 [1], withCmd (adm [(0, 1, 0x51),
    (8, 1, 1), (10, 2, 1), (28, 4, 1)]), [{ nsid := 0 }], by decide +kernel⟩,
   ⟨0, adm [(0, 1, 0x51), (8, 1, 1), (10, 2, 1), (28, 4, 1)], overwrite (zeros 48) 0 [1, 0, 3],
    { base with cmds := { list := [{ put with ref := 1 }, adm [(0, 1, 0x51), (8, 1, 1), (10, 2, 1), (28, 4, 1)]], nextRef := 2 } },
    [{ nsid := 3 }], by decide +kernel⟩,
   ⟨0,
    { adm [(0, 1, 0x51), (8, 1, 1), (10, 2, 1), (28, 4, 1)] with decided := true, block := overwrite (zeros 48) 0 [1, 0, 3], acc := 1 },
    withCmd
    ({ adm [(0, 1, 0x51), (8, 1, 1), (10, 2, 1), (28, 4, 1)] with decided := true, block := overwrite (zeros 48) 0 [1, 0, 3], acc := 1 }),
    by decide +kernel⟩,
   ⟨0, adm [(0, 1, 0x51), (8, 1, 2)], withCmd (adm [(0, 1, 0x51), (8, 1, 2)]), by decide +kernel⟩⟩

theorem witness_PairLinksAreWatched :
    (∃ (s : State),
      (s.pair.paired = true)) ∧
    (∃ (s : State),
      (s.pair.paired = false)) ∧
    (∃ (link : Nat) (l : PairLink) (f : PairFrame) (s : State),
      (s.link? link = some l) ∧ (s.pair.paired = true ∧ s.frameFits f = true ∧ l.up = true)) ∧
    (∃ (link : Nat) (l : PairLink) (f : PairFrame) (s : State),
      (s.link? link = some l) ∧ (¬(s.pair.paired = true ∧ s.frameFits f = true ∧ l.up = true))) ∧
    (∃ (link : Nat) (l : PairLink) (s : State),
      (s.link? link = some l) ∧ (l.up = true)) ∧
    (∃ (link : Nat) (l : PairLink) (s : State),
      (s.link? link = some l) ∧ (l.up = false)) ∧
    (∃ (s : State),
      (s.shorted pinAliveIn = false)) ∧
    (∃ (s : State),
      (s.shorted pinAliveIn = true)) ∧
    (∃ (link : Nat) (l : PairLink) (s : State),
      (s.link? link = some l) ∧ (l.trained = false)) ∧
    (∃ (link : Nat) (far : Nat) (l : PairLink) (f : PairFrame) (serial : Bytes) (s : State),
      (s.link? link = some l) ∧
      (let fits := far = link ∧ f.version = 1 ∧ (s.pair.paired = true → s.frameFits f = true ∧
          s.pair.partnerSerial = serial)
       (l.trained = true) ∧ (s.joinFits f = false) ∧ (fits))) ∧
    (∃ (link : Nat) (far : Nat) (l : PairLink) (f : PairFrame) (serial : Bytes) (s : State),
      (s.link? link = some l) ∧
      (let fits := far = link ∧ f.version = 1 ∧ (s.pair.paired = true → s.frameFits f = true ∧
          s.pair.partnerSerial = serial)
       (l.trained = true) ∧ (far ≠ link ∨ (s.joinFits f = false ∧ ¬fits)))) ∧
    (∃ (link : Nat) (far : Nat) (l : PairLink) (f : PairFrame) (s : State),
      (s.link? link = some l) ∧ (l.trained = true) ∧ (far = link) ∧ (s.joinFits f = true)) :=
  ⟨⟨linked (paired .mirror), by decide +kernel⟩,
   ⟨linked { base with pair := { joinUntil := some 5 } }, by decide +kernel⟩,
   ⟨0, linkOn, frame, linked (paired .mirror), by decide +kernel⟩,
   ⟨0, linkOn, { frame with member := 0, role := 1 }, linked { base with pair := { joinUntil := some 5 } },
    by decide +kernel⟩,
   ⟨0, linkOn, linked (paired .mirror), by decide +kernel⟩,
   ⟨0, { linkOn with up := false },
    { paired .mirror with ports := { base.ports with links := { linkOn with up := false } :: List.replicate 7 {} } },
    by decide +kernel⟩,
   ⟨linked (paired .mirror), by decide +kernel⟩,
   ⟨{ paired .mirror with pins := { base.pins with short := BitVec.allOnes _ } }, by decide +kernel⟩,
   ⟨0, { trained := false, up := false },
    { paired .mirror with ports := { base.ports with links := { trained := false, up := false } :: List.replicate 7 {} } },
    by decide +kernel⟩,
   ⟨0, 0, linkOn, frame, List.replicate 16 0, linked (paired .mirror), by decide +kernel⟩,
   ⟨0, 0, linkOn, frame, [], linked (paired .mirror), by decide +kernel⟩,
   ⟨0, 0, linkOn, { frame with member := 0, role := 1 }, linked { base with pair := { joinUntil := some 5 } },
    by decide +kernel⟩⟩

theorem witness_MirrorTakesOver :
    (∃ (w : Nat) (s : State),
      (s.pair.paired = true) ∧ (s.mode.mode = .mirror) ∧ (s.pair.maySwap w = true) ∧ (s.partnerSilent = true) ∧
      (s.pair.wait = .idle)) ∧
    (∃ (w : Nat) (v : Nat) (s : State),
      (s.pair.paired = true) ∧ (s.mode.mode = .mirror) ∧ (s.pair.maySwap w = true) ∧ (s.partnerSilent = true) ∧
      (s.pair.wait = .waiting v) ∧ (v ≠ w)) ∧
    (∃ (w : Nat) (v : Nat) (s : State),
      (s.pair.paired = true) ∧ (s.mode.mode = .mirror) ∧ (s.pair.maySwap w = true) ∧ (s.partnerSilent = true) ∧
      (s.pair.wait = .waiting w) ∧ (v ≠ w)) ∧
    (∃ (s : State),
      (s.pair.paired = true) ∧ (s.mode.mode ≠ .mirror)) ∧
    (∃ (s : State),
      (s.pair.paired = false)) ∧
    (∃ (s : State),
      (s.pair.paired = false ∨ s.mode.mode ≠ .mirror ∨ s.partnerSilent = false)) ∧
    (∃ (w : Nat) (s : State),
      (s.pair.paired = true) ∧ (s.mode.mode = .mirror) ∧ (s.pair.maySwap w = false) ∧ (s.partnerSilent = true)) :=
  ⟨⟨witness 1 true 0 1, paired .mirror { member := 1 }, by decide +kernel⟩,
   ⟨witness 1 true 0 1, 7, paired .mirror { member := 1, wait := .waiting 7 }, by decide +kernel⟩,
   ⟨witness 1 true 0 1, 0, paired .mirror { member := 1, wait := .waiting (witness 1 true 0 1) }, by decide +kernel⟩,
   ⟨paired .primary, by decide +kernel⟩,
   ⟨base, by decide +kernel⟩,
   ⟨base, by decide +kernel⟩,
   ⟨witness 1 false 0 1, paired .mirror { member := 1 }, by decide +kernel⟩⟩

theorem witness_MirroringKeepsInStep :
    (∃ (s : State),
      (s.mode.mode = .mirror ∨ s.mode.mode = .eclipse) ∧ (s.mode.warming = true)) ∧
    (∃ (keys : List Forwarded) (s : State),
      (s.mode.mode = .mirror ∨ s.mode.mode = .eclipse) ∧ (s.mode.warming = false) ∧ (keys.all (·.crcOk) = false)) ∧
    (∃ (d : DecisionRecord) (keys : List Forwarded) (s : State),
      (s.mode.mode = .mirror ∨ s.mode.mode = .eclipse) ∧
      (let room := forwardTotal keys = 0 ∨ s.occupancy + forwardTotal keys ≤ s.win.window
       (s.mode.warming = false) ∧ (keys.all (·.crcOk) = true) ∧ (d.csn ≤ s.pair.applied ∨ ¬room))) ∧
    (∃ (d : DecisionRecord) (keys : List Forwarded) (s : State),
      (s.mode.mode = .mirror ∨ s.mode.mode = .eclipse) ∧
      (let room := forwardTotal keys = 0 ∨ s.occupancy + forwardTotal keys ≤ s.win.window
       (s.mode.warming = false) ∧ (keys.all (·.crcOk) = true) ∧ (s.pair.applied < d.csn) ∧ (room) ∧
       ((∀ e ∈ keys, e.csn = d.csn)) ∧ ((∀ v ∈ s.kv.versions, v.csn < d.csn)) ∧
       ((keys.map fun e => (e.nsid, e.key)).Nodup))) ∧
    (∃ (s : State),
      (s.mode.mode ≠ .mirror) ∧ (s.mode.mode ≠ .eclipse)) ∧
    (∃ (ref : Nat) (c : Cmd) (s : State),
      (s.cmd? ref = some c) ∧ (s.forwards = false ∨ (s.pair.change.map (·.ref)) ≠ some ref) ∧ (ref ∈ s.pair.owed)) ∧
    (∃ (ref : Nat) (c : Cmd) (s : State),
      (s.cmd? ref = some c) ∧ (s.forwards = false ∨ (s.pair.change.map (·.ref)) ≠ some ref) ∧ (ref ∉ s.pair.owed) ∧
      (c.phase ≠ .finished)) ∧
    (∃ (ref : Nat) (c : Cmd) (s : State),
      (s.cmd? ref = some c) ∧ (s.forwards = false ∨ (s.pair.change.map (·.ref)) ≠ some ref) ∧ (ref ∉ s.pair.owed) ∧
      (c.phase = .finished)) ∧
    (∃ (ref : Nat) (c : Cmd) (s : State),
      (s.cmd? ref = some c) ∧ (c.isDurable = false) ∧ (s.mode.mode = .primary)) ∧
    (∃ (ref : Nat) (c : Cmd) (s : State),
      (s.cmd? ref = some c) ∧ (c.isDurable = false) ∧ (s.mode.mode ≠ .primary)) ∧
    (∃ (s : State),
      (s.forwards = true) ∧ (s.pair.change ≠ none)) ∧
    (∃ (s : State),
      (s.forwards = false)) ∧
    (∃ (p : PendingChange) (done : Comp) (s : State) (m : State),
      (s.forwards = true) ∧ (s.pair.change = some p) ∧ (p.after = .done done) ∧
      ((∀ n, SettingsChange.nsGone n ∉ p.changes)) ∧ (m.mode.mode = .mirror ∨ m.mode.mode = .eclipse) ∧
      (m.creds = s.creds) ∧ (m.asu = s.asu) ∧ ((∀ n ∈ m.ns, n.gone = false))) ∧
    (∃ (v : Nat) (s : State),
      (s.mode.mode = .primary) ∧ (s.pair.resyncOn = true) ∧ (s.resyncSettled = true) ∧ (v ≠ s.pair.word)) ∧
    (∃ (s : State),
      (s.mode.mode = .primary) ∧ (s.pair.resyncOn = false ∨ s.resyncSettled = false)) ∧
    (∃ (s : State),
      (s.mode.mode = .eclipse)) ∧
    (∃ (s : State),
      (s.mode.mode = .mirror)) :=
  ⟨⟨{ paired .mirror { member := 1 } with mode := { mode := .mirror, warming := true } }, by decide +kernel⟩,
   ⟨[{ fwd with crcOk := false }], paired .mirror { member := 1 }, by decide +kernel⟩,
   ⟨{ handle := 7, ring := 1, count := 0, csn := 9, result := 0 }, [fwd], paired .mirror { member := 1 },
    by decide +kernel⟩,
   ⟨{ handle := 7, ring := 1, count := 0, csn := 9, result := 0 }, [],
    { paired .mirror { member := 1 } with win := { base.win with window := 100 } }, by decide +kernel⟩,
   ⟨withCmd (put) (paired .primary), by decide +kernel⟩,
   ⟨0, put, withCmd put (paired .primary { owed := [0] }), by decide +kernel⟩,
   ⟨0, put, withCmd (put) (paired .primary), by decide +kernel⟩,
   ⟨0, { put with phase := .finished, done := some { status := .ok }, hold := true }, withCmd
    { put with phase := .finished, done := some { status := .ok }, hold := true } (paired .primary),
    by decide +kernel⟩,
   ⟨0, put, withCmd (put) (paired .primary), by decide +kernel⟩,
   ⟨0, put, withCmd put, by decide +kernel⟩,
   ⟨withCmd (adm [(0, 1, 0x4C), (8, 1, 1)]) (paired .primary
    { inStep := true, change := some { ref := 0, changes := [.credAdd 6 2 [] 5, .rule none 3 false 6 false 7 255 0 [] true, .credGone 6], after := .done (Comp.okResult 0) } }),
    by decide +kernel⟩,
   ⟨paired .solo { change := some { ref := 0, changes := [], after := .deletion } }, by decide +kernel⟩,
   ⟨{ ref := 0, changes := [.credAdd 6 2 [] 5, .rule none 3 false 6 false 7 255 0 [] true, .credGone 6], after := .done (Comp.okResult 0) },
    Comp.okResult 0, withCmd (adm [(0, 1, 0x4C), (8, 1, 1)]) (paired .primary
    { inStep := true, change := some { ref := 0, changes := [.credAdd 6 2 [] 5, .rule none 3 false 6 false 7 255 0 [] true, .credGone 6], after := .done (Comp.okResult 0) } }),
    paired .mirror, by refine ⟨by decide +kernel, by decide +kernel, by decide +kernel, fun n => by simp,
    by decide +kernel, by decide +kernel, by decide +kernel, by decide +kernel⟩⟩,
   ⟨7, paired .primary { resyncOn := true, resyncPin := some 0x100, markHeld := 0x10000 }, by decide +kernel⟩,
   ⟨withCmd (put) (paired .primary), by decide +kernel⟩,
   ⟨paired .eclipse, by decide +kernel⟩,
   ⟨{ paired .mirror { member := 1 } with win := { base.win with window := 100 } }, by decide +kernel⟩⟩

theorem witness_LeasesAndSwaps :
    (∃ (s : State),
      (s.mode.mode ≠ .primary)) ∧
    (∃ (s : State),
      (s.pair.paired = true) ∧ (s.mode.mode = .primary) ∧ (s.pair.casFor = .renew)) ∧
    (∃ (s : State),
      (s.pair.paired = true) ∧ (s.mode.mode = .primary) ∧ (s.pair.casFor = .unmirror)) ∧
    (∃ (v : Nat) (s : State),
      (s.pair.paired = true) ∧ (s.mode.mode = .primary) ∧ (v ≠ s.pair.word)) ∧
    (∃ (v : Nat) (s : State),
      (s.pair.paired = true) ∧ (s.mode.mode = .mirror) ∧ (s.pair.casFor = .promote) ∧ (v ≠ s.pair.word)) ∧
    (∃ (s : State),
      (s.pair.paired = false)) ∧
    (∃ (s : State),
      (s.mode.mode = .primary) ∧ (s.pair.lease.isSome = true)) ∧
    (∃ (s : State),
      (s.mode.mode ≠ .primary ∨ s.pair.lease = none)) ∧
    (∃ (s : State),
      (s.pair.paired = true) ∧ (s.mode.mode ≠ .service)) ∧
    (∃ (s : State),
      (s.pair.paired = false ∨ s.mode.mode = .service)) ∧
    (∃ (epoch : Nat) (v : Nat) (s : State),
      (s.mode.mode = .primary) ∧ (s.pair.swapAnswer epoch = .run) ∧ (v ≠ s.pair.word)) ∧
    (∃ (epoch : Nat) (s : State),
      (s.mode.mode = .primary) ∧ (s.pair.swapAnswer epoch ≠ .run)) ∧
    (∃ (s : State),
      (s.mode.mode ≠ .mirror)) :=
  ⟨⟨paired .mirror, by decide +kernel⟩,
   ⟨paired .primary, by decide +kernel⟩,
   ⟨paired .primary { casFor := .unmirror }, by decide +kernel⟩,
   ⟨7, paired .primary, by decide +kernel⟩,
   ⟨7, paired .mirror { casFor := .promote }, by decide +kernel⟩,
   ⟨base, by decide +kernel⟩,
   ⟨paired .primary { lease := some 5 }, by decide +kernel⟩,
   ⟨paired .primary, by decide +kernel⟩,
   ⟨paired .primary, by decide +kernel⟩,
   ⟨base, by decide +kernel⟩,
   ⟨1, 7, paired .primary { inStep := true, epoch := 1 }, by decide +kernel⟩,
   ⟨0, paired .primary, by decide +kernel⟩,
   ⟨paired .primary, by decide +kernel⟩⟩

theorem witness_ModesChangeOnRequest :
    (∃ (ref : Nat) (c : Cmd) (s : State),
      (s.ctrl.busy = none) ∧ (s.Ready ref c (isAdm 0x55 1)) ∧
      (let may := s.mode.mode = .commission ∧ s.creds.list.any (·.role == 1) = true ∧ s.vault.up = true
       (¬may))) ∧
    (∃ (ref : Nat) (c : Cmd) (s : State),
      (s.ctrl.busy = none) ∧ (s.Ready ref c (isAdm 0x55 1)) ∧
      (let may := s.mode.mode = .commission ∧ s.creds.list.any (·.role == 1) = true ∧ s.vault.up = true
       (may) ∧ (s.mode.custodyCause = false))) ∧
    (∃ (ref : Nat) (c : Cmd) (s : State),
      (s.ctrl.busy = none) ∧ (s.Ready ref c (isAdm 0x55 1)) ∧
      (let may := s.mode.mode = .commission ∧ s.creds.list.any (·.role == 1) = true ∧ s.vault.up = true
       (may) ∧ (s.mode.custodyCause = true))) ∧
    (∃ (ref : Nat) (c : Cmd) (s : State),
      (s.ctrl.busy = none) ∧ (s.Ready ref c (isAdm 0x55 2)) ∧ (s.mode.mode = .primary ∨ s.mode.mode = .service)) ∧
    (∃ (ref : Nat) (c : Cmd) (s : State),
      (s.ctrl.busy = none) ∧ (s.Ready ref c (isAdm 0x55 2)) ∧ (s.mode.mode ≠ .primary) ∧ (s.mode.mode ≠ .service)) ∧
    (∃ (ref : Nat) (c : Cmd) (s : State),
      (s.ctrl.busy = none) ∧ (s.Ready ref c (isAdm 0x55 3)) ∧ (s.mode.mode ≠ .service)) ∧
    (∃ (ref : Nat) (c : Cmd) (s : State),
      (s.ctrl.busy = none) ∧ (s.Ready ref c (isAdm 0x55 3)) ∧ (s.mode.mode = .service) ∧
      (s.mode.custodyCause = false)) ∧
    (∃ (ref : Nat) (c : Cmd) (s : State),
      (s.ctrl.busy = none) ∧ (s.Ready ref c (isAdm 0x55 3)) ∧ (s.mode.mode = .service) ∧
      (s.mode.custodyCause = true)) ∧
    (∃ (ref : Nat) (c : Cmd) (s : State),
      (s.ctrl.busy = none) ∧ (s.Ready ref c (isAdm 0x55 4)) ∧ (s.mode.archival = true)) ∧
    (∃ (ref : Nat) (c : Cmd) (s : State),
      (s.ctrl.busy = none) ∧ (s.Ready ref c (isAdm 0x55 4)) ∧ (s.mode.archival = false) ∧
      (s.mode.mode ∈ [.solo, .primary, .mirror, .eclipse])) ∧
    (∃ (ref : Nat) (c : Cmd) (s : State),
      (s.ctrl.busy = none) ∧ (s.Ready ref c (isAdm 0x55 4)) ∧ (s.mode.archival = false) ∧
      (s.mode.mode ∈ [.commission, .service, .custody])) ∧
    (∃ (ref : Nat) (c : Cmd) (s : State),
      (s.ctrl.busy = none) ∧ (s.Ready ref c (isAdm 0x55 5)) ∧ (s.mode.archival = false)) ∧
    (∃ (ref : Nat) (c : Cmd) (s : State),
      (s.ctrl.busy = none) ∧ (s.Ready ref c (isAdm 0x55 5)) ∧ (s.mode.archival = true)) ∧
    (∃ (p : Path) (s : State),
      (s.pathOpen p = true) ∧ (s.ctrl.busy = none) ∧ (s.mode.mode ≠ .primary) ∧ (s.mode.mode ≠ .service)) ∧
    (∃ (p : Path) (s : State),
      (s.pathOpen p = true) ∧ (s.ctrl.busy = none) ∧ (s.mode.mode = .primary ∨ s.mode.mode = .service)) ∧
    (∃ (p : Path) (s : State),
      (s.pathOpen p = true) ∧ (s.ctrl.busy = none) ∧ (s.mode.mode = .service) ∧ (s.mode.custodyCause = false)) ∧
    (∃ (p : Path) (s : State),
      (s.pathOpen p = true) ∧ (s.ctrl.busy = none) ∧ (s.mode.mode = .commission) ∧
      (s.creds.list.any (·.role == 1) = true) ∧ (s.vault.up = true) ∧ (s.mode.custodyCause = false)) ∧
    (∃ (p : Path) (s : State),
      (s.pathOpen p = true) ∧ (s.ctrl.busy = none) ∧ (s.mode.mode ≠ .commission)) ∧
    (∃ (p : Path) (s : State),
      (s.pathOpen p = true) ∧ (s.ctrl.busy = none) ∧ (s.mode.mode = .commission) ∧
      (s.creds.list.any (·.role == 1) = false ∨ s.vault.up = false)) ∧
    (∃ (p : Path) (s : State),
      (s.pathOpen p = true) ∧ (s.ctrl.busy = none) ∧ (s.mode.mode ∈ [.solo, .primary, .mirror, .eclipse]) ∧
      (s.mode.archival = false)) ∧
    (∃ (p : Path) (s : State),
      (s.pathOpen p = true) ∧ (s.ctrl.busy = none) ∧ (s.mode.mode = .custody) ∧ (s.mode.archival = true) ∧
      (s.mode.causeSpare = false) ∧ (s.mode.causeVault = false)) ∧
    (∃ (p : Path) (arg : Nat) (s : State),
      (s.pathOpen p = true) ∧ (s.ctrl.busy = none) ∧ (bitOf arg 0 = true) ∧ (bitOf arg 1 = false) ∧
      (s.feeds.a.chan = .latched)) ∧
    (∃ (p : Path) (arg : Nat) (s : State),
      (s.pathOpen p = true) ∧ (s.ctrl.busy = none) ∧ ((bitOf arg 0 = true → s.feeds.a.chan ≠ .latched)) ∧
      ((bitOf arg 1 = true → s.feeds.b.chan ≠ .latched))) ∧
    (∃ (p : Path) (code : Nat) (s : State),
      (s.pathOpen p = true) ∧ (s.ctrl.busy = none) ∧ (ctrlKnown code = false)) :=
  ⟨⟨0, adm [(0, 1, 0x55), (8, 1, 1)], withCmd (adm [(0, 1, 0x55), (8, 1, 1)]) (base), by decide +kernel⟩,
   ⟨0, adm [(0, 1, 0x55), (8, 1, 1)], withCmd (adm [(0, 1, 0x55), (8, 1, 1)]) (inMode .commission), by decide +kernel⟩,
   ⟨0, adm [(0, 1, 0x55), (8, 1, 1)], withCmd (adm [(0, 1, 0x55), (8, 1, 1)])
    ({ inMode .commission with mode := { mode := .commission, archival := true } }), by decide +kernel⟩,
   ⟨0, adm [(0, 1, 0x55), (8, 1, 2)], withCmd (adm [(0, 1, 0x55), (8, 1, 2)]) (paired .primary), by decide +kernel⟩,
   ⟨0, adm [(0, 1, 0x55), (8, 1, 2)], withCmd (adm [(0, 1, 0x55), (8, 1, 2)]), by decide +kernel⟩,
   ⟨0, adm [(0, 1, 0x55), (8, 1, 3)], withCmd (adm [(0, 1, 0x55), (8, 1, 3)]) (base), by decide +kernel⟩,
   ⟨0, adm [(0, 1, 0x55), (8, 1, 3)], withCmd (adm [(0, 1, 0x55), (8, 1, 3)]) (inMode .service), by decide +kernel⟩,
   ⟨0, adm [(0, 1, 0x55), (8, 1, 3)], withCmd (adm [(0, 1, 0x55), (8, 1, 3)])
    ({ base with mode := { mode := .service, archival := true } }), by decide +kernel⟩,
   ⟨0, adm [(0, 1, 0x55), (8, 1, 4)], withCmd (adm [(0, 1, 0x55), (8, 1, 4)])
    ({ base with mode := { mode := .solo, archival := true } }), by decide +kernel⟩,
   ⟨0, adm [(0, 1, 0x55), (8, 1, 4)], withCmd (adm [(0, 1, 0x55), (8, 1, 4)]), by decide +kernel⟩,
   ⟨0, adm [(0, 1, 0x55), (8, 1, 4)], withCmd (adm [(0, 1, 0x55), (8, 1, 4)]) (inMode .service), by decide +kernel⟩,
   ⟨0, adm [(0, 1, 0x55), (8, 1, 5)], withCmd (adm [(0, 1, 0x55), (8, 1, 5)]) (base), by decide +kernel⟩,
   ⟨0, adm [(0, 1, 0x55), (8, 1, 5)], withCmd (adm [(0, 1, 0x55), (8, 1, 5)])
    ({ base with mode := { mode := .custody, archival := true } }), by decide +kernel⟩,
   ⟨.usb, withCmd (adm [(0, 1, 0x55), (8, 1, 1)]) (inMode .commission), by decide +kernel⟩,
   ⟨.usb, withCmd (adm [(0, 1, 0x55), (8, 1, 3)]) (inMode .service), by decide +kernel⟩,
   ⟨.usb, withCmd (adm [(0, 1, 0x55), (8, 1, 3)]) (inMode .service), by decide +kernel⟩,
   ⟨.usb, withCmd (adm [(0, 1, 0x55), (8, 1, 1)]) (inMode .commission), by decide +kernel⟩,
   ⟨.usb, withCmd (adm [(0, 1, 0x55), (8, 1, 2)]), by decide +kernel⟩,
   ⟨.usb, { inMode .commission with creds := {} }, by decide +kernel⟩,
   ⟨.usb, withCmd (adm [(0, 1, 0x55), (8, 1, 2)]), by decide +kernel⟩,
   ⟨.usb, withCmd (adm [(0, 1, 0x55), (8, 1, 5)]) ({ base with mode := { mode := .custody, archival := true } }),
    by decide +kernel⟩,
   ⟨.usb, 1, feedA { feedOn with chan := .latched }, by decide +kernel⟩,
   ⟨.usb, 0, withCmd (adm [(0, 1, 0x55), (8, 1, 1)]) (inMode .commission), by decide +kernel⟩,
   ⟨.usb, 0, withCmd (adm [(0, 1, 0x55), (8, 1, 1)]) (inMode .commission), by decide +kernel⟩⟩

theorem witness_PowerStatesChangeOnRequest :
    (∃ (ref : Nat) (c : Cmd) (s : State),
      (s.ctrl.busy = none) ∧ (s.fetching = true) ∧ (s.Ready ref c (isAdm 0x56 1))) ∧
    (∃ (ref : Nat) (c : Cmd) (s : State),
      (s.ctrl.busy = none) ∧ (s.fetching = true) ∧ (s.Ready ref c (isAdm 0x56 2)) ∧ (s.mode.warming = true)) ∧
    (∃ (ref : Nat) (c : Cmd) (s : State),
      (s.ctrl.busy = none) ∧ (s.fetching = true) ∧ (s.Ready ref c (isAdm 0x56 2)) ∧ (s.mode.warming = false)) ∧
    (∃ (ref : Nat) (c : Cmd) (s : State),
      (s.ctrl.busy = none) ∧ (s.fetching = true) ∧
      (let e := (Instr.powerP2 ref, 3, PState.p2, 2)
       (s.Ready ref c (isAdm 0x56 e.2.1)) ∧ (s.pair.paired = true ∨ s.mode.warming = true))) ∧
    (∃ (ref : Nat) (c : Cmd) (s : State),
      (s.ctrl.busy = none) ∧ (s.fetching = true) ∧
      (let e := (Instr.powerP3 ref, 4, PState.p3, 3)
       (s.Ready ref c (isAdm 0x56 e.2.1)) ∧ (s.pair.paired = true ∨ s.mode.warming = true))) ∧
    (∃ (ref : Nat) (c : Cmd) (s : State),
      (s.ctrl.busy = none) ∧ (s.fetching = true) ∧
      (let e := (Instr.powerP2 ref, 3, PState.p2, 2)
       (s.Ready ref c (isAdm 0x56 e.2.1)) ∧ (s.pair.paired = false) ∧ (s.mode.warming = false))) ∧
    (∃ (ref : Nat) (c : Cmd) (s : State),
      (s.ctrl.busy = none) ∧ (s.fetching = true) ∧
      (let e := (Instr.powerP3 ref, 4, PState.p3, 3)
       (s.Ready ref c (isAdm 0x56 e.2.1)) ∧ (s.pair.paired = false) ∧ (s.mode.warming = false))) ∧
    (∃ (ref : Nat) (c : Cmd) (s : State),
      (s.ctrl.busy = none) ∧ (s.fetching = true) ∧ (s.Ready ref c (isAdm 0x56 0x10))) ∧
    (∃ (ref : Nat) (c : Cmd) (s : State),
      (s.ctrl.busy = none) ∧ (s.fetching = true) ∧ (s.Ready ref c (isAdm 0x56 0x11))) ∧
    (∃ (p : Path) (s : State),
      (s.pathOpen p = true) ∧ (s.ctrl.busy = none) ∧ (s.steadyPower = true) ∧ (s.power.pstate = .p0) ∧
      (s.mode.warming = false)) ∧
    (∃ (p : Path) (s : State),
      (s.pathOpen p = true) ∧ (s.ctrl.busy = none) ∧
      (let e := (Instr.ctrlP2 p, PState.p2, 0x03)
       (s.steadyPower = true) ∧ (s.pair.paired = false) ∧ (s.lowOk = true) ∧
       (pstateCode s.power.pstate < pstateCode e.2.1))) ∧
    (∃ (p : Path) (s : State),
      (s.pathOpen p = true) ∧ (s.ctrl.busy = none) ∧
      (let e := (Instr.ctrlP3 p, PState.p3, 0x04)
       (s.steadyPower = true) ∧ (s.pair.paired = false) ∧ (s.lowOk = true) ∧
       (pstateCode s.power.pstate < pstateCode e.2.1))) ∧
    (∃ (p : Path) (s : State),
      (s.pathOpen p = true) ∧ (s.ctrl.busy = none) ∧
      (let e := (Instr.ctrlP2 p, PState.p2, 0x03)
       (s.fetching = true) ∧ (s.pair.paired = false) ∧ (s.mode.warming = false) ∧ (s.lowOk = false) ∧
       (s.power.pstate ≠ e.2.1))) ∧
    (∃ (p : Path) (s : State),
      (s.pathOpen p = true) ∧ (s.ctrl.busy = none) ∧
      (let e := (Instr.ctrlP3 p, PState.p3, 0x04)
       (s.fetching = true) ∧ (s.pair.paired = false) ∧ (s.mode.warming = false) ∧ (s.lowOk = false) ∧
       (s.power.pstate ≠ e.2.1))) ∧
    (∃ (p : Path) (s : State),
      (s.pathOpen p = true) ∧ (s.ctrl.busy = none) ∧
      (let e := (Instr.ctrlP1 p, 0x02, false)
       (s.fetching = true) ∧ (s.mode.warming = true ∨ e.2.2 = true))) ∧
    (∃ (p : Path) (s : State),
      (s.pathOpen p = true) ∧ (s.ctrl.busy = none) ∧
      (let e := (Instr.ctrlP2 p, 0x03, s.pair.paired)
       (s.fetching = true) ∧ (s.mode.warming = true ∨ e.2.2 = true))) ∧
    (∃ (p : Path) (s : State),
      (s.pathOpen p = true) ∧ (s.ctrl.busy = none) ∧
      (let e := (Instr.ctrlP3 p, 0x04, s.pair.paired)
       (s.fetching = true) ∧ (s.mode.warming = true ∨ e.2.2 = true))) ∧
    (∃ (p : Path) (s : State),
      (s.pathOpen p = true) ∧ (s.ctrl.busy = none) ∧ (s.fetching = false)) ∧
    (∃ (p : Path) (s : State),
      (s.pathOpen p = true) ∧ (s.ctrl.busy = none) ∧ (s.canShutdown = true)) ∧
    (∃ (p : Path) (s : State),
      (s.pathOpen p = true) ∧ (s.ctrl.busy = none) ∧ (s.canShutdown = false)) ∧
    (∃ (p : Path) (s : State),
      (s.pathOpen p = true) ∧ (s.ctrl.busy = none) ∧ (s.power.shutDone = true)) ∧
    (∃ (p : Path) (s : State),
      (s.pathOpen p = true) ∧ (s.ctrl.busy ≠ none)) :=
  ⟨⟨0, adm [(0, 1, 0x56), (8, 1, 1)], withCmd (adm [(0, 1, 0x56), (8, 1, 1)]) (withPower
    { pstate := .p1, step := 12 }), by decide +kernel⟩,
   ⟨0, adm [(0, 1, 0x56), (8, 1, 2)], withCmd (adm [(0, 1, 0x56), (8, 1, 2)])
    ({ base with mode := { mode := .solo, warming := true } }), by decide +kernel⟩,
   ⟨0, adm [(0, 1, 0x56), (8, 1, 2)], withCmd (adm [(0, 1, 0x56), (8, 1, 2)]), by decide +kernel⟩,
   ⟨0, adm [(0, 1, 0x56), (8, 1, 3)], withCmd (adm [(0, 1, 0x56), (8, 1, 3)])
    ({ base with mode := { mode := .solo, warming := true } }), by decide +kernel⟩,
   ⟨0, adm [(0, 1, 0x56), (8, 1, 4)], withCmd (adm [(0, 1, 0x56), (8, 1, 4)])
    ({ base with mode := { mode := .solo, warming := true } }), by decide +kernel⟩,
   ⟨0, adm [(0, 1, 0x56), (8, 1, 3)], withCmd (adm [(0, 1, 0x56), (8, 1, 3)]), by decide +kernel⟩,
   ⟨0, adm [(0, 1, 0x56), (8, 1, 4)], withCmd (adm [(0, 1, 0x56), (8, 1, 4)]), by decide +kernel⟩,
   ⟨0, adm [(0, 1, 0x56), (8, 1, 16)], withCmd (adm [(0, 1, 0x56), (8, 1, 16)]), by decide +kernel⟩,
   ⟨0, adm [(0, 1, 0x56), (8, 1, 17)], withCmd (adm [(0, 1, 0x56), (8, 1, 17)]), by decide +kernel⟩,
   ⟨.usb, withCmd (adm [(0, 1, 0x56), (8, 1, 2)]), by decide +kernel⟩,
   ⟨.usb, withCmd (adm [(0, 1, 0x56), (8, 1, 1)]) (withPower { pstate := .p1, step := 12 }), by decide +kernel⟩,
   ⟨.usb, withCmd (adm [(0, 1, 0x56), (8, 1, 1)]) (withPower { pstate := .p1, step := 12 }), by decide +kernel⟩,
   ⟨.i3c, withMoon { staged := 4 }, by decide +kernel⟩,
   ⟨.i3c, withMoon { staged := 4 }, by decide +kernel⟩,
   ⟨.usb, withCmd (adm [(0, 1, 0x56), (8, 1, 2)]) ({ base with mode := { mode := .solo, warming := true } }),
    by decide +kernel⟩,
   ⟨.usb, withCmd (adm [(0, 1, 0x56), (8, 1, 2)]) ({ base with mode := { mode := .solo, warming := true } }),
    by decide +kernel⟩,
   ⟨.usb, withCmd (adm [(0, 1, 0x56), (8, 1, 2)]) ({ base with mode := { mode := .solo, warming := true } }),
    by decide +kernel⟩,
   ⟨.usb, withPower { pstate := .p4, step := 12, shutDone := true }, by decide +kernel⟩,
   ⟨.usb, withCmd (adm [(0, 1, 0x56), (8, 1, 1)]) (withPower { pstate := .p1, step := 12 }), by decide +kernel⟩,
   ⟨.usb, withPower { pstate := .p4, step := 12, shutDone := true }, by decide +kernel⟩,
   ⟨.usb, withPower { pstate := .p4, step := 12, shutDone := true }, by decide +kernel⟩,
   ⟨.i3c, { base with ctrl := { base.ctrl with busy := some 2 } }, by decide +kernel⟩⟩

theorem witness_ImagesAreStagedAndApplied :
    (∃ (ref : Nat) (c : Cmd) (s : State),
      (s.fw.comps.length = 4) ∧
      (let n := bitsOf (byteAt c.desc 8) 0 2
       (n = 1 ∨ n = 2) ∧ (s.ownsBank n (s.sender c) = true) ∧ (s.Ready ref c (fun d => dOpcode d == 0x52)) ∧
       (1 ≤ u32At c.desc 28) ∧ (u32At c.desc 28 ≤ 16777216) ∧ (u32At c.desc 24 + u32At c.desc 28 ≤ maxImage n))) ∧
    (∃ (ref : Nat) (c : Cmd) (s : State),
      (s.fw.comps.length = 4) ∧
      (let n := bitsOf (byteAt c.desc 8) 0 2
       (n = 1 ∨ n = 2) ∧ (s.ownsBank n (s.sender c) = true) ∧ (s.revertFailure n = none) ∧
       (s.Ready ref c (isCommit true true)) ∧ (s.mode.mode = .service))) :=
  ⟨⟨0, adm [(0, 1, 0x52), (8, 1, 1), (24, 4, 67108864), (28, 4, 256)], withCmd (adm [(0, 1, 0x52), (8, 1, 1), (24, 4,
    67108864), (28, 4, 256)]), by decide +kernel⟩,
   ⟨0, adm [(0, 1, 0x53), (8, 1, 1), (9, 1, 3)], withCmd (adm [(0, 1, 0x53), (8, 1, 1), (9, 1, 3)]) (inMode .service),
    by decide +kernel⟩⟩

theorem witness_BanksSwitchAndCountersRise :
    (∃ (s : State),
      (s.fw.applying ≠ []) ∧ (s.canShutdown = true)) ∧
    (∃ (comp : Nat) (s : State),
      ((s.comp comp).trial = true)) ∧
    (∃ (comp : Nat) (s : State),
      ((s.comp comp).stage ≠ .empty)) ∧
    (∃ (ref : Nat) (c : Cmd) (s : State),
      (s.Ready ref c (fun d => dOpcode d == 0x54))) :=
  ⟨⟨{ base with fw := { base.fw with applying := [1] } }, by decide +kernel⟩,
   ⟨0, withComps { trial := true }, by decide +kernel⟩,
   ⟨0, withComps { stage := .receiving }, by decide +kernel⟩,
   ⟨0, adm [(0, 1, 0x54)], withCmd (adm [(0, 1, 0x54)])
    ({ base with fw := { base.fw with rollback := some (1, 1) } }), by decide +kernel⟩⟩

theorem witness_RegistersAreWritten :
    (∃ (p : Path) (w : Word) (s : State),
      (s.pathOpen p = true) ∧ (inRange 1 300 (bitsOf w.toNat 0 9) = true)) ∧
    (∃ (p : Path) (w : Word) (s : State),
      (s.pathOpen p = true) ∧ (inRange 1 300 (bitsOf w.toNat 0 9) = false)) ∧
    (∃ (p : Path) (link : LinkId) (l : List Nat) (s : State),
      (s.pathOpen p = true) ∧ (s.linkCounters link = some l)) ∧
    (∃ (p : Path) (source : Nat) (s : State),
      (s.pathOpen p = true) ∧ (bitsOf source 0 2 ≠ s.settings.timeSource)) :=
  ⟨⟨.usb, 300, base, by decide +kernel⟩,
   ⟨.usb, 301, base, by decide +kernel⟩,
   ⟨.usb, .port 0, List.replicate 22 0, base, by decide +kernel⟩,
   ⟨.usb, 3, base, by decide +kernel⟩⟩

theorem witness_StagedGroupsApply :
    (∃ (p : Path) (n : Nat) (wd : Nat) (l : Nat) (s : State),
      (s.pathOpen p = true) ∧ (n < 32) ∧ (s.ports.hosts.length = 32) ∧ (l < 128) ∧ (s.ports.logical.length = 128) ∧
      (wd < 3)) ∧
    (∃ (p : Path) (n : Nat) (l : Nat) (seq : Nat) (s : State),
      (s.pathOpen p = true) ∧ (n < 32) ∧ (s.ports.hosts.length = 32) ∧ (l < 128) ∧ (s.ports.logical.length = 128) ∧
      (seq % 65536 = (s.host n).words.seq) ∧ (s.stagedBreakout n = (s.host n).live.breakout) ∧
      (s.stagedBreakout n ≠ 3)) ∧
    (∃ (p : Path) (n : Nat) (l : Nat) (seq : Nat) (s : State),
      (s.pathOpen p = true) ∧ (n < 32) ∧ (s.ports.hosts.length = 32) ∧ (l < 128) ∧ (s.ports.logical.length = 128) ∧
      (seq % 65536 = (s.logical l).words.seq) ∧ (s.addressValid l (s.logical l).stage = true) ∧
      ((∀ x ∈ s.sess.sessions, addressGone l (s.logical l).live (s.logical l).stage x = false))) ∧
    (∃ (p : Path) (n : Nat) (l : Nat) (seq : Nat) (s : State),
      (s.pathOpen p = true) ∧ (n < 32) ∧ (s.ports.hosts.length = 32) ∧ (l < 128) ∧ (s.ports.logical.length = 128) ∧
      (sideband p = true) ∧ (seq % 65536 = s.creds.boot.stageSeq) ∧ (s.creds.list.any (·.role == 1) = false) ∧
      (s.creds.boot.cred ≠ 0) ∧ (s.creds.list.any (·.cred == s.creds.boot.cred) = false)) :=
  ⟨⟨.usb, 0, 0, 0, base, by decide +kernel⟩,
   ⟨.usb, 0, 0, 0, base, by decide +kernel⟩,
   ⟨.usb, 0, 0, 0, withLPort { stage := overwrite lbytes 0 [2, 0, 0, 0, 0, 1] }, by decide +kernel⟩,
   ⟨.i3c, 0, 0, 0, { base with creds := { boot := { cred := 5, secret := secret2 } } }, by decide +kernel⟩⟩

theorem witness_SetupBlockGivesTheAdminRing :
    (∃ (sid : Nat) (x : Session) (s : State),
      (s.session? sid = some x) ∧ (s.setupOpen sid = false)) ∧
    (∃ (sid : Nat) (at_ : Nat) (x : Session) (s : State),
      (s.session? sid = some x) ∧ (s.setupOpen sid = true) ∧ (x.mayEnable = true) ∧ (x.setup.invalid = some at_)) ∧
    (∃ (sid : Nat) (x : Session) (o : Session) (r : Ring) (s : State),
      (s.session? sid = some x) ∧ (s.setupOpen sid = true) ∧ (x.mayEnable = true) ∧
      (s.orphanOf x.setup.resume = some o) ∧ (o.ring? 0 = some r)) ∧
    (∃ (sid : Nat) (x : Session) (s : State),
      (s.session? sid = some x) ∧ (s.setupOpen sid = true) ∧ (x.mayEnable = true) ∧
      (s.orphanOf x.setup.resume = none) ∧ (x.setup.invalid = none)) ∧
    (∃ (sid : Nat) (x : Session) (s : State),
      (s.session? sid = some x) ∧ (s.setupOpen sid = true) ∧ (x.mayEnable = false)) ∧
    (∃ (sid : Nat) (x : Session) (r : Ring) (s : State),
      (s.session? sid = some x) ∧ (s.setupOpen sid = true) ∧ (x.setupState = 1 ∨ x.setupState = 4) ∧
      (x.ring? 0 = some r)) ∧
    (∃ (sid : Nat) (x : Session) (s : State),
      (s.session? sid = some x) ∧ (s.setupOpen sid = true) ∧ (x.setupState ≠ 1) ∧ (x.setupState ≠ 4)) ∧
    (∃ (sid : Nat) (x : Session) (s : State),
      (s.session? sid = some x) ∧ (s.setupOpen sid = true) ∧ (x.role = 1)) ∧
    (∃ (sid : Nat) (x : Session) (s : State),
      (s.session? sid = some x) ∧ (s.setupOpen sid = true) ∧ (x.role ≠ 1)) :=
  ⟨⟨1, { sess with cls := .orphan }, withSess { sess with cls := .orphan }, by decide +kernel⟩,
   ⟨1, 8, { sess with rings := [], setup := { sqBase := 1 } }, withSess
    { sess with rings := [], setup := { sqBase := 1 } }, by decide +kernel⟩,
   ⟨1, { sess with rings := [], setup := { resume := 8 } }, { sess with sid := 2, handle := 8, cls := .orphan },
    admRing,
    { base with sess := { sessions := [{ sess with rings := [], setup := { resume := 8 } }, { sess with sid := 2, handle := 8, cls := .orphan }] } },
    by decide +kernel⟩,
   ⟨1, { sess with rings := [], setup := { sqLog2 := 4, cqLog2 := 4 } }, withSess
    { sess with rings := [], setup := { sqLog2 := 4, cqLog2 := 4 } }, by decide +kernel⟩,
   ⟨1, sess, base, by decide +kernel⟩,
   ⟨1, sess, admRing, base, by decide +kernel⟩,
   ⟨1, { sess with rings := [], setup := { sqLog2 := 4, cqLog2 := 4 } }, withSess
    { sess with rings := [], setup := { sqLog2 := 4, cqLog2 := 4 } }, by decide +kernel⟩,
   ⟨1, { sess with rings := [], setup := { sqLog2 := 4, cqLog2 := 4 } }, withSess
    { sess with rings := [], setup := { sqLog2 := 4, cqLog2 := 4 } }, by decide +kernel⟩,
   ⟨1, { sess with role := 2 }, withSess { sess with role := 2 }, by decide +kernel⟩⟩

theorem witness_SpdmRequestsAreAnswered :
    (∃ (s : State),
      (s.feeds.mgmtUp = true) ∧ (2 ≤ s.startStep) ∧ (s.usb.i3cAddr = none)) ∧
    (∃ (s : State),
      (s.pathOpen .i3c = true) ∧ (s.usb.spdmVer = true)) ∧
    (∃ (s : State),
      (s.pathOpen .i3c = true) ∧ (s.usb.spdmCaps = true)) ∧
    (∃ (offset : Nat) (s : State),
      (s.pathOpen .i3c = true) ∧ (s.usb.spdmAlgs = true) ∧ (offset < spdmChain.length)) ∧
    (∃ (index : Nat) (s : State),
      (s.pathOpen .i3c = true) ∧ (s.usb.spdmAlgs = true) ∧ (index ≤ 6)) ∧
    (∃ (code : Nat) (s : State),
      (s.pathOpen .i3c = true) ∧ (spdmSupported code = false)) :=
  ⟨⟨{ base with usb := {} }, by decide +kernel⟩,
   ⟨{ base with usb := { base.usb with spdmVer := true } }, by decide +kernel⟩,
   ⟨{ base with usb := { base.usb with spdmCaps := true } }, by decide +kernel⟩,
   ⟨0, { base with usb := { base.usb with spdmAlgs := true } }, by decide +kernel⟩,
   ⟨0, { base with usb := { base.usb with spdmAlgs := true } }, by decide +kernel⟩,
   ⟨0, base, by decide +kernel⟩⟩

theorem witness_ServicePortRequests :
    (∃ (s : State),
      (s.feeds.mgmtUp = true) ∧ (s.usb.pullUp = false)) ∧
    (∃ (s : State),
      (s.usb.pullUp = true)) ∧
    (∃ (a : Nat) (s : State),
      (s.pathOpen .usb = true) ∧ (a < 128)) ∧
    (∃ (setup : Bytes) (s : State),
      (s.pathOpen .usb = true) ∧
      (rspWellFormed (byteAt setup 0) (byteAt setup 1) (u16At setup 2) (u16At setup 4) (u16At setup 6) = false)) ∧
    (∃ (offset : Nat) (len : Nat) (s : State),
      (s.pathOpen .usb = true) ∧ (aligned offset 4 = true) ∧ (aligned len 4 = true) ∧ (inRange 4 4096 len = true) ∧
      (offset + len ≤ tagSize) ∧ (s.tag.holder ≠ .rf)) ∧
    (∃ (blk : Nat) (comp : Nat) (data : Bytes) (s : State),
      (s.pathOpen .usb = true) ∧ (s.fw.comps.length = 4) ∧ (comp < 4) ∧ (s.ownsBank comp .service = true) ∧
      (inRange 1 4096 data.length = true) ∧ (4096 * blk + data.length ≤ maxImage comp)) ∧
    (∃ (comp : Nat) (off : Nat) (data : Bytes) (s : State),
      (s.pathOpen .usb = true) ∧ (s.fw.comps.length = 4) ∧ (comp < 4) ∧ (aligned off 4 = true) ∧
      (aligned data.length 4 = true) ∧ (inRange 4 2048 data.length = true) ∧ (off + data.length ≤ 2048)) :=
  ⟨⟨{ base with usb := {} }, by decide +kernel⟩,
   ⟨base, by decide +kernel⟩,
   ⟨0, base, by decide +kernel⟩,
   ⟨[], base, by decide +kernel⟩,
   ⟨4096, 4096, base, by decide +kernel⟩,
   ⟨64, 3, val, base, by decide +kernel⟩,
   ⟨3, 0, val, base, by decide +kernel⟩⟩

theorem witness_TagIsReadAndWritten :
    (∃ (s : State),
      (s.tag.rf ≠ .quiet)) ∧
    (∃ (s : State),
      (s.tag.rf = .quiet)) ∧
    (∃ (uid : Bytes) (s : State),
      (uid ≠ fit 8 s.ident.tagUid)) ∧
    (∃ (b : Nat) (n : Nat) (s : State),
      (s.tag.holder ≠ .wired) ∧ (n ≤ 64) ∧ (b < 2048) ∧ (b + n ≤ 2048)) ∧
    (∃ (b : Nat) (s : State),
      (s.tag.holder ≠ .wired) ∧ (0x101 ≤ b) ∧ (b ≤ 0x2FF) ∧ (s.rfWrite = true)) ∧
    (∃ (b : Nat) (s : State),
      (s.tag.holder ≠ .wired) ∧ (b < 0x101)) ∧
    (∃ (s : State),
      (s.tag.holder = .wired)) ∧
    (∃ (s : State),
      (s.tag.holder = .rf)) ∧
    (∃ (b : Nat) (data : Bytes) (s : State),
      (s.tag.holder = .free) ∧ (s.feeds.mgmtUp = true) ∧ (s.tag.todo = [(b, data)]) ∧ (b < 2048)) ∧
    (∃ (s : State),
      (s.feeds.mgmtUp = true) ∧ (s.power.step = 12) ∧ (s.power.shutDone = false)) :=
  ⟨⟨base, by decide +kernel⟩,
   ⟨withTag { rf := .quiet }, by decide +kernel⟩,
   ⟨[], base, by decide +kernel⟩,
   ⟨0, 0, base, by decide +kernel⟩,
   ⟨0x101, withTag { mem := [(0x400, 1)] }, by decide +kernel⟩,
   ⟨0, base, by decide +kernel⟩,
   ⟨withTag { holder := .wired }, by decide +kernel⟩,
   ⟨withTag { holder := .rf }, by decide +kernel⟩,
   ⟨2047, val, withTag { todo := [(2047, val)] }, by decide +kernel⟩,
   ⟨base, by decide +kernel⟩⟩

theorem witness_PowerStateEventsMove :
    (∃ (s : State),
      (s.steadyPower = false)) ∧
    (∃ (p : PState) (s : State),
      (s.steadyPower = true) ∧ (s.power.returnTo = some p) ∧ (s.lowOk = true)) ∧
    (∃ (p : PState) (s : State),
      (s.steadyPower = true) ∧ (s.power.returnTo = some p) ∧ (s.lowOk = false)) ∧
    (∃ (s : State),
      (s.steadyPower = true) ∧ (s.power.returnTo = none) ∧ (s.nextDown = none)) ∧
    (∃ (p : PState) (s : State),
      let may := (p = .p1 ∧ s.mode.warming = false) ∨ (p ≠ .p1 ∧ s.lowOk = true)
      (s.steadyPower = true) ∧ (s.power.returnTo = none) ∧ (s.nextDown = some p) ∧ (may)) ∧
    (∃ (p : PState) (s : State),
      let may := (p = .p1 ∧ s.mode.warming = false) ∨ (p ≠ .p1 ∧ s.lowOk = true)
      (s.steadyPower = true) ∧ (s.power.returnTo = none) ∧ (s.nextDown = some p) ∧ (¬may)) ∧
    (∃ (p : PState) (s : State),
      let gaveUp := (p = .p1 ∧ s.mode.warming = true) ∨ ((p = .p2 ∨ p = .p3) ∧ s.lowOk = false)
      (s.power.entering = some p) ∧ (gaveUp)) ∧
    (∃ (p : PState) (s : State),
      let gaveUp := (p = .p1 ∧ s.mode.warming = true) ∨ ((p = .p2 ∨ p = .p3) ∧ s.lowOk = false)
      (s.power.entering = some p) ∧ (¬gaveUp)) ∧
    (∃ (p : PState) (s : State),
      let may := (p = .p1 ∧ s.mode.warming = false) ∨ (p ≠ .p1 ∧ s.lowOk = true)
      let waits := s.power.wanted = some p ∧ p ≠ .p0 ∧ s.steadyPower = true ∧ may
      (s.power.entering = none) ∧ (waits)) ∧
    (∃ (s : State),
      (s.power.entering = none) ∧ (s.power.wanted = none)) ∧
    (∃ (s : State),
      (s.power.exiting = true)) ∧
    (∃ (s : State),
      (s.power.exiting = false)) ∧
    (∃ (s : State),
      (s.power.shutdown = none)) ∧
    (∃ (s : State),
      (s.power.shutdown = some .stay)) ∧
    (∃ (s : State),
      (s.power.shutdown = some .warmStart)) :=
  ⟨⟨withPower { pstate := .p1, step := 12, entering := some .p2 }, by decide +kernel⟩,
   ⟨.p2, withPower { step := 12, pstate := .p0, returnTo := some .p2 } base, by decide +kernel⟩,
   ⟨.p2, withPower { step := 12, pstate := .p0, returnTo := some .p2 }
    ({ base with mode := { mode := .solo, warming := true } }), by decide +kernel⟩,
   ⟨withPower { step := 12, pstate := .p2 } base, by decide +kernel⟩,
   ⟨.p1, base, by decide +kernel⟩,
   ⟨.p1, withPower { step := 12, pstate := .p0 } ({ base with mode := { mode := .solo, warming := true } }),
    by decide +kernel⟩,
   ⟨.p2, withPower { step := 12, pstate := .p0, entering := some .p2 }
    ({ base with mode := { mode := .solo, warming := true } }), by decide +kernel⟩,
   ⟨.p2, withPower { pstate := .p1, step := 12, entering := some .p2 }, by decide +kernel⟩,
   ⟨.p2, withPower { step := 12, pstate := .p0, wanted := some .p2 } base, by decide +kernel⟩,
   ⟨base, by decide +kernel⟩,
   ⟨withPower { pstate := .p2, step := 12, exiting := true }, by decide +kernel⟩,
   ⟨base, by decide +kernel⟩,
   ⟨base, by decide +kernel⟩,
   ⟨withPower { step := 12, shutdown := some .stay } stored, by decide +kernel⟩,
   ⟨withPower { step := 12, shutdown := some .warmStart } stored, by decide +kernel⟩⟩

theorem witness_StartsRunThroughTheirSteps :
    (∃ (s : State),
      (s.feeds.present = false ∨ s.power.step ≠ 0)) ∧
    (∃ (s : State),
      (s.feeds.present = true) ∧ (s.power.step = 0) ∧ (s.feeds.mgmtUp = true)) ∧
    (∃ (s : State),
      (s.feeds.present = true) ∧ (s.power.step = 0) ∧ (s.feeds.mgmtUp = false)) ∧
    (∃ (s : State),
      (s.power.step = 0 ∨ 12 ≤ s.power.step ∨ s.power.shutDone = true ∨ s.feeds.mgmtUp = false)) ∧
    (∃ (s : State),
      (0 < s.power.step) ∧ (s.power.step < 12) ∧ (s.power.shutDone = false) ∧ (s.feeds.mgmtUp = true) ∧
      (s.power.step = 7)) ∧
    (∃ (facts : StartFacts) (s : State),
      (0 < s.power.step) ∧ (s.power.step < 12) ∧ (s.power.shutDone = false) ∧ (s.feeds.mgmtUp = true) ∧
      (s.power.step = 9) ∧ (facts.tailBad = 0) ∧ (facts.noMap = 0)) ∧
    (∃ (s : State),
      (0 < s.power.step) ∧ (s.power.step < 12) ∧ (s.power.shutDone = false) ∧ (s.feeds.mgmtUp = true) ∧
      (s.power.step = 10)) ∧
    (∃ (s : State),
      (0 < s.power.step) ∧ (s.power.step < 12) ∧ (s.power.shutDone = false) ∧ (s.feeds.mgmtUp = true) ∧
      (s.power.step = 11)) ∧
    (∃ (u : UnitId) (island : Nat) (s : State),
      (s.attempts u island = none) ∧ (unitCode u ∉ s.attn.islands)) ∧
    (∃ (u : UnitId) (island : Nat) (s : State),
      ((s.attempts u island).isSome = true ∨ unitCode u ∈ s.attn.islands)) ∧
    (∃ (u : UnitId) (island : Nat) (osc : Bool) (n : Nat) (s : State),
      (s.attempts u island = some (n, osc)) ∧ (n < 3)) ∧
    (∃ (u : UnitId) (island : Nat) (osc : Bool) (n : Nat) (s : State),
      (s.attempts u island = some (n, osc)) ∧ (3 ≤ n)) :=
  ⟨⟨withPower { step := 1 }, by decide +kernel⟩,
   ⟨withPower { step := 0 }, by decide +kernel⟩,
   ⟨State.reset, by decide +kernel⟩,
   ⟨State.reset, by decide +kernel⟩,
   ⟨withPower { step := 7 }, by decide +kernel⟩,
   ⟨{ coldestDie := 0 }, withPower { step := 9 }, by decide +kernel⟩,
   ⟨withPower { step := 10 }, by decide +kernel⟩,
   ⟨withPower { step := 11 }, by decide +kernel⟩,
   ⟨.mgmt, 0, State.reset, by decide +kernel⟩,
   ⟨.moon 0, 0, { base with attn := { retries := [(0, 1, false)] } }, by decide +kernel⟩,
   ⟨.moon 0, 0, false, 1, { base with attn := { retries := [(0, 1, false)] } }, by decide +kernel⟩,
   ⟨.moon 0, 0, false, 3, { base with attn := { retries := [(0, 3, false)] } }, by decide +kernel⟩⟩

theorem witness_WarmingFollowsTheColdestDie :
    (∃ (c : Int) (s : State),
      (c ≤ -88) ∧ (s.fetching = true)) ∧
    (∃ (c : Int) (s : State),
      (-88 < c ∨ s.fetching = false)) ∧
    (∃ (c : Int) (s : State),
      (c < -100) ∧ (s.mode.warming = false) ∧ (s.power.step = 12)) ∧
    (∃ (c : Int) (s : State),
      (-100 ≤ c ∨ s.mode.warming = true ∨ s.power.step ≠ 12)) ∧
    (∃ (c : Int) (s : State),
      (-80 ≤ c) ∧ (s.mode.warming = true)) ∧
    (∃ (c : Int) (s : State),
      (c < -80 ∨ s.mode.warming = false)) ∧
    (∃ (s : State),
      (s.mode.warming = true) ∧ (s.mode.warmingLong = false)) ∧
    (∃ (s : State),
      (s.mode.warming = false ∨ s.mode.warmingLong = true)) :=
  ⟨⟨-88, base, by decide +kernel⟩,
   ⟨-80, { base with mode := { mode := .solo, warming := true } }, by decide +kernel⟩,
   ⟨-101, base, by decide +kernel⟩,
   ⟨-88, base, by decide +kernel⟩,
   ⟨-80, { base with mode := { mode := .solo, warming := true } }, by decide +kernel⟩,
   ⟨-88, base, by decide +kernel⟩,
   ⟨{ base with mode := { mode := .solo, warming := true } }, by decide +kernel⟩,
   ⟨base, by decide +kernel⟩⟩

theorem witness_WindowIsComputed :
    (∃ (i : Nat) (x : HoldString) (s : State),
      (i < 4) ∧ (s.win.strings[i]? = some x) ∧ (s.measures = true)) ∧
    (∃ (i : Nat) (x : HoldString) (s : State),
      (i < 4) ∧ (s.win.strings[i]? = some x) ∧ (s.measures = false)) ∧
    (∃ (i : Nat) (x : HoldString) (s : State),
      (i < 4) ∧ (s.win.strings[i]? = some x) ∧ (s.power.step = 12)) ∧
    (∃ (i : Nat) (x : HoldString) (s : State),
      (i < 4) ∧ (s.win.strings[i]? = some x) ∧ (s.power.step ≠ 12)) ∧
    (∃ (i : Nat) (x : HoldString) (s : State),
      (i < 4) ∧ (s.win.strings[i]? = some x) ∧ (8 ≤ s.power.step) ∧ (s.win.window = 0) ∧ (s.settings.winLimit ≠ 0) ∧
      (s.win.cold = false) ∧ (s.attn.writeThru = false)) ∧
    (∃ (i : Nat) (x : HoldString) (s : State),
      (i < 4) ∧ (s.win.strings[i]? = some x) ∧ (8 ≤ s.power.step) ∧ (s.unlimitedWindow < 8589934592) ∧
      (s.attn.windowLow = false)) ∧
    (∃ (i : Nat) (x : HoldString) (s : State),
      (i < 4) ∧ (s.win.strings[i]? = some x) ∧ (s.power.step < 8)) ∧
    (∃ (i : Nat) (x : HoldString) (s : State),
      (i < 4) ∧ (s.win.strings[i]? = some x) ∧
      (s.win.window ≠ 0 ∨ s.settings.winLimit = 0 ∨ s.win.cold = true ∨ s.attn.writeThru = true)) ∧
    (∃ (i : Nat) (x : HoldString) (s : State),
      (i < 4) ∧ (s.win.strings[i]? = some x) ∧ (8589934592 ≤ s.unlimitedWindow ∨ s.attn.windowLow = true)) :=
  ⟨⟨0, {}, base, by decide +kernel⟩,
   ⟨0, {}, { base with power := { base.power with step := 0 } }, by decide +kernel⟩,
   ⟨0, {}, base, by decide +kernel⟩,
   ⟨0, {}, { base with power := { base.power with step := 0 } }, by decide +kernel⟩,
   ⟨0, {}, base, by decide +kernel⟩,
   ⟨0, {}, base, by decide +kernel⟩,
   ⟨0, {}, { base with power := { base.power with step := 0 } }, by decide +kernel⟩,
   ⟨0, {}, { base with settings := { base.settings with winLimit := 0 } }, by decide +kernel⟩,
   ⟨0, {}, { base with win := { base.win with window := 5 }, attn := { base.attn with windowLow := true } },
    by decide +kernel⟩⟩

theorem witness_PowerLossRunsItsSequence :
    (∃ (f : Front) (s : State),
      ((s.feed f).lost = true)) ∧
    (∃ (f : Front) (s : State),
      let other := s.feed (otherFront f)
      ((s.feed f).lost = false) ∧ (other.lost = false)) ∧
    (∃ (f : Front) (s : State),
      let other := s.feed (otherFront f)
      ((s.feed f).lost = false) ∧ (other.lost = true) ∧ (s.feeds.loss = .none) ∧ (s.power.step ≠ 0) ∧
      (s.power.shutDone = false)) ∧
    (∃ (f : Front) (s : State),
      let other := s.feed (otherFront f)
      ((s.feed f).lost = false) ∧ (other.lost = true) ∧ (s.feeds.loss = .none) ∧ (s.power.step ≠ 0) ∧
      (s.power.shutDone = true)) ∧
    (∃ (f : Front) (s : State),
      let other := s.feed (otherFront f)
      ((s.feed f).lost = false) ∧ (other.lost = true) ∧ (s.feeds.loss ≠ .none ∨ s.power.step = 0)) ∧
    (∃ (s : State),
      (s.feeds.loss = .deciding)) ∧
    (∃ (s : State),
      (s.feeds.loss ≠ .deciding)) ∧
    (∃ (s : State),
      (s.feeds.loss = .flushing) ∧ (s.warm = false)) ∧
    (∃ (s : State),
      (s.feeds.loss = .flushing) ∧ (s.warm = true)) ∧
    (∃ (volt : Nat) (x : Shortfall) (s : State),
      let ends := (s.measure fun i q => { q with volt := x.volts.getD i q.volt }).bankSpent = true ∧
          s.newestShort x.csns = true
      (s.feeds.loss = .flushing) ∧ (¬ends)) ∧
    (∃ (volt : Nat) (x : Shortfall) (s : State),
      let ends := (s.measure fun i q => { q with volt := x.volts.getD i q.volt }).bankSpent = true ∧
          s.newestShort x.csns = true
      (s.feeds.loss = .flushing) ∧ (ends)) ∧
    (∃ (s : State),
      (s.feeds.loss ≠ .flushing)) ∧
    (∃ (s : State),
      (s.feeds.loss = .gasped)) ∧
    (∃ (s : State),
      (s.feeds.loss ≠ .gasped)) ∧
    (∃ (s : State),
      (s.feeds.loss = .off) ∧ (s.feeds.a.inRange = false) ∧ (s.feeds.b.inRange = false)) ∧
    (∃ (s : State),
      (s.feeds.loss = .off) ∧ (s.feeds.a.inRange = true ∨ s.feeds.b.inRange = true)) ∧
    (∃ (s : State),
      (s.feeds.loss ≠ .off)) :=
  ⟨⟨.a, feedA { feedOn with lost := true }, by decide +kernel⟩,
   ⟨.a, base, by decide +kernel⟩,
   ⟨.a, { base with feeds := { base.feeds with b := {} } }, by decide +kernel⟩,
   ⟨.a, { base with feeds := { base.feeds with b := {} }, power := { step := 12, shutDone := true } },
    by decide +kernel⟩,
   ⟨.a, { base with feeds := { base.feeds with b := {}, loss := .flushing } }, by decide +kernel⟩,
   ⟨loss .deciding { base with kv := { versions := [ver] } }, by decide +kernel⟩,
   ⟨base, by decide +kernel⟩,
   ⟨loss .flushing { base with kv := { versions := [ver] } }, by decide +kernel⟩,
   ⟨loss .flushing ({ stored with mode := { mode := .solo, warming := true } }), by decide +kernel⟩,
   ⟨0, { csns := [0x100], volts := [] }, loss .flushing { base with kv := { versions := [ver] } }, by decide +kernel⟩,
   ⟨0, { csns := [], volts := [] }, { base with feeds := { base.feeds with b := {}, loss := .flushing } },
    by decide +kernel⟩,
   ⟨base, by decide +kernel⟩,
   ⟨loss .gasped { base with kv := { versions := [ver] } }, by decide +kernel⟩,
   ⟨base, by decide +kernel⟩,
   ⟨{ base with feeds := { base.feeds with a := {}, b := {}, loss := .off } }, by decide +kernel⟩,
   ⟨loss .off { base with kv := { versions := [ver] } }, by decide +kernel⟩,
   ⟨base, by decide +kernel⟩⟩

theorem witness_ChannelsRampTripAndLatch :
    (∃ (s : State),
      let starts := s.feeds.present = true ∧ s.feeds.mgmtUp = true ∧ s.power.step = 0
      (¬starts) ∧ ((s.feeds.present = true ∨ s.feeds.mgmtUp = true))) ∧
    (∃ (s : State),
      (s.feeds.present = false) ∧ (s.feeds.mgmtUp = false)) ∧
    (∃ (s : State),
      let starts := s.feeds.present = true ∧ s.feeds.mgmtUp = true ∧ s.power.step = 0
      (starts)) ∧
    (∃ (f : Front) (s : State),
      let q := s.feed f
      (q.chan = .ramping)) ∧
    (∃ (f : Front) (s : State),
      let q := s.feed f
      (q.chan ≠ .ramping)) ∧
    (∃ (f : Front) (c : EfuseCond) (s : State),
      let q := s.feed f
      (efuseApplies c q.chan = true) ∧ (efuseRetries c = true) ∧ (q.retries < 3)) ∧
    (∃ (f : Front) (c : EfuseCond) (s : State),
      let q := s.feed f
      (efuseApplies c q.chan = true) ∧ (efuseRetries c = true) ∧ (3 ≤ q.retries)) ∧
    (∃ (f : Front) (c : EfuseCond) (s : State),
      let q := s.feed f
      (efuseApplies c q.chan = true) ∧ (efuseRetries c = false)) ∧
    (∃ (f : Front) (c : EfuseCond) (s : State),
      let q := s.feed f
      (efuseApplies c q.chan = false)) ∧
    (∃ (f : Front) (s : State),
      let q := s.feed f
      (q.chan = .waiting) ∧ (s.feeds.present = true)) ∧
    (∃ (f : Front) (s : State),
      let q := s.feed f
      (q.chan ≠ .waiting ∨ s.feeds.present = false)) ∧
    (∃ (s : State),
      (s.shorted pinPresent = false) ∧ (s.feeds.present = true)) ∧
    (∃ (s : State),
      (s.shorted pinPresent = true ∨ s.feeds.present = false)) ∧
    (∃ (s : State),
      (s.feeds.present = false) ∧ (s.feeds.a.chan = .latched) ∧ (s.feeds.a.inRange = true)) :=
  ⟨⟨feedA {}, by decide +kernel⟩,
   ⟨{ base with feeds := { base.feeds with present := false, mgmtUp := false, a := {} } }, by decide +kernel⟩,
   ⟨feedA {} (withPower {}), by decide +kernel⟩,
   ⟨.a, feedA { feedOn with chan := .ramping }, by decide +kernel⟩,
   ⟨.a, feedA {}, by decide +kernel⟩,
   ⟨.a, .runOver, feedA { feedOn with retries := 2 }, by decide +kernel⟩,
   ⟨.a, .runOver, feedA { feedOn with retries := 3 }, by decide +kernel⟩,
   ⟨.a, .reverse, base, by decide +kernel⟩,
   ⟨.a, .runOver, feedA {}, by decide +kernel⟩,
   ⟨.a, feedA { feedOn with chan := .waiting }, by decide +kernel⟩,
   ⟨.a, feedA {}, by decide +kernel⟩,
   ⟨feedA {}, by decide +kernel⟩,
   ⟨{ base with feeds := { base.feeds with present := false, a := { feedOn with chan := .latched } } },
    by decide +kernel⟩,
   ⟨{ base with feeds := { base.feeds with present := false, a := { feedOn with chan := .latched } } },
    by decide +kernel⟩⟩

theorem witness_IslandsThrottleAndTrip :
    (∃ (i : Island) (r : Int) (s : State),
      let n := (s.islandState i).level
      let rise := n < levelFor (islandMedia i) r ∧ s.mode.warming = false
      (rise)) ∧
    (∃ (i : Island) (r : Int) (s : State),
      let n := (s.islandState i).level
      let rise := n < levelFor (islandMedia i) r ∧ s.mode.warming = false
      (¬rise)) ∧
    (∃ (i : Island) (r : Int) (s : State),
      let n := (s.islandState i).level
      let fall := n ≠ 0 ∧ r ≤ levelStart (islandMedia i) n - 8 ∧ ¬(n ≤ 2 ∧ s.brokenGoverns i = true)
      (fall)) ∧
    (∃ (i : Island) (r : Int) (s : State),
      let n := (s.islandState i).level
      let fall := n ≠ 0 ∧ r ≤ levelStart (islandMedia i) n - 8 ∧ ¬(n ≤ 2 ∧ s.brokenGoverns i = true)
      (¬fall)) ∧
    (∃ (i : Island) (r : Int) (s : State),
      let trips := tripPoint (islandMedia i) ≤ r ∧ (s.islandState i).tripped = false ∧ s.hasIsland i = true
      (trips)) ∧
    (∃ (i : Island) (r : Int) (s : State),
      let trips := tripPoint (islandMedia i) ≤ r ∧ (s.islandState i).tripped = false ∧ s.hasIsland i = true
      (¬trips)) ∧
    (∃ (i : Island) (s : State),
      ((s.islandState i).tripped = true) ∧ (s.mode.fatal = false)) ∧
    (∃ (i : Island) (s : State),
      ((s.islandState i).tripped = true) ∧ (s.mode.fatal = true)) ∧
    (∃ (i : Island) (s : State),
      ((s.islandState i).tripped = true) ∧ ((s.islandState i).rebuilt = false)) ∧
    (∃ (i : Island) (s : State),
      ((s.islandState i).tripped = true) ∧ ((s.islandState i).rebuilt = true)) ∧
    (∃ (i : Island) (s : State),
      ((s.islandState i).tripped = false)) ∧
    (∃ (q : Sensor) (s : State),
      (q ∉ s.thermal.broken) ∧ (sensorExists q = true)) ∧
    (∃ (q : Sensor) (s : State),
      (q ∈ s.thermal.broken ∨ sensorExists q = false)) ∧
    (∃ (s : State),
      (Sensor.inlet ∉ s.thermal.broken)) ∧
    (∃ (s : State),
      (Sensor.inlet ∈ s.thermal.broken)) ∧
    (∃ (pin : Nat) (s : State),
      (signalPin pin = true) ∧ (s.shorted pin = false)) ∧
    (∃ (pin : Nat) (s : State),
      (s.shorted pin = true)) ∧
    (∃ (s : State),
      (s.drivesAlive = true)) ∧
    (∃ (s : State),
      (s.pins.contention = true) ∧ (s.shorted pinAliveOut = false)) :=
  ⟨⟨.moon 0, 440, base, by decide +kernel⟩,
   ⟨.moon 0, 0, atIsland { island := .moon 0, level := 1 }, by decide +kernel⟩,
   ⟨.moon 0, 0, atIsland { island := .moon 0, level := 1 }, by decide +kernel⟩,
   ⟨.moon 0, 440, base, by decide +kernel⟩,
   ⟨.moon 0, 500, base, by decide +kernel⟩,
   ⟨.moon 0, 440, base, by decide +kernel⟩,
   ⟨.moon 0, atIsland { island := .moon 0, tripped := true }, by decide +kernel⟩,
   ⟨.moon 0, { atIsland { island := .moon 0, tripped := true } with mode := { mode := .solo, fatal := true } },
    by decide +kernel⟩,
   ⟨.moon 0, atIsland { island := .moon 0, tripped := true }, by decide +kernel⟩,
   ⟨.moon 0, atIsland { island := .moon 0, tripped := true, rebuilt := true }, by decide +kernel⟩,
   ⟨.moon 0, base, by decide +kernel⟩,
   ⟨.inlet, base, by decide +kernel⟩,
   ⟨.inlet, { base with thermal := { base.thermal with broken := [.inlet] } }, by decide +kernel⟩,
   ⟨base, by decide +kernel⟩,
   ⟨{ base with thermal := { base.thermal with broken := [.inlet] } }, by decide +kernel⟩,
   ⟨2, base, by decide +kernel⟩,
   ⟨20, { base with pins := { short := 1#24 <<< 19 } }, by decide +kernel⟩,
   ⟨base, by decide +kernel⟩,
   ⟨{ base with pins := { contention := true } }, by decide +kernel⟩⟩

theorem witness_MediaPartsAndDramFail :
    (∃ (m : Nat) (die : Nat) (q : Moon) (s : State),
      (s.media.moons[m]? = some q) ∧ (s.powered = true) ∧ (q.inService = true) ∧ (die < 512) ∧
      (q.dieGone die = false)) ∧
    (∃ (m : Nat) (die : Nat) (q : Moon) (s : State),
      (s.media.moons[m]? = some q) ∧ (s.powered = true) ∧ (q.inService = true) ∧ (512 ≤ die ∨ q.dieGone die = true)) ∧
    (∃ (m : Nat) (ch : Nat) (q : Moon) (s : State),
      (s.media.moons[m]? = some q) ∧ (s.powered = true) ∧ (q.inService = true) ∧ (ch < 64) ∧ (ch ∉ q.chansLost)) ∧
    (∃ (m : Nat) (ch : Nat) (q : Moon) (s : State),
      (s.media.moons[m]? = some q) ∧ (s.powered = true) ∧ (q.inService = true) ∧ (64 ≤ ch ∨ ch ∈ q.chansLost)) ∧
    (∃ (m : Nat) (b : Bool) (q : Moon) (s : State),
      (s.media.moons[m]? = some q) ∧ (s.powered = true) ∧ (q.inService = true) ∧ (b = false) ∧ (q.enginesOut < 64)) ∧
    (∃ (m : Nat) (b : Bool) (q : Moon) (s : State),
      (s.media.moons[m]? = some q) ∧ (s.powered = true) ∧ (q.inService = true) ∧ (b = true ∨ 64 ≤ q.enginesOut)) ∧
    (∃ (m : Nat) (q : Moon) (s : State),
      (s.media.moons[m]? = some q) ∧ (s.powered = false ∨ q.inService = false)) ∧
    (∃ (u : UnitId) (m : Nat) (ch : Nat) (bad : Bool) (f : Front) (q : Moon) (s : State),
      (m < 8) ∧ (s.media.moons[m]? = some q) ∧ (s.powered = true) ∧ (u = .moon m ∨ u = .front f) ∧ (bad = false) ∧
      ((unitCode u, ch) ∉ s.attn.drams)) ∧
    (∃ (u : UnitId) (m : Nat) (ch : Nat) (bad : Bool) (f : Front) (q : Moon) (s : State),
      (m < 8) ∧ (s.media.moons[m]? = some q) ∧ (s.powered = true) ∧ (u = .moon m ∨ u = .front f) ∧
      (bad = true ∨ (unitCode u, ch) ∈ s.attn.drams)) ∧
    (∃ (u : UnitId) (m : Nat) (q : Moon) (s : State),
      (m < 8) ∧ (s.media.moons[m]? = some q) ∧ (s.powered = false ∨ ((∀ k, k < 8 → u ≠ .moon k) ∧
      ∀ g, u ≠ .front g))) :=
  ⟨⟨0, 511, {}, base, by decide +kernel⟩,
   ⟨0, 512, {}, base, by decide +kernel⟩,
   ⟨0, 0, {}, base, by decide +kernel⟩,
   ⟨0, 64, {}, base, by decide +kernel⟩,
   ⟨0, false, {}, base, by decide +kernel⟩,
   ⟨0, true, {}, base, by decide +kernel⟩,
   ⟨0, {}, withPower {}, by decide +kernel⟩,
   ⟨.moon 0, 0, 0, false, .a, {}, base, by decide +kernel⟩,
   ⟨.moon 0, 0, 0, false, .a, {}, { base with attn := { drams := [(unitCode (.moon 0), 0)] } }, by decide +kernel⟩,
   ⟨.mgmt, 0, {}, withPower {}, by decide, rfl, Or.inl (by decide +kernel)⟩⟩

theorem witness_FrontsAndSearchUnits :
    (∃ (f : Front) (q : FrontPart) (s : State),
      (s.media.fronts.length = 2) ∧ (s.media.fronts[frontIdx f]? = some q) ∧ (s.powered = true) ∧
      (q.inService = true) ∧ (s.frontIn (otherFront f) = true)) ∧
    (∃ (f : Front) (q : FrontPart) (s : State),
      (s.media.fronts.length = 2) ∧ (s.media.fronts[frontIdx f]? = some q) ∧ (s.powered = true) ∧
      (q.inService = true) ∧ (s.frontIn (otherFront f) = false) ∧ (s.mode.fatal = false)) ∧
    (∃ (f : Front) (q : FrontPart) (s : State),
      (s.media.fronts.length = 2) ∧ (s.media.fronts[frontIdx f]? = some q) ∧
      (s.powered = false ∨ q.inService = false)) ∧
    (∃ (f : Front) (q : FrontPart) (s : State),
      (s.media.fronts.length = 2) ∧ (s.media.fronts[frontIdx f]? = some q) ∧
      (let stays := s.powered = false ∨ q.inService = true ∨ q.lostCause = 1 ∨ q.lostCause = 3 ∨ s.mode.fatal = true
       (¬stays))) ∧
    (∃ (f : Front) (q : FrontPart) (s : State),
      (s.media.fronts.length = 2) ∧ (s.media.fronts[frontIdx f]? = some q) ∧
      (let stays := s.powered = false ∨ q.inService = true ∨ q.lostCause = 1 ∨ q.lostCause = 3 ∨ s.mode.fatal = true
       (stays))) ∧
    (∃ (u : AsuTable) (r : AsuFinding) (s : State),
      (r.bits = s.rowImage u r.row)) ∧
    (∃ (f : Front) (u : AsuTable) (r : AsuFinding) (s : State),
      let faulty := r.row < tableRows u ∧ s.rowFault u r.row r.bits r.how = true
      (s.fetching = true) ∧ (s.frontIn f = true) ∧ (faulty)) ∧
    (∃ (f : Front) (u : AsuTable) (r : AsuFinding) (s : State),
      let faulty := r.row < tableRows u ∧ s.rowFault u r.row r.bits r.how = true
      (s.fetching = true) ∧ (s.frontIn f = true) ∧ (¬faulty)) ∧
    (∃ (f : Front) (s : State),
      (s.fetching = false ∨ s.frontIn f = false)) ∧
    (∃ (f : Front) (u : AsuTable) (row : Nat) (s : State),
      (s.powered = true) ∧ (s.frontIn f = true) ∧ (row < tableRows u) ∧ (s.frontIn (otherFront f) = true)) ∧
    (∃ (f : Front) (u : AsuTable) (row : Nat) (s : State),
      (s.powered = true) ∧ (s.frontIn f = true) ∧ (row < tableRows u) ∧ (s.frontIn (otherFront f) = false)) ∧
    (∃ (f : Front) (u : AsuTable) (row : Nat) (s : State),
      (s.powered = false ∨ s.frontIn f = false ∨ tableRows u ≤ row)) :=
  ⟨⟨.a, {}, base, by decide +kernel⟩,
   ⟨.a, {}, { base with media := { base.media with fronts := [{}, { inService := false }] } }, by decide +kernel⟩,
   ⟨.a, { inService := false, lostCause := 1 },
    { base with media := { base.media with fronts := [{ inService := false, lostCause := 1 }, {}] } },
    by decide +kernel⟩,
   ⟨.a, { inService := false, lostCause := 0 },
    { base with media := { base.media with fronts := [{ inService := false }, {}] } }, by decide +kernel⟩,
   ⟨.a, {}, base, by decide +kernel⟩,
   ⟨.rule, { row := 0, bits := base.rowImage .rule 0, how := .scrub }, withPower {}, by decide +kernel⟩,
   ⟨.a, .rule, { row := 0, bits := 0, how := .scrub }, base, by decide +kernel⟩,
   ⟨.a, .rule, { row := 0, bits := base.rowImage .rule 0, how := .scrub }, base, by decide +kernel⟩,
   ⟨.a, { base with media := { base.media with fronts := [{ inService := false, lostCause := 1 }, {}] } },
    by decide +kernel⟩,
   ⟨.a, .rule, 0, base, by decide +kernel⟩,
   ⟨.a, .rule, 4095, { base with media := { base.media with fronts := [{}, { inService := false }] } },
    by decide +kernel⟩,
   ⟨.a, .rule, 0, { base with media := { base.media with fronts := [{ inService := false, lostCause := 1 }, {}] } },
    by decide +kernel⟩⟩

theorem witness_IslandsFatalFaultsAndAlarms :
    (∃ (s : State),
      let n := s.feeds.mgmtFails
      (s.feeds.mgmtUp = false) ∧ (0 < n) ∧ (n ≤ 3)) ∧
    (∃ (s : State),
      let n := s.feeds.mgmtFails
      (s.feeds.mgmtUp = false) ∧ (n = 0 ∨ 3 < n)) ∧
    (∃ (s : State),
      let n := s.feeds.mgmtFails
      (s.feeds.mgmtUp = true ∨ n = 0 ∨ 3 < n)) ∧
    (∃ (s : State),
      (s.time.up = true)) ∧
    (∃ (s : State),
      (s.time.up = false) ∧ (s.feeds.mgmtUp = true) ∧ (unitCode .time ∉ s.attn.islands)) ∧
    (∃ (s : State),
      (s.time.up = true ∨ s.feeds.mgmtUp = false ∨ unitCode .time ∈ s.attn.islands)) ∧
    (∃ (s : State),
      (s.powered = true) ∧ (s.mode.fatal = false)) ∧
    (∃ (s : State),
      (s.powered = false ∨ s.mode.fatal = true)) ∧
    (∃ (s : State),
      ((∀ k ∈ s.vault.slots, k.st ≠ .loaded))) ∧
    (∃ (s : State),
      ((∃ k ∈ s.vault.slots, k.st = .loaded))) ∧
    (∃ (s : State),
      (s.vault.pending = true)) ∧
    (∃ (s : State),
      (s.vault.pending = false)) :=
  ⟨⟨{ base with feeds := { base.feeds with mgmtUp := false, mgmtFails := 3 } }, by decide +kernel⟩,
   ⟨{ base with feeds := { base.feeds with mgmtUp := false, mgmtFails := 4 } }, by decide +kernel⟩,
   ⟨base, by decide +kernel⟩,
   ⟨base, by decide +kernel⟩,
   ⟨withTime { up := false }, by decide +kernel⟩,
   ⟨base, by decide +kernel⟩,
   ⟨base, by decide +kernel⟩,
   ⟨withPower {}, by decide +kernel⟩,
   ⟨{ base with vault := {} }, by decide +kernel⟩,
   ⟨base, by decide +kernel⟩,
   ⟨{ base with vault := { base.vault with pending := true } }, by decide +kernel⟩,
   ⟨base, by decide +kernel⟩⟩

theorem witness_MediaWorkKeepsTheData :
    (∃ (stripe : Nat) (fills : List StripeFill) (s : State) (u : State) (t' : State),
      let fits := s.mayProgram = true ∧ s.bandFor (bandOf stripe) = some u ∧
          (u.stripe stripe).complete = false ∧ u.stripeUse stripe + fills.length = u.dataPages (bandOf stripe)
      (fits) ∧ (fills.foldlM (State.fillStripe stripe) u = some t')) ∧
    (∃ (stripe : Nat) (fills : List StripeFill) (s : State) (u : State),
      let fits := s.mayProgram = true ∧ s.bandFor (bandOf stripe) = some u ∧
          (u.stripe stripe).complete = false ∧ u.stripeUse stripe + fills.length = u.dataPages (bandOf stripe)
      (fits) ∧ (fills.foldlM (State.fillStripe stripe) u = none)) ∧
    (∃ (stripe : Nat) (obj : Nat) (fills : List StripeFill) (v : Version) (b : Bytes) (s : State) (u : State),
      let fits := s.mayProgram = true ∧ s.bandFor (bandOf stripe) = some u ∧
          (u.stripe stripe).complete = false ∧ u.stripeUse stripe + fills.length = u.dataPages (bandOf stripe)
      (fits) ∧ (fills = [.object obj]) ∧ (u.kv.versions = [v]) ∧ (v.objId = obj) ∧ (v.place = .slc) ∧
      (v.value = some b) ∧ (v.key.length + b.length + 48 ≤ 12288) ∧ (v.folded = []) ∧
      (u.positionFree stripe (((u.pageOf v 0).map (·.block.moon)).getD v.home) = true) ∧
      ((∀ p, u.pageOf v 0 = some p → p.header.kind = .slcPack))) ∧
    (∃ (stripe : Nat) (fills : List StripeFill) (s : State) (u : State),
      let fits := s.mayProgram = true ∧ s.bandFor (bandOf stripe) = some u ∧
          (u.stripe stripe).complete = false ∧ u.stripeUse stripe + fills.length = u.dataPages (bandOf stripe)
      (s.mayProgram = false ∨ (s.bandFor (bandOf stripe) = some u ∧ ¬fits))) ∧
    (∃ (stripe : Nat) (s : State),
      (s.mayProgram = true) ∧ (s.bandFor (bandOf stripe) = none) ∧ ((s.band? (bandOf stripe)).isSome = true)) ∧
    (∃ (stripe : Nat) (s : State),
      (s.mayProgram = true) ∧ (s.bandFor (bandOf stripe) = none) ∧ ((s.band? (bandOf stripe)).isSome = false)) ∧
    (∃ (moon : Nat) (s : State),
      let padded := s.mayProgram = true ∧ moon < 8 ∧ s.nextToFold moon = none ∧
          s.othersWait s.openStripe moon = true ∧ moon ∉ (s.stripe s.openStripe).pads ∧
          s.parityMoon s.openStripe ≠ moon ∧ (s.stripePages s.openStripe).any (·.header.position == moon) = false
      (padded)) ∧
    (∃ (moon : Nat) (s : State),
      let padded := s.mayProgram = true ∧ moon < 8 ∧ s.nextToFold moon = none ∧
          s.othersWait s.openStripe moon = true ∧ moon ∉ (s.stripe s.openStripe).pads ∧
          s.parityMoon s.openStripe ≠ moon ∧ (s.stripePages s.openStripe).any (·.header.position == moon) = false
      (¬padded)) ∧
    (∃ (moon : Nat) (s : State),
      let tail := fun (t : State) => sumNat ((t.tailOf moon).map (·.len))
      let full := s.mayProgram = true ∧ moon ∈ s.moonsIn ∧ 4294967296 ≤ tail s
      (full)) ∧
    (∃ (moon : Nat) (s : State),
      let tail := fun (t : State) => sumNat ((t.tailOf moon).map (·.len))
      let full := s.mayProgram = true ∧ moon ∈ s.moonsIn ∧ 4294967296 ≤ tail s
      (¬full)) ∧
    (∃ (n : Nat) (b : Band) (s : State),
      (s.band? n = some b) ∧
      (let collects := s.mayProgram = true ∧ (b.due ≠ 0 ∨ s.isVictim b = true) ∧
          (b.due = 2 ∨ s.suspended b = false)
       (collects))) ∧
    (∃ (n : Nat) (b : Band) (s : State),
      (s.band? n = some b) ∧
      (let collects := s.mayProgram = true ∧ (b.due ≠ 0 ∨ s.isVictim b = true) ∧
          (b.due = 2 ∨ s.suspended b = false)
       (¬collects))) ∧
    (∃ (n : Nat) (b : Band) (s : State),
      (s.band? n = some b) ∧
      (let refreshes := s.mayProgram = true ∧ s.isAged b = true ∧ s.suspended b = false
       (refreshes))) ∧
    (∃ (n : Nat) (b : Band) (s : State),
      (s.band? n = some b) ∧
      (let refreshes := s.mayProgram = true ∧ s.isAged b = true ∧ s.suspended b = false
       (¬refreshes))) ∧
    (∃ (n : Nat) (i : BlockId) (b : Band) (s : State),
      (s.band? n = some b) ∧ (s.mayProgram = true) ∧ (s.slcAged i = true)) ∧
    (∃ (n : Nat) (i : BlockId) (b : Band) (s : State),
      (s.band? n = some b) ∧ (s.mayProgram = false ∨ s.slcAged i = false)) ∧
    (∃ (n : Nat) (b : Band) (s : State),
      (s.band? n = some b) ∧
      (let turns := s.mayProgram = true ∧ s.mode.mode ≠ .custody
       let levels := s.levels = true ∧ 0 < s.bandPages n ∧ s.levelsNext b = true ∧ s.suspended b = false
       (turns) ∧ (levels))) ∧
    (∃ (n : Nat) (b : Band) (s : State),
      (s.band? n = some b) ∧
      (let turns := s.mayProgram = true ∧ s.mode.mode ≠ .custody
       let levels := s.levels = true ∧ 0 < s.bandPages n ∧ s.levelsNext b = true ∧ s.suspended b = false
       (turns) ∧ (¬levels))) ∧
    (∃ (n : Nat) (b : Band) (s : State),
      (s.band? n = some b) ∧
      (let turns := s.mayProgram = true ∧ s.mode.mode ≠ .custody
       (¬turns))) :=
  ⟨⟨5, [.object 9],
    { base with kv := { versions := [{ ver with place := .slc, objId := 9 }] }, media := { base.media with bands := [{ num := 0, blocks := (List.range 8).map fun m => { blockA with moon := m } }], stripes := [{ num := 5, pads := [1, 2, 3, 4, 6, 7] }] } },
    { base with kv := { versions := [{ ver with place := .slc, objId := 9 }] }, media := { base.media with bands := [{ num := 0, blocks := (List.range 8).map fun m => { blockA with moon := m } }], stripes := [{ num := 5, pads := [1, 2, 3, 4, 6, 7] }] } },
    _, by decide +kernel, some_getD_of_isSome _ base (by decide +kernel)⟩,
   ⟨5, [.object 8],
    { base with kv := { versions := [{ ver with place := .slc, objId := 9 }] }, media := { base.media with bands := [{ num := 0, blocks := (List.range 8).map fun m => { blockA with moon := m } }], stripes := [{ num := 5, pads := [1, 2, 3, 4, 6, 7] }] } },
    { base with kv := { versions := [{ ver with place := .slc, objId := 9 }] }, media := { base.media with bands := [{ num := 0, blocks := (List.range 8).map fun m => { blockA with moon := m } }], stripes := [{ num := 5, pads := [1, 2, 3, 4, 6, 7] }] } },
    by decide +kernel⟩,
   ⟨5, 9, [.object 9], { ver with place := .slc, objId := 9 }, val,
    { base with kv := { versions := [{ ver with place := .slc, objId := 9 }] }, media := { base.media with bands := [{ num := 0, blocks := (List.range 8).map fun m => { blockA with moon := m } }], stripes := [{ num := 5, pads := [1, 2, 3, 4, 6, 7] }] } },
    { base with kv := { versions := [{ ver with place := .slc, objId := 9 }] }, media := { base.media with bands := [{ num := 0, blocks := (List.range 8).map fun m => { blockA with moon := m } }], stripes := [{ num := 5, pads := [1, 2, 3, 4, 6, 7] }] } },
    by decide +kernel⟩,
   ⟨5, [],
    { base with kv := { versions := [] }, media := { base.media with bands := [{ num := 0, blocks := (List.range 8).map fun m => { blockA with moon := m } }] } },
    { base with kv := { versions := [] }, media := { base.media with bands := [{ num := 0, blocks := (List.range 8).map fun m => { blockA with moon := m } }] } },
    by decide +kernel⟩,
   ⟨5,
    { base with kv := { versions := [] }, media := { base.media with bands := [{ num := 0, blocks := (List.range 8).map fun m => { blockA with moon := m } }], filling := 3 } },
    by decide +kernel⟩,
   ⟨5,
    { withMoon { chansLost := List.range 64 } with media := { (withMoon { chansLost := List.range 64 }).media with filling := 3 } },
    by decide +kernel⟩,
   ⟨1,
    { base with kv := { versions := [{ ver with place := .slc, objId := 9 }] }, media := { base.media with bands := [{ num := 0, blocks := (List.range 8).map fun m => { blockA with moon := m } }] } },
    by decide +kernel⟩,
   ⟨0,
    { base with kv := { versions := [{ ver with place := .slc, objId := 9 }] }, media := { base.media with bands := [{ num := 0, blocks := (List.range 8).map fun m => { blockA with moon := m } }], stripes := [{ num := 5, pads := [1, 2, 3, 4, 6, 7] }] } },
    by decide +kernel⟩,
   ⟨0, withMoon { tail := [{ seq := 1, len := 4294967296, page := 0, change := .void 1 }] }, by decide +kernel⟩,
   ⟨0,
    { base with kv := { versions := [{ ver with place := .slc, objId := 9 }] }, media := { base.media with bands := [{ num := 0, blocks := (List.range 8).map fun m => { blockA with moon := m } }], stripes := [{ num := 5, pads := [1, 2, 3, 4, 6, 7] }] } },
    by decide +kernel⟩,
   ⟨0, { num := 0, blocks := (List.range 8).map fun m => { blockA with moon := m } },
    { base with kv := { versions := [] }, media := { base.media with bands := [{ num := 0, blocks := (List.range 8).map fun m => { blockA with moon := m } }], filling := 3 } },
    by decide +kernel⟩,
   ⟨0, { num := 0, blocks := (List.range 8).map fun m => { blockA with moon := m } },
    { base with kv := { versions := [{ ver with place := .slc, objId := 9 }] }, media := { base.media with bands := [{ num := 0, blocks := (List.range 8).map fun m => { blockA with moon := m } }], stripes := [{ num := 5, pads := [1, 2, 3, 4, 6, 7] }] } },
    by decide +kernel⟩,
   ⟨0, { num := 0, blocks := (List.range 8).map fun m => { blockA with moon := m } },
    { base with kv := { versions := [{ ver with place := .qlc, objId := 9, folded := [5] }] }, media := { base.media with bands := [{ num := 0, blocks := (List.range 8).map fun m => { blockA with moon := m } }], dies := [{ moon := 0, die := 0, age := 10 ^ 15 }], pages := [{ block := blockA, index := 0, obj := 9, header := { kind := .qlcPack, stripe := 5 } }] } },
    by decide +kernel⟩,
   ⟨0, { num := 0, blocks := (List.range 8).map fun m => { blockA with moon := m } },
    { base with kv := { versions := [{ ver with place := .slc, objId := 9 }] }, media := { base.media with bands := [{ num := 0, blocks := (List.range 8).map fun m => { blockA with moon := m } }], stripes := [{ num := 5, pads := [1, 2, 3, 4, 6, 7] }] } },
    by decide +kernel⟩,
   ⟨0, blockA, { num := 0, blocks := (List.range 8).map fun m => { blockA with moon := m } },
    { base with kv := { versions := [{ ver with place := .slc, objId := 9 }] }, media := { base.media with bands := [{ num := 0, blocks := (List.range 8).map fun m => { blockA with moon := m } }], dies := [{ moon := 0, die := 0, age := 10 ^ 15 }], blocks := [{ id := blockA, mode := .slc }], pages := [{ block := blockA, index := 0, obj := 9, header := { kind := .slcPack } }] } },
    by decide +kernel⟩,
   ⟨0, blockA, { num := 0, blocks := (List.range 8).map fun m => { blockA with moon := m } },
    { base with kv := { versions := [{ ver with place := .slc, objId := 9 }] }, media := { base.media with bands := [{ num := 0, blocks := (List.range 8).map fun m => { blockA with moon := m } }], stripes := [{ num := 5, pads := [1, 2, 3, 4, 6, 7] }] } },
    by decide +kernel⟩,
   ⟨0, { num := 0, blocks := (List.range 8).map fun m => { blockA with moon := m } },
    { base with kv := { versions := [{ ver with place := .qlc, objId := 9, folded := [5, 1536] }] }, media := { base.media with bands := [{ num := 0, blocks := (List.range 8).map fun m => { blockA with moon := m } }, { num := 1, blocks := (List.range 8).map fun m => { blockA with moon := m, die := 1 } }], blocks := [{ id := { blockA with die := 1 }, level := 4001 }], pages := [{ block := blockA, index := 0, obj := 9, header := { kind := .qlcPack, stripe := 5 } }, { block := { blockA with die := 1 }, index := 0, obj := 9, chunk := 1, header := { kind := .qlcPack, stripe := 1536 } }] } },
    by decide +kernel⟩,
   ⟨0, { num := 0, blocks := (List.range 8).map fun m => { blockA with moon := m } },
    { base with kv := { versions := [{ ver with place := .slc, objId := 9 }] }, media := { base.media with bands := [{ num := 0, blocks := (List.range 8).map fun m => { blockA with moon := m } }], stripes := [{ num := 5, pads := [1, 2, 3, 4, 6, 7] }] } },
    by decide +kernel⟩,
   ⟨0, { num := 0, blocks := (List.range 8).map fun m => { blockA with moon := m } },
    { base with mode := { mode := .custody, archival := true }, media := { base.media with bands := [{ num := 0, blocks := (List.range 8).map fun m => { blockA with moon := m } }] } },
    by decide +kernel⟩⟩

theorem witness_MediaCountersAndSamples :
    (∃ (i : BlockId) (s : State),
      let b := s.block i
      (s.mediaRuns = true) ∧ (b.inService = true)) ∧
    (∃ (i : BlockId) (s : State),
      let b := s.block i
      (s.mediaRuns = false ∨ b.inService = false)) ∧
    (∃ (i : BlockId) (q : Moon) (s : State),
      let b := s.block i
      let samples := s.mediaRuns = true ∧ b.inService = true ∧ s.partOut i = false ∧ s.sampleDue b = true
      (samples) ∧ (s.media.moons[i.moon]? = some q)) ∧
    (∃ (i : BlockId) (s : State),
      let b := s.block i
      let samples := s.mediaRuns = true ∧ b.inService = true ∧ s.partOut i = false ∧ s.sampleDue b = true
      (¬samples)) ∧
    (∃ (i : BlockId) (cause : RetireCause) (s : State),
      let b := s.block i
      let retires := s.mediaRuns = true ∧ b.inService = true ∧ i.moon < 8 ∧ i.die < 512 ∧
          s.mayRetire b cause = true
      (retires) ∧ (i.block < 18312 + s.dieSparesUsed i.moon i.die)) ∧
    (∃ (i : BlockId) (cause : RetireCause) (s : State),
      let b := s.block i
      let retires := s.mediaRuns = true ∧ b.inService = true ∧ i.moon < 8 ∧ i.die < 512 ∧
          s.mayRetire b cause = true
      (¬retires)) ∧
    (∃ (s : State),
      (s.mayProgram = true)) ∧
    (∃ (s : State),
      (s.mayProgram = false)) ∧
    (∃ (moon : Nat) (die : Nat) (s : State),
      (s.power.step ≠ 0) ∧ (s.power.shutDone = false) ∧ (moon < 8) ∧ (die < 512) ∧
      (Sensor.die moon die ∉ s.thermal.broken)) ∧
    (∃ (y : Int) (temps : List (Nat × Nat × Int)) (s : State),
      (s.power.step ≠ 0) ∧ (s.power.shutDone = false) ∧ (leastInt ((s.soundReadings temps).map (·.2.2)) = some y)) ∧
    (∃ (s : State),
      (s.power.step = 0 ∨ s.power.shutDone = true)) ∧
    (∃ (num : Nat) (k : Comet) (s : State),
      (s.comet? num = some k) ∧
      (let ends := k.kind = .rebuild ∧ k.isRunning = true ∧ s.mayProgram = true
       (ends))) ∧
    (∃ (num : Nat) (k : Comet) (s : State),
      (s.comet? num = some k) ∧
      (let ends := k.kind = .rebuild ∧ k.isRunning = true ∧ s.mayProgram = true
       (¬ends))) ∧
    (∃ (n : Nat) (s : State),
      let runs := s.power.step = 12 ∧ s.power.shutDone = false
      (runs) ∧ (2 ≤ n) ∧ (n ≤ 4)) ∧
    (∃ (s : State),
      let runs := s.power.step = 12 ∧ s.power.shutDone = false
      (¬runs)) ∧
    (∃ (l : List Monitor),
      ((∀ m ∈ l, m.samples.length ≤ 4096))) :=
  ⟨⟨{ moon := 7, die := 511, block := 18311 }, base, by decide +kernel⟩,
   ⟨{ blockA with moon := 8 }, withPower {}, by decide +kernel⟩,
   ⟨blockA, {},
    { base with media := { base.media with blocks := [{ id := blockA, mode := .slc }], pages := [{ block := blockA, index := 0, obj := 9, header := { kind := .slcPack } }], starts := 1 }, kv := { versions := [{ ver with place := .slc, objId := 9 }] } },
    by decide +kernel⟩,
   ⟨{ moon := 7, die := 511, block := 18311 }, base, by decide +kernel⟩,
   ⟨{ moon := 7, die := 511, block := 18311 }, .eraseFail, base, by decide +kernel⟩,
   ⟨{ blockA with moon := 8 }, .eraseFail, withPower {}, by decide +kernel⟩,
   ⟨base, by decide +kernel⟩,
   ⟨{ base with mode := { mode := .solo, warming := true } }, by decide +kernel⟩,
   ⟨0, 0, base, by decide +kernel⟩,
   ⟨5, [(0, 0, 5)], base, by decide +kernel⟩,
   ⟨withPower {}, by decide +kernel⟩,
   ⟨77, { num := 77, kind := .rebuild, die := some 3 }, withComet { num := 77, kind := .rebuild, die := some 3 },
    by decide +kernel⟩,
   ⟨77, comet, withComet comet, by decide +kernel⟩,
   ⟨2, base, by decide +kernel⟩,
   ⟨withPower {}, by decide +kernel⟩,
   ⟨[], by decide +kernel⟩⟩

theorem witness_PortsAndLinks :
    (∃ (port : Nat) (sub : Option Nat) (s : State),
      let fails := s.powered = true ∧ port < 32 ∧ s.failing port sub ≠ []
      (s.ports.hosts.length = 32) ∧ (s.ports.logical.length = 128) ∧ (fails) ∧ ((s.host port).live.breakout ≤ 2)) ∧
    (∃ (l : Nat) (s : State),
      let returns := l < 128 ∧ (s.logical l).away = true ∧ bitOf (s.host (l / 4)).linkUp (l % 4) = true
      (s.ports.hosts.length = 32) ∧ (s.ports.logical.length = 128) ∧ (returns)) ∧
    (∃ (port : Nat) (sub : Option Nat) (s : State),
      let fails := s.powered = true ∧ port < 32 ∧ s.failing port sub ≠ []
      (¬fails)) ∧
    (∃ (l : Nat) (s : State),
      let returns := l < 128 ∧ (s.logical l).away = true ∧ bitOf (s.host (l / 4)).linkUp (l % 4) = true
      (¬returns)) ∧
    (∃ (l : Nat) (s : State),
      let serves := s.onAir = true ∧ s.portExists l = true ∧ s.frontIn (if l < 64 then .a else .b) = true
      (serves)) ∧
    (∃ (l : Nat) (s : State),
      let serves := s.onAir = true ∧ s.portExists l = true ∧ s.frontIn (if l < 64 then .a else .b) = true
      (¬serves)) ∧
    (∃ (n : Nat) (q : PairLink) (s : State),
      (s.onAir = true) ∧ (s.ports.links[n]? = some q)) ∧
    (∃ (n : Nat) (s : State),
      (s.onAir = false ∨ s.ports.links[n]? = none)) ∧
    (∃ (l : Nat) (tx : TxFate) (s : State),
      let carrier := if (s.logical l).away then twinOf l else l
      (l < s.ports.logical.length) ∧ (0 < (s.logical l).announce) ∧ (s.onAir = true) ∧ (tx = .eccError) ∧
      (carrier < s.ports.logical.length) ∧ ((s.logical carrier).counters.length = 22)) ∧
    (∃ (l : Nat) (s : State),
      ((s.logical l).announce = 0 ∨ s.onAir = false)) ∧
    (∃ (l : Nat) (s : State),
      (s.powered = true) ∧ (l / 4 < s.ports.hosts.length)) ∧
    (∃ (n : Nat) (q : PairLink) (s : State),
      (s.powered = true) ∧ (s.ports.links[n]? = some q)) ∧
    (∃ (s : State),
      (s.powered = false)) :=
  ⟨⟨31, none, base, by decide +kernel⟩,
   ⟨0, withHost { linkUp := 1 } (withLPort { away := true }), by decide +kernel⟩,
   ⟨32, none, base, by decide +kernel⟩,
   ⟨0, base, by decide +kernel⟩,
   ⟨0, base, by decide +kernel⟩,
   ⟨127, base, by decide +kernel⟩,
   ⟨0, {}, base, by decide +kernel⟩,
   ⟨8, base, by decide +kernel⟩,
   ⟨0, .eccError, withLPort { announce := 1 }, by decide +kernel⟩,
   ⟨0, base, by decide +kernel⟩,
   ⟨0, base, by decide +kernel⟩,
   ⟨0, {}, base, by decide +kernel⟩,
   ⟨withPower {}, by decide +kernel⟩⟩

theorem witness_FramesAreCountedOnce :
    (∃ (l : Nat) (target : Bytes) (s : State),
      let asks := s.onAir = true ∧ l < 128 ∧ target ∈ s.carried l
      (l < s.ports.logical.length) ∧ ((s.logical l).counters.length = 22) ∧ (asks)) ∧
    (∃ (l : Nat) (s : State),
      let here := s.powered = true ∧ s.portExists l = true
      (l < s.ports.logical.length) ∧ ((s.logical l).counters.length = 22) ∧ (here) ∧
      ((s.host (l / 4)).live.pfcEn = true)) ∧
    (∃ (l : Nat) (s : State),
      let answers := s.onAir = true ∧ s.portExists l = true
      (l < s.ports.logical.length) ∧ ((s.logical l).counters.length = 22) ∧ (answers)) ∧
    (∃ (l : Nat) (s : State),
      let here := s.powered = true ∧ s.portExists l = true
      (¬here)) ∧
    (∃ (l : Nat) (s : State),
      let here := s.powered = true ∧ s.portExists l = true
      (¬here ∨ (s.host (l / 4)).live.pfcEn = false)) ∧
    (∃ (l : Nat) (target : Bytes) (s : State),
      let asks := s.onAir = true ∧ l < 128 ∧ target ∈ s.carried l
      (¬asks)) ∧
    (∃ (l : Nat) (s : State),
      let answers := s.onAir = true ∧ s.portExists l = true
      (¬answers)) ∧
    (∃ (n : Nat) (q : PairLink) (s : State),
      (s.ports.links[n]? = some q) ∧ (q.counters.length = 22) ∧ (s.powered = true)) ∧
    (∃ (s : State),
      (s.powered = false)) :=
  ⟨⟨0, [10, 0, 0, 1], withLPort { live := overwrite lbytes 0x08 [10, 0, 0, 1, 1] }, by decide +kernel⟩,
   ⟨0, withHost { live := { pfcEn := true } }, by decide +kernel⟩,
   ⟨0, base, by decide +kernel⟩,
   ⟨0, withPower {}, by decide +kernel⟩,
   ⟨0, base, by decide +kernel⟩,
   ⟨0, [], base, by decide +kernel⟩,
   ⟨0, withPower {}, by decide +kernel⟩,
   ⟨0, { linkOn with counters := List.replicate 22 0 },
    { base with ports := { base.ports with links := { linkOn with counters := List.replicate 22 0 } :: List.replicate 7 {} } },
    by decide +kernel⟩,
   ⟨withPower {}, by decide +kernel⟩⟩

theorem witness_TimeIsDisciplined :
    (∃ (k : Int) (p : Nat) (s : State),
      let src := s.settings.timeSource
      let ptp := s.powered = true ∧ s.time.up = true ∧ (src = 1 ∨ src = 3)
      (ptp) ∧ (p = s.ptpSource) ∧ (-7 ≤ k) ∧ (k ≤ 1)) ∧
    (∃ (k : Int) (p : Nat) (s : State),
      let src := s.settings.timeSource
      let ptp := s.powered = true ∧ s.time.up = true ∧ (src = 1 ∨ src = 3)
      (ptp) ∧ (p = s.ptpSource) ∧ (k < -7 ∨ 1 < k)) ∧
    (∃ (p : Nat) (m : PtpMsg) (s : State),
      let src := s.settings.timeSource
      let d := s.ptpDomain
      let ptp := s.powered = true ∧ s.time.up = true ∧ (src = 1 ∨ src = 3)
      (ptp) ∧ (p = s.ptpSource) ∧ (m.domain ≠ d)) ∧
    (∃ (p : Nat) (s : State),
      let src := s.settings.timeSource
      let ptp := s.powered = true ∧ s.time.up = true ∧ (src = 1 ∨ src = 3)
      (ptp) ∧ (p ≠ s.ptpSource)) ∧
    (∃ (s : State),
      let src := s.settings.timeSource
      let ptp := s.powered = true ∧ s.time.up = true ∧ (src = 1 ∨ src = 3)
      (¬ptp)) ∧
    (∃ (s : State),
      let src := s.settings.timeSource
      (s.time.up = true) ∧ (src = 1)) ∧
    (∃ (s : State),
      let src := s.settings.timeSource
      (s.time.up = true) ∧ (src = 3)) ∧
    (∃ (s : State),
      let src := s.settings.timeSource
      (s.time.up = false ∨ ¬(src = 1 ∨ src = 3))) ∧
    (∃ (o : Int) (w : Nat) (s : State),
      let src := s.settings.timeSource
      let pps := s.time.up = true ∧ (src = 2 ∨ src = 3) ∧ 100 ≤ w ∧ s.shorted pinPps = false
      let off := s.time.ppsOk = true ∧ (o < -10000 ∨ 10000 < o)
      (pps) ∧ (¬off)) ∧
    (∃ (o : Int) (w : Nat) (s : State),
      let src := s.settings.timeSource
      let pps := s.time.up = true ∧ (src = 2 ∨ src = 3) ∧ 100 ≤ w ∧ s.shorted pinPps = false
      let off := s.time.ppsOk = true ∧ (o < -10000 ∨ 10000 < o)
      (pps) ∧ (off)) ∧
    (∃ (w : Nat) (s : State),
      let src := s.settings.timeSource
      let pps := s.time.up = true ∧ (src = 2 ∨ src = 3) ∧ 100 ≤ w ∧ s.shorted pinPps = false
      (¬pps)) ∧
    (∃ (s : State),
      let src := s.settings.timeSource
      (s.time.up = true) ∧ (src = 2 ∨ src = 3) ∧ (s.time.ppsOk = true)) ∧
    (∃ (s : State),
      let src := s.settings.timeSource
      (s.time.up = false ∨ ¬(src = 2 ∨ src = 3) ∨ s.time.ppsOk = false)) :=
  ⟨⟨0, 0, withTime { goodSyncs := 15, todSet := true } 1, by decide +kernel⟩,
   ⟨2, 0, withTime {} 1, by decide +kernel⟩,
   ⟨0, ⟨1, .announce⟩, withTime {} 1, by decide +kernel⟩,
   ⟨127, withTime {} 1, by decide +kernel⟩,
   ⟨withTime { ppsSeconds := some 1, now := 1000000000 } 2, by decide +kernel⟩,
   ⟨withTime { goodSyncs := 15, todSet := true } 1, by decide +kernel⟩,
   ⟨withTime {} 3, by decide +kernel⟩,
   ⟨withTime { ppsSeconds := some 1, now := 1000000000 } 2, by decide +kernel⟩,
   ⟨0, 100, withTime { ppsSeconds := some 1, now := 1000000000 } 2, by decide +kernel⟩,
   ⟨10001, 100, withTime { ppsOk := true } 2, by decide +kernel⟩,
   ⟨0, withTime { goodSyncs := 15, todSet := true } 1, by decide +kernel⟩,
   ⟨withTime { ppsOk := true } 2, by decide +kernel⟩,
   ⟨withTime { goodSyncs := 15, todSet := true } 1, by decide +kernel⟩⟩

theorem witness_DeviceRecordsAndFormat :
    (∃ (ref : Nat) (c : Cmd) (s : State) (k : Comp),
      (s.Ready ref c (fun d => dOpcode d == 0x57)) ∧ (c.decided = false) ∧ (s.formatRefusal c.desc = some k)) ∧
    (∃ (ref : Nat) (c : Cmd) (s : State),
      (s.Ready ref c (fun d => dOpcode d == 0x57)) ∧
      (let idle := ∀ n ∈ s.ns, s.inFlightOf n.nsid = false
       (c.decided = false) ∧ (s.formatRefusal c.desc = none) ∧ (idle))) ∧
    (∃ (ref : Nat) (c : Cmd) (s : State),
      (s.Ready ref c (fun d => dOpcode d == 0x57)) ∧
      (let idle := ∀ n ∈ s.ns, s.inFlightOf n.nsid = false
       (c.decided = true) ∧ (idle))) ∧
    (∃ (ref : Nat) (c : Cmd) (s : State),
      (s.Ready ref c (fun d => dOpcode d == 0x57)) ∧
      (let idle := ∀ n ∈ s.ns, s.inFlightOf n.nsid = false
       (c.decided = true) ∧ (¬idle))) ∧
    (∃ (ref : Nat) (c : Cmd) (s : State),
      (s.isOrphan c.sid = false) ∧ (s.session? c.sid ≠ none) ∧ (s.Ready ref c (fun d => dOpcode d == 0x58)) ∧
      (432 ≤ dValueLen c.desc)) ∧
    (∃ (ref : Nat) (c : Cmd) (s : State),
      (s.isOrphan c.sid = false) ∧ (s.session? c.sid ≠ none) ∧ (s.Ready ref c (isAdm 0x59 1))) ∧
    (∃ (ref : Nat) (c : Cmd) (s : State),
      let es := s.logFrom (u64At c.desc 24) (u32At c.desc 32)
      (s.isOrphan c.sid = false) ∧ (s.session? c.sid ≠ none) ∧ (s.Ready ref c (fun d => dOpcode d == 0x5A)) ∧
      (1 ≤ u32At c.desc 32) ∧ (u32At c.desc 32 ≤ 65536) ∧ (es ≠ [])) ∧
    (∃ (ref : Nat) (c : Cmd) (s : State),
      (s.Ready ref c (fun d => dOpcode d == 0x58)) ∧ (dValueLen c.desc < 432)) ∧
    (∃ (ref : Nat) (c : Cmd) (s : State),
      (s.Ready ref c (isAdm 0x59 2)) ∧ (s.isCustodian c = false)) ∧
    (∃ (ref : Nat) (c : Cmd) (s : State),
      (s.Ready ref c (isAdm 0x59 2)) ∧ (s.isCustodian c = true)) ∧
    (∃ (ref : Nat) (c : Cmd) (s : State),
      (s.Ready ref c (fun d => dOpcode d == 0x5A)) ∧ (u32At c.desc 32 = 0 ∨ 65536 < u32At c.desc 32)) ∧
    (∃ (ref : Nat) (c : Cmd) (s : State),
      let es := s.logFrom (u64At c.desc 24) (u32At c.desc 32)
      (s.Ready ref c (fun d => dOpcode d == 0x5A)) ∧ (1 ≤ u32At c.desc 32) ∧ (u32At c.desc 32 ≤ 65536) ∧ (es = [])) :=
  ⟨⟨0, adm [(0, 1, 0x57), (8, 1, 5)], withCmd (adm [(0, 1, 0x57), (8, 1, 5)]), Comp.denied 7, by decide +kernel⟩,
   ⟨0, adm [(0, 1, 0x57)], withCmd (adm [(0, 1, 0x57)]) (stored), by decide +kernel⟩,
   ⟨0, { adm [(0, 1, 0x57)] with decided := true }, withCmd ({ adm [(0, 1, 0x57)] with decided := true }) (stored),
    by decide +kernel⟩,
   ⟨0, { adm [(0, 1, 0x57)] with decided := true },
    { base with cmds := { list := [{ put with ref := 1, phase := .valueWait, locked := true }, { adm [(0, 1, 0x57)] with decided := true }], nextRef := 2 } },
    by decide +kernel⟩,
   ⟨0, adm [(0, 1, 0x58), (56, 4, 432)], withCmd (adm [(0, 1, 0x58), (56, 4, 432)]), by decide +kernel⟩,
   ⟨0, adm [(0, 1, 0x59), (8, 1, 1)], withCmd (adm [(0, 1, 0x59), (8, 1, 1)]), by decide +kernel⟩,
   ⟨0, adm [(0, 1, 0x5A), (32, 4, 65536)], withCmd (adm [(0, 1, 0x5A), (32, 4, 65536)])
    ({ base with attn := { log := [{ seq := 1, time := 0, code := 0x0601, severity := 1, unit := 0xFF }], nextSeq := 2 } }),
    by decide +kernel⟩,
   ⟨0, adm [(0, 1, 0x58)], withCmd (adm [(0, 1, 0x58)]) (base), by decide +kernel⟩,
   ⟨0, adm [(0, 1, 0x59), (8, 1, 2), (28, 4, 0xFFFFFFFF)], withCmd (adm [(0, 1, 0x59), (8, 1, 2), (28, 4,
    0xFFFFFFFF)]) (withSess { sess with role := 2 }), by decide +kernel⟩,
   ⟨0, adm [(0, 1, 0x59), (8, 1, 2), (28, 4, 0xFFFFFFFF)], withCmd (adm [(0, 1, 0x59), (8, 1, 2), (28, 4,
    0xFFFFFFFF)]), by decide +kernel⟩,
   ⟨0, adm [(0, 1, 0x5A)], withCmd (adm [(0, 1, 0x5A)]) (base), by decide +kernel⟩,
   ⟨0, adm [(0, 1, 0x5A), (32, 4, 5)], withCmd (adm [(0, 1, 0x5A), (32, 4, 5)]) (base), by decide +kernel⟩⟩

theorem witness_LightsShowTheState :
    (∃ (s : State),
      (s.feeds.mgmtUp = true) ∧ (s.feeds.bulkUp = true) ∧ (s.attn.causes.getLsbD cFatal = false)) ∧
    (∃ (s : State),
      (s.powered = true) ∧ (s.mode.fatal = false)) ∧
    (∃ (s : State),
      (s.power.shutdown = some .stay) ∧ (s.feeds.mgmtUp = true)) ∧
    (∃ (s : State),
      (0 < s.power.step) ∧ (s.power.step < 11) ∧ (s.power.shutDone = false) ∧ (s.feeds.mgmtUp = true) ∧
      (s.feeds.loss = .none)) :=
  ⟨⟨base, by decide +kernel⟩,
   ⟨base, by decide +kernel⟩,
   ⟨withPower { step := 12, shutdown := some .stay }, by decide +kernel⟩,
   ⟨withPower { step := 10 }, by decide +kernel⟩⟩

end Sys2Proof.Tests
end

/-! SUPPORT and the settlement of O52: the loss and the return of a Front (01 R28, R34, R35), and the checks and repairs of
the rows of a search unit (10 R421 to R425). The loss is taken apart once, into what it logs, the work its peer resumes
and the ports its peer carries; each part keeps `State.frontView`. -/

namespace Sys2Proof.Machine

/-! ### Folds -/

/-- What one step of a fold keeps, the fold keeps. -/
theorem foldl_keeps {α β : Type} (p : State → β) (f : State → α → State) (h : ∀ s a, p (f s a) = p s) (l : List α)
    (s : State) : p (l.foldl f s) = p s :=
  List.foldlRecOn l f (motive := fun t => p t = p s) rfl fun t ht a _ => (h t a).trans ht

/-! ### What the operations of a Front's loss leave of the Fronts, the shards and the attention causes -/

/-- The Fronts, the shards of Front B, the attention causes and the mode. -/
def State.frontView (s : State) := (s.media.fronts, s.media.shardB, s.attn.causes, s.mode)

variable (s : State)

@[simp] theorem State.emit_frontView (o : Output) : (s.emit o).frontView = s.frontView := rfl
@[simp] theorem State.emitAll_frontView (os : List Output) : (s.emitAll os).frontView = s.frontView := rfl
@[simp] theorem State.modCmd_frontView (ref : Nat) (f : Cmd → Cmd) : (s.modCmd ref f).frontView = s.frontView := rfl
@[simp] theorem State.modComet_frontView (num : Nat) (f : Comet → Comet) : (s.modComet num f).frontView = s.frontView := rfl
@[simp] theorem State.modSession_frontView (sid : Nat) (f : Session → Session) :
    (s.modSession sid f).frontView = s.frontView := rfl
@[simp] theorem State.releaseLocks_frontView (ref : Nat) : (s.releaseLocks ref).frontView = s.frontView := rfl
@[simp] theorem State.releaseReserved_frontView (c : Cmd) : (s.releaseReserved c).frontView = s.frontView := rfl
theorem State.withSeq_frontView (q : Seq) : ({ s with seq := q }).frontView = s.frontView := rfl
@[simp] theorem State.portsDark_frontView (f : Front) : (s.portsDark f).frontView = s.frontView := rfl
@[simp] theorem State.carryAway_frontView (l : Nat) (on : Bool) : (s.carryAway l on).frontView = s.frontView := rfl

@[simp] theorem State.toHost_frontView (sid : Nat) (o : Output) : (s.toHost sid o).frontView = s.frontView := by
  unfold State.toHost
  (repeat' split) <;> rfl

@[simp] theorem State.writeStatus_frontView (num : Nat) : (s.writeStatus num).frontView = s.frontView := by
  unfold State.writeStatus
  split
  · rfl
  · dsimp only
    split
    · rfl
    · rw [State.modComet_frontView, State.toHost_frontView]
      split <;> rfl

@[simp] theorem State.endComets_frontView (p : Comet → Bool) (st : CometState) (cause status : Nat) (quiet : Bool) :
    (s.endComets p st cause status quiet).frontView = s.frontView := by
  refine foldl_keeps State.frontView _ (fun s n => ?_) _ s
  unfold State.endComet
  (repeat' split) <;> simp

@[simp] theorem State.sequencerTakeover_frontView (f : Front) : (s.sequencerTakeover f).frontView = s.frontView := by
  unfold State.sequencerTakeover
  split
  · refine foldl_keeps State.frontView State.regrant (fun s c => ?_) _ _
    unfold State.regrant
    split <;> rfl
  · rfl

@[simp] theorem State.dropExtents_frontView (es : List Extent) (token : Option Nat) :
    (s.dropExtents es token).frontView = s.frontView := by
  cases token with
  | none => rfl
  | some t => exact foldl_keeps State.frontView (fun s m => s.logMap m 0 (.void t)) (fun _ _ => rfl) (pairMoons es) s

@[simp] theorem State.undo_frontView (c : Cmd) : (s.undo c).frontView = s.frontView := by
  unfold State.undo
  split
  · rfl
  · dsimp only
    rw [State.modCmd_frontView, State.withSeq_frontView, State.releaseReserved_frontView, State.dropExtents_frontView,
      State.releaseLocks_frontView]

@[simp] theorem State.afresh_frontView (c : Cmd) : (s.afresh c).frontView = s.frontView := by
  unfold State.afresh
  dsimp only
  split <;> simp

@[simp] theorem State.rereadValue_frontView (c : Cmd) : (s.rereadValue c).frontView = s.frontView := rfl

@[simp] theorem State.rewriteComp_frontView (u : Nat × Nat) : (s.rewriteComp u).frontView = s.frontView := by
  unfold State.rewriteComp
  dsimp only
  (repeat' split) <;> rfl

/-! ### The Fronts in service -/

/-- A Front is in service as its entry in the list says. -/
theorem State.frontIn_eq {f : Front} {q : FrontPart} (h : s.media.fronts[frontIdx f]? = some q) :
    s.frontIn f = q.inService := by
  simp [State.frontIn, h]

/-- A Front in service stands in the list. -/
theorem State.frontIn_iff {s : State} {f : Front} :
    s.frontIn f = true ↔ ∃ q, s.media.fronts[frontIdx f]? = some q ∧ q.inService = true := by
  simp [State.frontIn, Option.getD_eq_iff]

/-- A list of two elements. -/
theorem eq_pair_of_length {α : Type} {l : List α} (h : l.length = 2) : ∃ a b, l = [a, b] := by
  match l, h with
  | [a, b], _ => exact ⟨a, b, rfl⟩

/-- Some Front runs: of two Fronts, the one or the other. -/
theorem State.anyFront_eq (h : s.media.fronts.length = 2) (f : Front) :
    s.anyFront = (s.frontIn f || s.frontIn (otherFront f)) := by
  obtain ⟨a, b, h⟩ := eq_pair_of_length h
  cases f <;> simp [State.anyFront, State.frontIn, frontIdx, otherFront, h, Bool.or_comm]

variable {s}

/-- After a change of Front `f` it is in service as the change says, and its peer as before. -/
theorem State.frontIn_modify {t : State} {f : Front} {p q : FrontPart} (hq : s.media.fronts[frontIdx f]? = some q)
    (ht : t.media.fronts = s.media.fronts.modify (frontIdx f) fun _ => p) :
    t.frontIn f = p.inService ∧ t.frontIn (otherFront f) = s.frontIn (otherFront f) := by
  have ne : frontIdx f ≠ frontIdx (otherFront f) := by cases f <;> decide
  constructor
  · simp [State.frontIn, ht, hq]
  · simp [State.frontIn, ht, ne]

/-- There are two Fronts. -/
theorem eq_otherFront {f g : Front} (h : g ≠ f) : g = otherFront f := by
  revert h
  cases f <;> cases g <;> decide

variable (s)

/-! ### A Front stops: its loss, and what its peer takes over -/

/-- Front `f` is out of service and its peer owns every shard; its loss is logged, with ATTN#. -/
def State.frontStopped (f : Front) (lost byte : Nat) : State :=
  State.raise { s with media := { s.media with
      fronts := s.media.fronts.modify (frontIdx f) fun _ => { inService := false, lostCause := lost }
      shardB := if f == .a then List.range 64 else [] } } cFront 0x0401 (0x10 + frontIdx f) 0 [(0, toLe 1 byte)]

/-- The work of a stopped Front goes on: its sessions' comets end, the sequencer passes to its peer, and its commands are
executed again, read again or written again. -/
def State.workResumed (f : Front) (unacked : List (Nat × Nat)) : State :=
  let sids := s.sidsOn f
  let s1 := s.endComets (fun k => k.kind != .rebuild && decide (k.sid ∈ sids)) .aborted 0x03 0 false
  let s2 := s1.sequencerTakeover f
  let again := s2.cmds.list.filter fun c => decide (c.sid ∈ sids) && c.isAfresh
  let kept := s2.cmds.list.filter fun c => decide (c.sid ∈ sids) && c.isCommitted && !c.progd
  (unacked.filter fun u => decide (u.1 ∈ sids)).foldl State.rewriteComp
    (kept.foldl State.rereadValue (again.foldl State.afresh s2))

/-- The peer of Front `f` serves its sessions and carries the addresses of its ports. -/
def State.portsTaken (f : Front) : State :=
  let xs := mapWhere (fun (x : Session) => decide (x.front = f)) (fun x => { x with front := otherFront f }) s.sess.sessions
  let s1 := State.portsDark { s with sess := { s.sess with sessions := xs } } f
  let back := (frontPorts (otherFront f)).filter fun l => (s1.logical l).away
  let moved := (frontPorts f).filter fun l => s1.portExists l && !(s1.logical l).away
  moved.foldl (fun s l => s.carryAway l true) (back.foldl (fun s l => s.carryAway l false) s1)

/-- What the loss of a Front in service does: a fatal fault with no Front left, else its peer takes over. -/
theorem State.frontOut_eq {f : Front} (hf : s.frontIn f = true) (lost byte : Nat) (unacked : List (Nat × Nat)) :
    s.frontOut f lost byte unacked =
      if (s.frontStopped f lost byte).anyFront then ((s.frontStopped f lost byte).workResumed f unacked).portsTaken f
      else (s.frontStopped f lost byte).fatalFault 0x0401 := by
  obtain ⟨q, hq, hin⟩ := State.frontIn_iff.mp hf
  unfold State.frontOut
  simp only [hq, hin]
  change (if !(s.frontStopped f lost byte).anyFront then _ else _) = _
  cases (s.frontStopped f lost byte).anyFront <;> rfl

/-- A Front out of service cannot be lost again. -/
theorem State.frontOut_idle (f : Front) (hf : s.frontIn f = false) (lost byte : Nat) (unacked : List (Nat × Nat)) :
    s.frontOut f lost byte unacked = s := by
  unfold State.frontOut
  split
  · rfl
  · next q hq => rw [if_pos (by simpa [State.frontIn, hq] using hf)]

@[simp] theorem State.workResumed_frontView (f : Front) (unacked : List (Nat × Nat)) :
    (s.workResumed f unacked).frontView = s.frontView := by
  unfold State.workResumed
  dsimp only
  rw [foldl_keeps State.frontView _ State.rewriteComp_frontView, foldl_keeps State.frontView _ State.rereadValue_frontView,
    foldl_keeps State.frontView _ State.afresh_frontView, State.sequencerTakeover_frontView, State.endComets_frontView]

@[simp] theorem State.portsTaken_frontView (f : Front) : (s.portsTaken f).frontView = s.frontView := by
  unfold State.portsTaken
  dsimp only
  rw [foldl_keeps State.frontView _ fun s l => s.carryAway_frontView l true,
    foldl_keeps State.frontView _ fun s l => s.carryAway_frontView l false]
  rfl

/-! ### The sessions of a stopped Front -/

/-- Every session is on Front `g`. -/
def State.AllOn (g : Front) (s : State) : Prop := ∀ x ∈ s.sess.sessions, x.front = g

variable {s}

/-- The carrier of a port's addresses becomes the Front of its sessions. -/
theorem State.AllOn.carryAway {g : Front} (h : s.AllOn g) (l : Nat) (on : Bool)
    (hg : portFront (if on then twinOf l else l) = g) : (s.carryAway l on).AllOn g := by
  intro x hx
  obtain ⟨y, hy, rfl⟩ := List.mem_map.mp hx
  split
  · exact hg
  · exact h y hy

theorem State.AllOn.foldl_carryAway {g : Front} (h : s.AllOn g) (on : Bool) (ls : List Nat)
    (hg : ∀ l ∈ ls, portFront (if on then twinOf l else l) = g) : (ls.foldl (fun s l => s.carryAway l on) s).AllOn g :=
  List.foldlRecOn ls _ (motive := State.AllOn g) h fun _ ht l hl => ht.carryAway l on (hg l hl)

variable (s)

/-- A port of Front `f` is carried by Front `f` itself, and its twin by the other one. -/
theorem portFront_of_mem_frontPorts {f : Front} {l : Nat} (h : l ∈ frontPorts f) :
    portFront l = f ∧ portFront (twinOf l) = otherFront f := by
  revert l
  cases f <;> decide

/-- The peer has every session: those of the stopped Front are moved, and there are only two Fronts. -/
theorem State.portsTaken_allOn (f : Front) : (s.portsTaken f).AllOn (otherFront f) := by
  unfold State.portsTaken
  refine State.AllOn.foldl_carryAway (State.AllOn.foldl_carryAway ?_ false _ ?_) true _ ?_
  · intro x hx
    obtain ⟨y, -, rfl⟩ := List.mem_map.mp hx
    split
    · rfl
    · next hy => exact eq_otherFront (by simpa using hy)
  · intro l hl
    exact (portFront_of_mem_frontPorts (List.mem_filter.mp hl).1).1
  · intro l hl
    exact (portFront_of_mem_frontPorts (List.mem_filter.mp hl).1).2

/-! ### Without a Front the module ends in SERVICE -/

@[simp] theorem State.programSlc_frontView (moon : Nat) (g : Image) : (s.programSlc moon g).frontView = s.frontView := by
  unfold State.programSlc State.onMedia
  dsimp only
  (repeat' split) <;> rfl

@[simp] theorem State.programExtent_frontView (w : PageOwner) (token : Option Nat) (e : Extent) :
    (s.programExtent w token e).frontView = s.frontView :=
  foldl_keeps State.frontView _ (fun s k => by rw [State.programPair, State.programSlc_frontView, State.programSlc_frontView]) _ s

/-- Programming an extent leaves the commands. -/
theorem State.programExtent_cmds (w : PageOwner) (token : Option Nat) (e : Extent) :
    (s.programExtent w token e).cmds = s.cmds := congrArg (·.2.1) (s.programExtent_hostView w token e)

/-- Programming the staged versions keeps what neither the programming of an extent nor a write of the versions changes. -/
theorem State.programStaged_keeps {α : Type} (p : State → α)
    (hv : ∀ s (v : List Version), p { s with kv := { s.kv with versions := v } } = p s)
    (he : ∀ s w token e, p (State.programExtent s w token e) = p s) (s : State) : p s.programStaged = p s := by
  refine foldl_keeps p State.programVersion (fun s v => ?_) _ s
  unfold State.programVersion
  dsimp only
  rw [hv]
  split
  · exact foldl_keeps p _ (fun s e => he s _ _ e) _ s
  · rfl

@[simp] theorem State.programAll_frontView : s.programAll.frontView = s.frontView :=
  State.programStaged_keeps State.frontView (fun _ _ => rfl) State.programExtent_frontView s

@[simp] theorem State.programAll_cmds : s.programAll.cmds = s.cmds :=
  State.programStaged_keeps State.cmds (fun _ _ => rfl) State.programExtent_cmds s

@[simp] theorem State.islandsOff_frontView : s.islandsOff.frontView = s.frontView := s.programAll_frontView

@[simp] theorem State.islandsOff_cmds : s.islandsOff.cmds.list = [] := rfl

@[simp] theorem State.gasp_frontView : s.gasp.frontView = s.frontView := by
  unfold State.gasp
  rw [foldl_keeps State.frontView]
  · split <;> rfl
  · intro s n
    unfold State.sendOn
    split <;> rfl

/-- With no command none is refused. -/
theorem State.refuseUnlocked_of_noCmds (hc : s.cmds.list = []) : s.refuseUnlocked = s := by
  simp [State.refuseUnlocked, State.finishAll, hc]

/-- With no command to refuse, a change of the mode is logged and does no more. -/
theorem State.setMode_of_noCmds (m : Mode) (cause : Nat) (hc : s.cmds.list = []) :
    (s.setMode m cause).frontView = (s.media.fronts, s.media.shardB, s.attn.causes, { s.mode with mode := m }) ∧
      (s.setMode m cause).cmds = s.cmds := by
  unfold State.setMode
  dsimp only
  split
  · next h => subst h; exact ⟨rfl, rfl⟩
  · rw [State.refuseUnlocked_of_noCmds]
    · exact ⟨by simp [State.frontView], rfl⟩
    · exact hc

/-- The causes after an event that asserts ATTN#. -/
theorem State.raise_causes (bit code unit index : Nat) (data : List (Nat × Bytes)) :
    (s.raise bit code unit index data).attn.causes = s.attn.causes ||| (1#32 <<< bit) := by
  simp [State.raise, State.setCause]

/-- A raised cause is among those that assert ATTN#. -/
theorem State.raise_cause {bit : Nat} (hb : bit < 32) (code unit index : Nat) (data : List (Nat × Bytes)) :
    (s.raise bit code unit index data).attn.causes.getLsbD bit = true := by
  rw [State.raise_causes]
  simp [hb]

/-- The fatal condition, with ATTN#, once the commands are done with; what is staged is programmed. -/
def State.fatalRaised (cause : Nat) : State :=
  State.raise { s.programAll with mode := { s.mode with fatal := true } } cFatal 0x0105 0xFF 0 [(0, toLe 4 cause)]

/-- SERVICE, with the mode before it. -/
def State.serviceEntered : State :=
  if s.mode.mode = .service then s
  else ({ s with mode := { s.mode with beforeService := s.mode.mode } }).setMode .service 0x10

/-- SERVICE entered without commands: the Fronts, the causes and the fatal condition stay. -/
theorem State.serviceEntered_of_noCmds (hc : s.cmds.list = []) :
    let t := s.serviceEntered
    t.media.fronts = s.media.fronts ∧ t.mode.fatal = s.mode.fatal ∧ t.mode.mode = .service ∧
      t.attn.causes = s.attn.causes ∧ t.cmds.list = [] := by
  unfold State.serviceEntered
  dsimp only
  split
  · next h => exact ⟨rfl, rfl, h, rfl, hc⟩
  · obtain ⟨view, cmds⟩ :=
      State.setMode_of_noCmds { s with mode := { s.mode with beforeService := s.mode.mode } } .service 0x10 hc
    simp only [State.frontView, Prod.mk.injEq] at view
    obtain ⟨fronts, -, causes, mode⟩ := view
    rw [fronts, mode, causes, cmds]
    exact ⟨rfl, rfl, rfl, rfl, hc⟩

/-- A member of a pair in operation gasps before anything else. -/
def State.gaspedIfPaired : State :=
  if s.pair.paired && s.mode.mode ≠ .service && s.power.step == 12 then s.gasp else s

theorem State.gaspedIfPaired_frontView : s.gaspedIfPaired.frontView = s.frontView := by
  unfold State.gaspedIfPaired
  split <;> simp

/-- A fatal fault with no Front in service: the Fronts stay as they are, SERVICE is in force, no command is left. -/
theorem State.fatalFault_noFront (cause : Nat) (hf : s.mode.fatal = false) (ha : s.anyFront = false) :
    let t := s.fatalFault cause
    t.media.fronts = s.media.fronts ∧ t.mode.fatal = true ∧ t.mode.mode = .service ∧
      t.attn.causes.getLsbD cFatal = true ∧ t.cmds.list = [] := by
  have view := s.gaspedIfPaired_frontView
  have noFront : s.gaspedIfPaired.anyFront = false := by
    rw [← ha]; exact congrArg (fun v => v.1.any (·.inService)) view
  have entered : s.fatalFault cause = (s.gaspedIfPaired.islandsOff.fatalRaised cause).serviceEntered := by
    unfold State.fatalFault
    rw [if_neg (by simp [hf])]
    change State.serviceEntered (State.fatalRaised (if s.gaspedIfPaired.anyFront then
      s.gaspedIfPaired.commitOrDiscard 0x04 [] else s.gaspedIfPaired.islandsOff) cause) = _
    rw [noFront]
    rfl
  have fronts : (s.gaspedIfPaired.islandsOff.fatalRaised cause).media.fronts = s.media.fronts :=
    congrArg (·.1) (((State.programAll_frontView _).trans (State.islandsOff_frontView _)).trans view)
  have cmds : (s.gaspedIfPaired.islandsOff.fatalRaised cause).cmds.list = [] := by
    rw [State.fatalRaised, State.raise, State.logEvent_cmds, State.setCause_cmds, State.programAll_cmds,
      State.islandsOff_cmds]
  obtain ⟨hfronts, hfatal, hmode, hcauses, hcmds⟩ := State.serviceEntered_of_noCmds _ cmds
  rw [entered]
  exact ⟨hfronts.trans fronts, hfatal, hmode, by rw [hcauses]; exact State.raise_cause _ (by decide) _ _ _ _, hcmds⟩

/-! ### A Front returns -/

/-- An insertion adds its element and no other. -/
theorem mem_insertBy {α : Type} (le : α → α → Bool) (a b : α) (l : List α) : b ∈ insertBy le a l ↔ b = a ∨ b ∈ l := by
  induction l with
  | nil => simp [insertBy]
  | cons c l ih =>
    unfold insertBy
    split
    · rw [List.mem_cons, ih, List.mem_cons, or_left_comm]
    · rw [List.mem_cons]

/-- A shard handed back belongs to its home Front, and the others to whom they did. -/
theorem State.mem_handShard (n k : Nat) :
    k ∈ (s.handShard n).media.shardB ↔ if k = n then 32 ≤ n else k ∈ s.media.shardB := by
  unfold State.handShard
  by_cases hn : 32 ≤ n
  · simp only [hn, decide_true, if_true, State.logEvent_media, State.draw_media, mem_insertBy]
    split <;> simp_all
  · simp only [hn, decide_false, Bool.false_eq_true, if_false, State.logEvent_media, State.draw_media, List.mem_filter]
    split <;> simp_all

/-- Shards handed back one after the other belong to their home Fronts. -/
theorem State.mem_foldl_handShard (l : List Nat) (k : Nat) :
    k ∈ (l.foldl State.handShard s).media.shardB ↔ if k ∈ l then 32 ≤ k else k ∈ s.media.shardB := by
  induction l generalizing s with
  | nil => simp
  | cons n l ih =>
    rw [List.foldl_cons, ih, State.mem_handShard]
    by_cases hl : k ∈ l <;> by_cases hn : k = n <;> simp [hl, hn]

/-- What the return of a Front leaves: the store, the sessions and the commands, and of the Fronts all but itself. -/
theorem State.frontBack_keeps (f : Front) :
    let t := s.frontBack f
    t.media.fronts = (s.media.fronts.modify (frontIdx f) fun _ => {}) ∧ t.kv = s.kv ∧ t.sess = s.sess ∧ t.cmds = s.cmds := by
  have h := fun (s : State) l =>
    foldl_keeps (fun t => (t.media.fronts, t.kv, t.sess, t.cmds)) State.handShard (fun _ _ => rfl) l s
  simp only [Prod.mk.injEq] at h
  exact h _ _

/-- The home shards of a Front that is back. -/
theorem State.mem_frontBack (f : Front) (n : Nat) (hn : n < 64) (hf : f = .a ↔ n < 32) :
    n ∈ (s.frontBack f).media.shardB ↔ f = .b := by
  unfold State.frontBack
  dsimp only
  rw [State.mem_foldl_handShard]
  cases f with
  | a =>
    have : n < 32 := hf.mp rfl
    simp [this]
  | b =>
    have : 32 ≤ n := by simpa using hf
    have : n ∈ (List.range 64).drop 32 := List.mem_drop_iff_getElem.mpr
      ⟨n - 32, by rw [List.length_range]; omega, by rw [List.getElem_range]; omega⟩
    simp [*]

/-! ### Rows of the search units -/

theorem bitOf_eq_testBit (n i : Nat) : bitOf n i = n.testBit i := by
  have one : bitOf n i = decide (n / 2 ^ i % 2 ^ 1 = 1) := rfl
  rw [one, Nat.testBit_eq_decide_div_mod_eq, Nat.pow_one]

theorem oddBits_zero (w : Nat) : oddBits w 0 = false := by
  have none : (List.range w).filter (bitOf 0) = [] :=
    List.filter_eq_nil_iff.mpr fun i _ => by rw [bitOf_eq_testBit, Nat.zero_testBit]; exact Bool.false_ne_true
  rw [oddBits, none]
  rfl

/-- A row with its PARITY has even parity: its lowest bits are those that the PARITY covers, and the next is their parity. -/
theorem oddBits_withParity (w n h : Nat) : oddBits (w + 1) (withParity w n + h * 2 ^ (w + 1)) = false := by
  have halves : withParity w n + h * 2 ^ (w + 1) = 2 ^ w * (2 * h + (oddBits w n).toNat) + n % 2 ^ w := by
    unfold withParity
    rw [Nat.pow_succ, Nat.mul_left_comm h, Nat.mul_comm h 2, Nat.mul_add]
    cases oddBits w n <;> simp <;> omega
  have hlt : n % 2 ^ w < 2 ^ w := Nat.mod_lt _ (Nat.two_pow_pos w)
  have low : (List.range w).filter (bitOf (withParity w n + h * 2 ^ (w + 1))) = (List.range w).filter (bitOf n) := by
    refine List.filter_congr fun i hi => ?_
    have hi : i < w := List.mem_range.mp hi
    rw [bitOf_eq_testBit, bitOf_eq_testBit, halves, Nat.testBit_two_pow_mul_add _ hlt, if_pos hi, Nat.testBit_mod_two_pow]
    simp [hi]
  have top : bitOf (withParity w n + h * 2 ^ (w + 1)) w = oddBits w n := by
    rw [bitOf_eq_testBit, halves, Nat.testBit_two_pow_mul_add _ hlt, if_neg (Nat.lt_irrefl w), Nat.sub_self]
    cases oddBits w n <;> simp
  have odd : oddBits w n = (((List.range w).filter (bitOf n)).length % 2 == 1) := rfl
  unfold oddBits
  rw [List.range_succ, List.filter_append, low, List.filter_cons, List.filter_nil, top, odd, List.length_append]
  by_cases hb : ((List.range w).filter (bitOf n)).length % 2 = 1
  · rw [if_pos (beq_iff_eq.mpr hb), List.length_singleton]
    exact beq_eq_false_iff_ne.mpr (by omega)
  · rw [if_neg (mt beq_iff_eq.mp hb), List.length_nil]
    exact beq_eq_false_iff_ne.mpr hb

/-- The bits of a row never fail their PARITY. -/
theorem State.parityFails_rowImage (u : AsuTable) (row : Nat) : parityFails u (s.rowImage u row) = false := by
  unfold parityFails State.rowImage
  dsimp only
  split
  · exact oddBits_withParity _ _ _
  · exact oddBits_zero _

/-- What is read of a row as it stands is no fault, whoever checks it. -/
theorem State.rowFault_rowImage (u : AsuTable) (row : Nat) (how : AsuCheck) :
    s.rowFault u row (s.rowImage u row) how = false := by
  cases how <;> simp [State.rowFault, State.shadow, State.parityFails_rowImage]

/-- A pass finds at odds what differs from the row. -/
theorem State.rowFault_scrub (u : AsuTable) (row bits : Nat) :
    s.rowFault u row bits .scrub = true ↔ bits ≠ s.rowImage u row := by
  simp [State.rowFault, State.shadow]

/-- A wake for the module's own work changes the power state alone. -/
theorem State.wakeForWork_eq : s.wakeForWork = { s with power := s.wakeForWork.power } := by
  unfold State.wakeForWork State.wake
  (repeat' split) <;> rfl

/-- The search units with one repair more counted in table `u`. -/
abbrev State.asuRepaired (u : AsuTable) : Asu := { s.asu with repairs := s.asu.repairs.modify (tableIdx u) (· + 1) }

/-- What a repair of a row leaves, whoever makes it. -/
theorem State.repairRow_keeps (f : Front) (u : AsuTable) (row peer : Nat) :
    (s.repairRow f u row peer).asu = s.asuRepaired u ∧ (s.repairRow f u row peer).kv = s.kv ∧
      (s.repairRow f u row peer).power = s.power ∧ (s.repairRow f u row peer).attn.causes = s.attn.causes :=
  ⟨rfl, rfl, rfl, State.logEvent_causes _ _ _ _ _⟩

/-! ### The loss of a Front -/

variable {s}

/-- A stopped Front is out of service, and its peer is in service or not as before. -/
theorem State.frontStopped_frontIn {f : Front} {q : FrontPart} (hq : s.media.fronts[frontIdx f]? = some q) (lost byte : Nat) :
    (s.frontStopped f lost byte).frontIn f = false ∧
      (s.frontStopped f lost byte).frontIn (otherFront f) = s.frontIn (otherFront f) :=
  State.frontIn_modify (p := { inService := false, lostCause := lost }) hq rfl

/-- The loss of a Front asserts ATTN#. -/
theorem State.frontStopped_attn (f : Front) (lost byte : Nat) :
    (s.frontStopped f lost byte).attn.causes.getLsbD cFront = true :=
  State.raise_cause _ (by decide) _ _ _ _

theorem State.frontStopped_fatal (f : Front) (lost byte : Nat) :
    (s.frontStopped f lost byte).mode.fatal = s.mode.fatal := rfl

/-- With the same Fronts in the list the same ones are in service. -/
theorem State.frontIn_congr {t : State} (h : t.media.fronts = s.media.fronts) (f : Front) : t.frontIn f = s.frontIn f := by
  rw [State.frontIn, h, State.frontIn]

/-- A Front that is lost beside one in service: its peer has the shards and the sessions. -/
theorem State.frontOut_toPeer {f : Front} (hf : s.frontIn f = true) (lost byte : Nat) (unacked : List (Nat × Nat))
    (ha : (s.frontStopped f lost byte).anyFront = true) :
    (s.frontOut f lost byte unacked).frontView = (s.frontStopped f lost byte).frontView ∧
      (s.frontOut f lost byte unacked).AllOn (otherFront f) := by
  rw [State.frontOut_eq _ hf, if_pos ha]
  exact ⟨by simp, State.portsTaken_allOn _ _⟩

/-- A Front that is lost with no other left: the fatal fault. -/
theorem State.frontOut_last {f : Front} (hf : s.frontIn f = true) (lost byte : Nat) (unacked : List (Nat × Nat))
    (ha : (s.frontStopped f lost byte).anyFront = false) :
    s.frontOut f lost byte unacked = (s.frontStopped f lost byte).fatalFault 0x0401 := by
  rw [State.frontOut_eq _ hf, ha]
  rfl

/-- Whatever follows the loss of a Front, no other Front goes out of service or comes back. -/
theorem State.frontOut_fronts {f : Front} (hf : s.frontIn f = true) (lost byte : Nat) (unacked : List (Nat × Nat)) :
    (s.frontOut f lost byte unacked).media.fronts = (s.frontStopped f lost byte).media.fronts := by
  cases ha : (s.frontStopped f lost byte).anyFront with
  | true => exact congrArg (·.1) (State.frontOut_toPeer hf lost byte unacked ha).1
  | false =>
    rw [State.frontOut_last hf _ _ _ ha]
    cases hm : s.mode.fatal with
    | true => simp [State.fatalFault, State.frontStopped_fatal, hm]
    | false => exact (State.fatalFault_noFront (s.frontStopped f lost byte) _ hm ha).1

/-- A lost Front is out of service. -/
theorem State.frontOut_frontIn {f : Front} (hf : s.frontIn f = true) (lost byte : Nat) (unacked : List (Nat × Nat)) :
    (s.frontOut f lost byte unacked).frontIn f = false := by
  obtain ⟨q, hq, -⟩ := State.frontIn_iff.mp hf
  rw [State.frontIn_congr (State.frontOut_fronts hf lost byte unacked)]
  exact (State.frontStopped_frontIn hq lost byte).1

/-! ### The rows -/

theorem exec_frontLost (f : Front) (loss : FrontLoss) (s : State) : exec (.frontLost f loss) s = execFrontLost f loss s := rfl
theorem exec_frontReturn (f : Front) (s : State) : exec (.frontReturn f) s = execFrontReturn f s := rfl
theorem exec_asuScrub (f : Front) (u : AsuTable) (x : Option AsuFinding) (s : State) :
    exec (.asuScrub f u x) s = execAsuScrub f u x s := rfl
theorem exec_asuPeerRepair (f : Front) (u : AsuTable) (row : Nat) (s : State) :
    exec (.asuPeerRepair f u row) s = execAsuPeerRepair f u row s := rfl

/-- A Front lost in a powered module goes out of service. -/
theorem exec_frontLost_powered (f : Front) (loss : FrontLoss) (hp : s.powered = true) :
    exec (.frontLost f loss) s = .next (s.frontOut f 2 loss.cause loss.unacked) := by
  rw [exec_frontLost, execFrontLost, if_pos hp]

/-- FRONT_LOST with a peer in service (16 Table 16.1, 01 R27, R28, R34). -/
theorem runs_frontLost_toPeer {f : Front} {q : FrontPart} (hn : s.media.fronts.length = 2)
    (hq : s.media.fronts[frontIdx f]? = some q) (hp : s.powered = true) (hin : q.inService = true)
    (hpeer : s.frontIn (otherFront f) = true) (loss : FrontLoss) :
    Runs (.frontLost f loss) s fun t => t.frontIn f = false ∧ t.frontIn (otherFront f) = true ∧
      t.attn.causes.getLsbD cFront = true ∧ t.media.shardB = (if f = .a then List.range 64 else []) ∧
        ∀ x ∈ t.sess.sessions, x.front = otherFront f := by
  have hf : s.frontIn f = true := by rw [s.frontIn_eq hq, hin]
  obtain ⟨out, peer⟩ := State.frontStopped_frontIn hq 2 loss.cause
  have ha : (s.frontStopped f 2 loss.cause).anyFront = true := by
    rw [State.anyFront_eq _ (by simpa [State.frontStopped, State.raise] using hn) f, peer, hpeer, Bool.or_true]
  obtain ⟨view, on⟩ := State.frontOut_toPeer hf 2 loss.cause loss.unacked ha
  simp only [State.frontView, Prod.mk.injEq] at view
  obtain ⟨fronts, shards, causes, -⟩ := view
  refine ⟨_, exec_frontLost_powered f loss hp, ?_, ?_, ?_, ?_, on⟩
  · rw [State.frontIn_congr fronts, out]
  · rw [State.frontIn_congr fronts, peer, hpeer]
  · rw [causes, State.frontStopped_attn]
  · rw [shards]; cases f <;> rfl

/-- FRONT_LOST with no peer in service (16 Table 16.2). -/
theorem runs_frontLost_last {f : Front} {q : FrontPart} (hn : s.media.fronts.length = 2)
    (hq : s.media.fronts[frontIdx f]? = some q) (hp : s.powered = true) (hin : q.inService = true)
    (hpeer : s.frontIn (otherFront f) = false) (hm : s.mode.fatal = false) (loss : FrontLoss) :
    Runs (.frontLost f loss) s fun t => t.frontIn f = false ∧ t.mode.fatal = true ∧ t.mode.mode = .service ∧
      t.attn.causes.getLsbD cFatal = true ∧ t.cmds.list = [] := by
  have hf : s.frontIn f = true := by rw [s.frontIn_eq hq, hin]
  obtain ⟨out, peer⟩ := State.frontStopped_frontIn hq 2 loss.cause
  have ha : (s.frontStopped f 2 loss.cause).anyFront = false := by
    rw [State.anyFront_eq _ (by simpa [State.frontStopped, State.raise] using hn) f, out, peer, hpeer, Bool.or_false]
  refine ⟨_, exec_frontLost_powered f loss hp, State.frontOut_frontIn hf _ _ _, ?_⟩
  rw [State.frontOut_last hf _ _ _ ha]
  exact (State.fatalFault_noFront (s.frontStopped f 2 loss.cause) _ hm ha).2

/-- FRONT_LOST changes nothing in a module that is not powered, or of a Front out of service. -/
theorem exec_frontLost_idle {f : Front} {q : FrontPart} (hq : s.media.fronts[frontIdx f]? = some q)
    (h : s.powered = false ∨ q.inService = false) (loss : FrontLoss) : exec (.frontLost f loss) s = .next s := by
  rw [exec_frontLost, execFrontLost]
  split
  · next hp =>
    rw [State.frontOut_idle _ _ (by rw [s.frontIn_eq hq]; simpa [hp] using h)]
  · rfl

/-- What keeps a Front out of service, or finds it in service (01 R35, 20 R712, 02 R88). -/
def State.frontStays (s : State) (q : FrontPart) : Prop :=
  s.powered = false ∨ q.inService = true ∨ q.lostCause = 1 ∨ q.lostCause = 3 ∨ s.mode.fatal = true

/-- FRONT_RETURN brings back every other Front. -/
theorem exec_frontReturn_back {f : Front} {q : FrontPart} (hq : s.media.fronts[frontIdx f]? = some q) (h : ¬s.frontStays q) :
    exec (.frontReturn f) s = .next (s.frontBack f) := by
  rw [exec_frontReturn, execFrontReturn, hq]
  simp only [State.frontStays, not_or, Bool.not_eq_false, Bool.not_eq_true] at h
  obtain ⟨hp, hin, h1, h3, hm⟩ := h
  simp [hp, hin, h1, h3, hm]

/-- FRONT_RETURN changes nothing of a Front that stays as it is. -/
theorem exec_frontReturn_stays {f : Front} {q : FrontPart} (hq : s.media.fronts[frontIdx f]? = some q) (h : s.frontStays q) :
    exec (.frontReturn f) s = .next s := by
  rw [exec_frontReturn, execFrontReturn, hq]
  dsimp only
  rw [if_pos (by simpa [State.frontStays, or_assoc] using h)]

/-- FRONT_RETURN (01 R35, R36). -/
theorem runs_frontReturn {f : Front} {q : FrontPart} (hq : s.media.fronts[frontIdx f]? = some q) (h : ¬s.frontStays q) :
    Runs (.frontReturn f) s fun t => t.frontIn f = true ∧ t.frontIn (otherFront f) = s.frontIn (otherFront f) ∧
      (∀ n, n < 64 → (f = .a ↔ n < 32) → (n ∈ t.media.shardB ↔ f = .b)) ∧ t.kv = s.kv ∧ t.sess = s.sess ∧
        t.cmds = s.cmds := by
  obtain ⟨fronts, kept⟩ := s.frontBack_keeps f
  obtain ⟨back, peer⟩ := State.frontIn_modify hq fronts
  exact ⟨_, exec_frontReturn_back hq h, back, peer, s.mem_frontBack f, kept⟩

/-- A pass of the scrubber in a module that fetches, on a Front in service. -/
theorem exec_asuScrub_runs {f : Front} (hs : s.fetching = true) (hf : s.frontIn f = true) (u : AsuTable)
    (x : Option AsuFinding) :
    exec (.asuScrub f u x) s = .next (match x with
      | none => s.wakeForWork
      | some r => if r.row < tableRows u ∧ s.rowFault u r.row r.bits r.how = true then s.wakeForWork.repairRow f u r.row 0
        else s.wakeForWork) := by
  rw [exec_asuScrub, execAsuScrub]
  cases x <;> simp [hs, hf]

/-- ASU_SCRUB of a row at odds with its shadow (10 R422, R423, R425). -/
theorem runs_asuScrub_faulty {f : Front} (hs : s.fetching = true) (hf : s.frontIn f = true) {u : AsuTable} {r : AsuFinding}
    (hr : r.row < tableRows u ∧ s.rowFault u r.row r.bits r.how = true) :
    Runs (.asuScrub f u (some r)) s fun t =>
      t.asu = s.asuRepaired u ∧ t.kv = s.kv ∧ t.attn.causes = s.attn.causes := by
  refine ⟨_, exec_asuScrub_runs hs hf u (some r), ?_⟩
  simp only [if_pos hr]
  obtain ⟨asu, kv, -, causes⟩ := s.wakeForWork.repairRow_keeps f u r.row 0
  rw [asu, kv, causes, s.wakeForWork_eq]
  exact ⟨rfl, rfl, rfl⟩

/-- ASU_SCRUB that finds nothing at odds wakes the module and does no more. -/
theorem runs_asuScrub_agrees {f : Front} (hs : s.fetching = true) (hf : s.frontIn f = true) {u : AsuTable}
    {x : Option AsuFinding} (hx : ∀ r ∈ x, ¬(r.row < tableRows u ∧ s.rowFault u r.row r.bits r.how = true)) :
    Runs (.asuScrub f u x) s fun t => t.asu = s.asu ∧ t.kv = s.kv ∧ t.attn = s.attn := by
  refine ⟨s.wakeForWork, ?_, ?_⟩
  · rw [exec_asuScrub_runs hs hf]
    cases x with
    | none => rfl
    | some r => simp only [if_neg (hx r rfl)]
  · rw [s.wakeForWork_eq]
    exact ⟨rfl, rfl, rfl⟩

/-- ASU_SCRUB changes nothing in a module that does not fetch, or on a Front out of service. -/
theorem exec_asuScrub_idle {f : Front} (h : s.fetching = false ∨ s.frontIn f = false) (u : AsuTable)
    (x : Option AsuFinding) : exec (.asuScrub f u x) s = .next s := by
  rw [exec_asuScrub, execAsuScrub, if_pos (by simpa using h)]

section
variable {f : Front} {u : AsuTable} {row : Nat}

/-- ASU_PEER_REPAIR acts on a row of the table, on a powered Front in service. -/
theorem exec_asuPeerRepair_acts (hp : s.powered = true) (hf : s.frontIn f = true) (hr : row < tableRows u) :
    exec (.asuPeerRepair f u row) s =
      .next (if s.frontIn (otherFront f) then s.repairRow f u row 1 else s.frontOut f 2 2 []) := by
  rw [exec_asuPeerRepair, execAsuPeerRepair, if_neg (by simpa [hp, hf] using hr)]

/-- ASU_PEER_REPAIR with a peer in service (10 R424). -/
theorem runs_asuPeerRepair_fromPeer (hp : s.powered = true) (hf : s.frontIn f = true) (hr : row < tableRows u)
    (hpeer : s.frontIn (otherFront f) = true) : Runs (.asuPeerRepair f u row) s fun t =>
      t.asu = s.asuRepaired u ∧ t.kv = s.kv ∧ t.power = s.power := by
  obtain ⟨asu, kv, power, -⟩ := s.repairRow_keeps f u row 1
  exact ⟨_, by rw [exec_asuPeerRepair_acts hp hf hr, if_pos hpeer], asu, kv, power⟩

/-- ASU_PEER_REPAIR without a peer fails the Front (10 R424). -/
theorem runs_asuPeerRepair_alone (hp : s.powered = true) (hf : s.frontIn f = true) (hr : row < tableRows u)
    (hpeer : s.frontIn (otherFront f) = false) : Runs (.asuPeerRepair f u row) s fun t => t.frontIn f = false :=
  ⟨_, by rw [exec_asuPeerRepair_acts hp hf hr, hpeer, if_neg Bool.false_ne_true], State.frontOut_frontIn hf 2 2 []⟩

/-- ASU_PEER_REPAIR changes nothing without power, on a Front out of service, or of a row that the table has not. -/
theorem exec_asuPeerRepair_idle (h : s.powered = false ∨ s.frontIn f = false ∨ tableRows u ≤ row) :
    exec (.asuPeerRepair f u row) s = .next s := by
  rw [exec_asuPeerRepair, execAsuPeerRepair, if_pos (by simpa [or_assoc] using h)]

end

/-- Settles O52: from what the loss of a Front does with and without a peer (`State.frontOut_eq`), the shards that its
return hands back one by one, and the even parity of every row of a search unit (`State.parityFails_rowImage`). -/
theorem frontsAndSearchUnits : Obligations.FrontsAndSearchUnits := by
  unfold Obligations.FrontsAndSearchUnits
  refine ⟨fun f cause unacked q s hn hq => ⟨fun hp hin => ⟨?_, ?_⟩, ?_, ?_, ?_⟩,
    fun f u r row s => ⟨s.rowFault_scrub u r.row r.bits, s.parityFails_rowImage u r.row, ?_, fun hs hf => ⟨?_, ?_, ?_⟩, ?_,
      fun hp hf hr => ⟨?_, ?_⟩, exec_asuPeerRepair_idle⟩⟩
  · exact fun hpeer => runs_frontLost_toPeer hn hq hp hin hpeer ⟨cause, unacked⟩
  · exact fun hpeer hm => runs_frontLost_last hn hq hp hin hpeer hm ⟨cause, unacked⟩
  · exact fun h => exec_frontLost_idle hq h ⟨cause, unacked⟩
  · exact runs_frontReturn hq
  · exact exec_frontReturn_stays hq
  · exact fun h => h ▸ s.rowFault_rowImage u r.row r.how
  · exact runs_asuScrub_faulty hs hf
  · exact fun h => runs_asuScrub_agrees hs hf (by simpa using h)
  · exact runs_asuScrub_agrees hs hf (by simp)
  · exact fun h => exec_asuScrub_idle h u
  · exact runs_asuPeerRepair_fromPeer hp hf hr
  · exact runs_asuPeerRepair_alone hp hf hr

end Sys2Proof.Machine

/-! SUPPORT and the settlement of O15: how a command goes on to its next wait when its host areas are read (04 R184), its key
locks are granted (10 R415, R416), its value arrives (05 R209, 08 R323) or one of its extents is staged (08 R326, 14 R542). -/

namespace Sys2Proof.Machine

variable (s : State)

/-! ### A command after an update -/

/-- With the same commands the same one is found. -/
theorem State.cmd?_congr {s t : State} (h : t.cmds.list = s.cmds.list) (ref : Nat) : t.cmd? ref = s.cmd? ref := by
  rw [State.cmd?, h, State.cmd?]

/-- A command that is found, after a change of its own. -/
theorem State.cmd?_of_change {s t : State} {ref : Nat} {c : Cmd} (f : Cmd → Cmd)
    (ht : t.cmds.list = (s.modCmd ref f).cmds.list) (h : s.cmd? ref = some c) (hf : ∀ d, (f d).ref = d.ref) :
    t.cmd? ref = some (f c) := by
  rw [State.cmd?_congr ht, s.cmd?_modCmd ref f hf, h]
  rfl

/-- A command, after a change of every command. -/
theorem State.cmd?_of_changeAll {s t : State} {ref : Nat} {c : Cmd} (f : Cmd → Cmd) (ht : t.cmds.list = s.cmds.list.map f)
    (h : s.cmd? ref = some c) (hf : ∀ d, (f d).ref = d.ref) : t.cmd? ref = some (f c) := by
  rw [State.cmd?, ht, List.find?_map]
  have same : ((fun d : Cmd => d.ref == ref) ∘ f) = fun d => d.ref == ref := funext fun d => congrArg (· == ref) (hf d)
  rw [same]
  exact congrArg (Option.map f) h

/-- While no object command waits for its turn, none takes it. -/
theorem State.settle_of_settled {s : State} (h : s.Settled) : s.settle = s := by
  have none_waits : s.cmds.list.filter (·.phase == .turnWait) = [] :=
    List.filter_eq_nil_iff.mpr fun c hc => by simpa using h c hc
  rw [State.settle, none_waits]
  rfl

/-- A change that makes no command wait for its turn. -/
theorem State.Settled.modCmd {s : State} (h : s.Settled) (ref : Nat) {f : Cmd → Cmd} (hf : ∀ d, (f d).phase ≠ .turnWait) :
    (s.modCmd ref f).Settled := by
  intro c hc
  obtain ⟨d, hd, rfl⟩ := List.mem_map.mp hc
  split
  · exact hf d
  · exact h d hd

/-! ### Host areas -/

/-- Outputs do not change the later checks of a command. -/
@[simp] theorem State.lateCheck_emitAll (os : List Output) (c : Cmd) : (s.emitAll os).lateCheck c = s.lateCheck c := rfl

/-- The areas of a command that is no comet give its parts, and its later checks pass: it is ready (04 R184). -/
theorem State.areasRead_ready {s : State} {c : Cmd} {a : HostAreas} {ps : List Part} (hop : dOpcode c.desc ≠ opComet)
    (hps : (s.partsFrom c a).parts = .inl ps) (hlate : s.lateCheck { c with parts := ps } = none) :
    s.areasRead c a = (s.emitAll (s.partsFrom c a).reads).modCmd c.ref fun c =>
      { c with parts := ps, phase := .ready, late := true } := by
  unfold State.areasRead
  simp only [beq_eq_false_iff_ne.mpr hop, Bool.false_eq_true, if_false, hps, State.lateCheck_emitAll, hlate]

/-! ### Key locks -/

/-- The rows, with each row of command `ref` granted. -/
def grantRows (ref : Nat) (rows : List LockRow) : List LockRow :=
  rows.map fun r => if r.ref = ref then { r with granted := true } else r

/-- The grant of a granted row changes nothing. -/
theorem LockRow.grant_of_granted {r : LockRow} (h : r.granted = true) : { r with granted := true } = r := by
  rw [← h]

/-- The rows of command `ref` are granted, and no more changes. -/
def State.rowsGranted (ref : Nat) : State := { s with locks := { s.locks with rows := grantRows ref s.locks.rows } }

/-- A row clear of more rows is clear of fewer. -/
theorem clearOf_mono {before fewer : List LockRow} {r : LockRow} (h : clearOf before r = true) (hs : fewer ⊆ before) :
    clearOf fewer r = true :=
  List.all_eq_true.mpr fun q hq => List.all_eq_true.mp h q (hs hq)

/-- A lookup sees rows of the table. -/
theorem State.lockLookup_subset (r : LockRow) : s.lockLookup r ⊆ s.locks.rows := by
  unfold State.lockLookup
  split
  · exact List.Subset.refl _
  · exact List.filter_sublist.subset

/-- What a waiting row is compared with is granted or stands before it. -/
theorem State.awaited_subset (ref : Nat) (r : LockRow) :
    (s.lockLookup r).filter (fun q => q.granted || decide (q ∈ s.rowsBefore ref r.part)) ⊆
      s.rowsBefore ref r.part ++ s.locks.rows.filter (·.granted) := by
  intro q hq
  obtain ⟨hin, hq⟩ := List.mem_filter.mp hq
  rw [Bool.or_eq_true, decide_eq_true_eq] at hq
  rcases hq with granted | before
  · exact List.mem_append_right _ (List.mem_filter.mpr ⟨s.lockLookup_subset r hin, granted⟩)
  · exact List.mem_append_left _ before

/-- The rows of a command that are clear of the granted rows and of those before them are granted (10 R415). -/
theorem State.tryRow_of_clear {s : State} {ref : Nat} (h : ∀ r ∈ s.locks.rows, r.ref = ref →
    clearOf (s.rowsBefore ref r.part ++ s.locks.rows.filter (·.granted)) r = true) :
    s.tryRow ref = s.rowsGranted ref := by
  rw [State.tryRow, List.map_congr_left (g := fun r => if r.ref = ref then { r with granted := true } else r)]
  · rfl
  · intro r hr
    by_cases mine : r.ref = ref
    · have clear := clearOf_mono (h r hr mine) (s.awaited_subset ref r)
      cases granted : r.granted with
      | false => simp [mine, clear]
      | true =>
        rw [if_pos mine, LockRow.grant_of_granted granted]
        simp
    · simp [mine]

/-- A command without a queued request has none to take out of the queue. -/
theorem State.leaveQueue_of_unqueued {s : State} {ref : Nat} (h : s.locks.overflow.any (·.ref == ref) = false) :
    s.leaveQueue ref = s := by
  have unqueued : s.locks.overflow.find? (·.ref == ref) = none :=
    List.find?_eq_none.mpr fun r hr => by simpa using List.any_eq_false.mp h r hr
  rw [State.leaveQueue, unqueued]

/-- With no lock left to ask for, none is requested. -/
theorem State.requestLocks_of_noneLeft {s : State} {ref : Nat} {c : Cmd} (h : s.cmd? ref = some c) (ht : c.lockTodo = [])
    (fuel : Nat) : State.requestLocks fuel ref s = s := by
  cases fuel with
  | zero => rfl
  | succ n => rw [State.requestLocks, h]; simp only [ht]

/-- Once a command's rows are granted, its row of every part that has one is. -/
theorem State.rowGranted_rowsGranted {s : State} {ref : Nat} {i : Nat} (h : ∃ r ∈ s.locks.rows, r.ref = ref ∧ r.part = i) :
    (s.rowsGranted ref).rowGranted ref i = true := by
  obtain ⟨r, hr, href, hpart⟩ := h
  refine List.any_eq_true.mpr ⟨{ r with granted := true }, List.mem_map.mpr ⟨r, hr, if_pos href⟩, ?_⟩
  rw [href, hpart, beq_self_eq_true, beq_self_eq_true]
  rfl

/-- Every row of a command is granted after `grantRows`. -/
theorem grantRows_all (ref : Nat) (rows : List LockRow) :
    ((grantRows ref rows).filter (·.ref == ref)).all (·.granted) = true := by
  refine List.all_eq_true.mpr fun q hq => ?_
  obtain ⟨hin, href⟩ := List.mem_filter.mp hq
  obtain ⟨r, -, rfl⟩ := List.mem_map.mp hin
  by_cases mine : r.ref = ref
  · rw [if_pos mine]
  · rw [if_neg mine] at href
    exact absurd (by simpa using href) mine

/-! ### Decide -/

/-- The first part whose condition fails does not depend on the commands or on the Key-Lock Table. -/
theorem State.firstFailure_withTable (cs : Cmds) (l : Locks) (i : Nat) (ps : List Part) :
    State.firstFailure { s with cmds := cs, locks := l } i ps = s.firstFailure i ps := by
  induction ps generalizing i with
  | nil => rfl
  | cons p ps ih =>
    rw [State.firstFailure, State.firstFailure, ih]
    rfl

/-- The steps of decide before the value step do not depend on the commands or on the Key-Lock Table. -/
theorem State.decideFailure_withTable (cs : Cmds) (l : Locks) (c : Cmd) :
    State.decideFailure { s with cmds := cs, locks := l } c = s.decideFailure c := by
  rw [State.decideFailure, State.firstFailure_withTable]
  rfl

/-- What a decided mutation waits for: its CSN, in the order of the requests, or the rest of its value (05 R209, 07 R292). -/
def Cmd.afterDecide (c : Cmd) (asked : Nat) : Cmd :=
  if c.received then { c with phase := .csnWait, asked := asked } else { c with phase := .valueWait }

/-- A decided mutation asks for its CSN once its value is received. -/
theorem State.cmd?_askCsn {s : State} {ref : Nat} {c : Cmd} (h : s.cmd? ref = some c) (hd : c.decided = true) :
    (s.askCsn ref).cmd? ref = some (c.afterDecide s.cmds.nextAsk) := by
  rw [State.askCsn, h]
  dsimp only
  rw [hd, Bool.true_and, Cmd.afterDecide]
  split
  · exact State.cmd?_of_change (fun c => { c with phase := .csnWait, asked := s.cmds.nextAsk }) rfl h fun _ => rfl
  · exact State.cmd?_of_change (fun c => { c with phase := .valueWait }) rfl h fun _ => rfl

@[simp] theorem State.askCsn_locks (ref : Nat) : (s.askCsn ref).locks = s.locks := by
  unfold State.askCsn
  split
  · rfl
  · split <;> rfl

/-- A mutation that passes decide reserves its growth and asks for its CSN (05 R195, 13 R509). -/
theorem State.decideMutation_of_passes {s : State} {ref : Nat} {c : Cmd} (h : s.cmd? ref = some c)
    (ho : s.objectEnded c = false) (hf : s.decideFailure c = none) :
    s.decideMutation ref =
      (State.modCmd { s with ns := ((s.growths c).map reservation).foldl reserve s.ns } ref fun d =>
        { d with decided := true, reserved := (s.growths c).map reservation }).askCsn ref := by
  rw [State.decideMutation, h]
  simp only [ho, hf, Bool.false_eq_true, if_false]

/-- A mutation has all its locks, and their grant its number. -/
def State.lockedAll (ref : Nat) : State := (s.modCmd ref fun c => { c with locked := true }).numberGrant ref

theorem State.cmd?_lockedAll {s : State} {ref : Nat} {c : Cmd} (h : s.cmd? ref = some c) :
    (s.lockedAll ref).cmd? ref = some { c with locked := true, order := s.cmds.nextOrd } :=
  State.cmd?_of_change (fun c => { c with order := s.cmds.nextOrd }) rfl
    (State.cmd?_of_change (fun c => { c with locked := true }) rfl h fun _ => rfl) fun _ => rfl

/-- A mutation that has all its locks is decided (05 R195). -/
theorem State.afterLocks_of_holdsAll {s : State} {ref : Nat} {c : Cmd} (h : s.cmd? ref = some c) (hl : s.holdsAll c = true) :
    s.afterLocks ref = (s.lockedAll ref).decideMutation ref := by
  rw [State.afterLocks, h]
  exact if_pos hl

/-- A mutation that has all its locks and passes decide is locked, decided and asks for its CSN; the table stays. -/
theorem State.afterLocks_of_passes {s : State} {ref : Nat} {c : Cmd} (h : s.cmd? ref = some c) (hl : s.holdsAll c = true)
    (ho : s.objectEnded c = false) (hf : s.decideFailure c = none) :
    (s.afterLocks ref).locks = s.locks ∧ (s.afterLocks ref).Has ref fun d =>
      d.locked = true ∧ d.decided = true ∧ d.phase = if c.received then .csnWait else .valueWait := by
  have found := State.cmd?_lockedAll h
  rw [State.afterLocks_of_holdsAll h hl,
    State.decideMutation_of_passes found ho ((s.decideFailure_withTable (s.lockedAll ref).cmds s.locks _).trans hf)]
  refine ⟨by rw [State.askCsn_locks]; rfl, _, State.cmd?_askCsn (State.cmd?_of_change _ rfl found fun _ => rfl) rfl, ?_⟩
  unfold Cmd.afterDecide
  split
  · next received => exact ⟨rfl, rfl, (if_pos received).symm⟩
  · next awaited => exact ⟨rfl, rfl, (if_neg awaited).symm⟩

/-- Once its rows are granted, a command that has a row for every part holds all its locks. -/
theorem State.holdsAll_rowsGranted {s : State} {c : Cmd} (ht : c.lockTodo = [])
    (hrows : ∀ i < c.parts.length, ∃ r ∈ s.locks.rows, r.ref = c.ref ∧ r.part = i) :
    (s.rowsGranted c.ref).holdsAll c = true := by
  rw [State.holdsAll, ht, List.isEmpty_nil, Bool.true_and]
  exact List.all_eq_true.mpr fun i hi => State.rowGranted_rowsGranted (hrows i (List.mem_range.mp hi))

/-- A waiting lock request whose rows are clear is granted, and no further one is made (10 R415). -/
theorem State.leaveLockWait_of_clear {s : State} {c : Cmd} (h : s.cmd? c.ref = some c)
    (hq : s.locks.overflow.any (·.ref == c.ref) = false) (ht : c.lockTodo = [])
    (hclear : ∀ r ∈ s.locks.rows, r.ref = c.ref →
      clearOf (s.rowsBefore c.ref r.part ++ s.locks.rows.filter (·.granted)) r = true) :
    s.leaveLockWait c = (s.rowsGranted c.ref).afterLocks c.ref := by
  have goes_on : ((s.rowsGranted c.ref).locks.overflow.any (·.ref == c.ref) ||
      !((s.rowsGranted c.ref).locks.rows.filter (·.ref == c.ref)).all (·.granted)) = false :=
    Bool.or_eq_false_iff.mpr ⟨hq, by rw [State.rowsGranted, grantRows_all]; rfl⟩
  rw [State.leaveLockWait, State.leaveQueue_of_unqueued hq, State.tryRow_of_clear hclear, goes_on,
    State.requestLocks_of_noneLeft (s := s.rowsGranted c.ref) h ht]
  rfl

/-- An ORDERED read goes on once the command before it has reached its commit point (06 R258). -/
theorem State.leaveOrder_of_read {s : State} {c : Cmd} (hop : opMutation (dOpcode c.desc) = false) (hm : s.mayCommit c = true) :
    s.leaveOrder c = s.modCmd c.ref fun c => { c with phase := .ready } := by
  simp [State.leaveOrder, hop, hm]

/-! ### Values -/

/-- The object identifier of a part that is placed: its own, or the next one (08 R323). -/
def State.objFor (p : Part) : Nat := if p.obj = 0 then s.kv.nextObjId else p.obj

/-- The version that the one part of a command writes gets its object identifier (08 R323); no CSN is asked for. -/
theorem State.giveObject_onePart {s : State} {ref : Nat} {c : Cmd} {p : Part} (h : s.cmd? ref = some c)
    (hp : c.parts = [p]) :
    (s.giveObject ref 0).1.cmds.nextAsk = s.cmds.nextAsk ∧
      (s.giveObject ref 0).1.cmd? ref = some { c with parts := [{ p with obj := s.objFor p }] } := by
  have at_hand : (s.cmd? ref).bind (fun c => c.parts[0]?) = some p := by rw [h]; exact congrArg (·[0]?) hp
  rw [State.giveObject, at_hand]
  dsimp only
  by_cases new : p.obj = 0
  · rw [if_neg (by simpa using new), State.objFor, if_pos new]
    refine ⟨rfl, (State.cmd?_of_change (fun c => { c with parts := c.parts.modify 0 fun p =>
      { p with obj := s.kv.nextObjId } }) rfl h fun _ => rfl).trans ?_⟩
    rw [hp]
    rfl
  · rw [if_pos (by simpa using new), State.objFor, if_neg new, h]
    exact ⟨rfl, congrArg (fun ps => some { c with parts := ps }) hp⟩

/-- The placement of extents leaves the commands. -/
theorem placeExtents_cmds (f : Nat × Nat → Cut) (cuts : List (Nat × Nat)) (st : State × List Extent) :
    (cuts.foldl (fun st cut => placeExtent st (f cut)) st).1.cmds = st.1.cmds := by
  refine List.foldlRecOn cuts _ (motive := fun (t : State × List Extent) => t.1.cmds = st.1.cmds) rfl fun t ht cut _ => ?_
  rw [← ht, placeExtent]
  split <;> rfl

/-- The placement of a value is, for the commands, the gift of an object identifier and the note of its extents. -/
theorem State.placeValue_cmds (ref i : Nat) (p : Part) : ∃ es, (s.placeValue ref i p).cmds =
    ((s.giveObject ref i).1.modCmd ref fun c => { c with extents := c.extents ++ es }).cmds := by
  unfold State.placeValue State.modCmd
  dsimp only
  rw [placeExtents_cmds]
  exact ⟨_, rfl⟩

/-- The placement of a command's one value gives its part an object identifier and adds to the command's extents; no CSN is
asked for. -/
theorem State.placeValue_onePart {s : State} {ref : Nat} {c : Cmd} {p : Part} (h : s.cmd? ref = some c)
    (hp : c.parts = [p]) (q : Part) :
    (s.placeValue ref 0 q).cmds.nextAsk = s.cmds.nextAsk ∧ ∃ es, (s.placeValue ref 0 q).cmd? ref =
      some { c with parts := [{ p with obj := s.objFor p }], extents := c.extents ++ es } := by
  obtain ⟨next, found⟩ := State.giveObject_onePart h hp
  obtain ⟨es, cmds⟩ := s.placeValue_cmds ref 0 q
  exact ⟨(congrArg Cmds.nextAsk cmds).trans next, es, State.cmd?_of_change (fun c => { c with extents := c.extents ++ es })
    (congrArg Cmds.list cmds) found fun _ => rfl⟩

/-- The value of a decided mutation of one part has arrived: its part has the bytes and an object identifier, and it asks
for its CSN (05 R209, 07 R292). -/
theorem State.valueReceived_onePart {s : State} {ref : Nat} {c : Cmd} {p : Part} (h : s.cmd? ref = some c)
    (hp : c.parts = [p]) (hop : p.op ≠ opObjAppend) (hw : c.phase = .valueWait) (hd : c.decided = true) (bs : Bytes) :
    (s.valueReceived c 0 p bs).Has ref fun d =>
      d.parts = [{ p with value := some (.data bs), obj := s.objFor p }] ∧ d.phase = .csnWait ∧ d.asked = s.cmds.nextAsk := by
  have href := s.cmd?_ref ref c h
  subst href
  have filled := State.cmd?_of_change (t := s.modCmd c.ref fun c => { c with parts := c.parts.modify 0 fun p =>
    { p with value := some (.data bs) } }) _ rfl h fun _ => rfl
  rw [hp] at filled
  obtain ⟨next, es, placed⟩ := State.placeValue_onePart filled rfl p
  rw [State.valueReceived, if_neg (by simpa using hop), hw, hd]
  refine ⟨_, State.cmd?_askCsn placed hd, ?_⟩
  rw [Cmd.afterDecide, if_pos (by simp [Cmd.received, Part.wants]), next]
  exact ⟨rfl, rfl, rfl⟩

/-! ### Staging -/

/-- An account of key usage goes to the partner over the ports alone. -/
theorem State.forwardAccount_keeps (slot : Nat) :
    (s.forwardAccount slot).cmds = s.cmds ∧ (s.forwardAccount slot).time = s.time := by
  unfold State.forwardAccount State.sendPair State.sendOn
  (repeat' split) <;> exact ⟨rfl, rfl⟩

/-- A quantum of key usage is drawn from the vault. -/
theorem State.drawQuantum_keeps (moon slot : Nat) :
    (s.drawQuantum moon slot).cmds = s.cmds ∧ (s.drawQuantum moon slot).time = s.time := by
  unfold State.drawQuantum
  (repeat' split) <;> exact ⟨rfl, rfl⟩

/-- The encryption of an extent draws on the vault; the commands and the clock stay. -/
theorem State.useBlocks_keeps (moon slot blocks : Nat) :
    (s.useBlocks moon slot blocks).cmds = s.cmds ∧ (s.useBlocks moon slot blocks).time = s.time := by
  unfold State.useBlocks
  dsimp only
  split
  · obtain ⟨drawnCmds, drawnTime⟩ := s.drawQuantum_keeps moon slot
    obtain ⟨cmds, time⟩ := (s.drawQuantum moon slot).forwardAccount_keeps slot
    exact ⟨cmds.trans drawnCmds, time.trans drawnTime⟩
  · exact ⟨rfl, rfl⟩

@[simp] theorem State.cacheKeys_cmds (e : Extent) : (s.cacheKeys e).cmds = s.cmds := rfl
@[simp] theorem State.cacheKeys_time (e : Extent) : (s.cacheKeys e).time = s.time := rfl

/-- The moons of an extent hold the keys of its slot. -/
theorem State.mem_cacheKeys (e : Extent) :
    (e.home, e.slot) ∈ (s.cacheKeys e).vault.cached ∧ (e.shadow, e.slot) ∈ (s.cacheKeys e).vault.cached := by
  simp [State.cacheKeys]

@[simp] theorem State.noteStaged_genOf (e : Extent) (gen slot : Nat) : (s.noteStaged e gen).genOf slot = s.genOf slot := rfl

/-- An extent of a command is encrypted, and its moons hold the keys of its slot (14 R533, R540). -/
def State.encrypted (c : Cmd) (e : Extent) : State :=
  (s.useBlocks e.home e.slot (extentBlocks (c.pageOwner e).key (c.pageOwner e).len e)).cacheKeys e

theorem State.encrypted_keeps (c : Cmd) (e : Extent) :
    (s.encrypted c e).cmds = s.cmds ∧ (s.encrypted c e).time = s.time := by
  rw [State.encrypted, State.cacheKeys_cmds, State.cacheKeys_time]
  exact s.useBlocks_keeps _ _ _

/-- A row that names an extent of a command in flight, of a part whose bytes are at hand. -/
theorem State.extentAt_ofCommand {s : State} {ref k : Nat} {c : Cmd} {e : Extent} (h : s.cmd? ref = some c)
    (he : c.extents[k]? = some e) (hw : c.wantsPart e.part = false) :
    s.extentAt ref (.ofCommand k) = some (c.pageOwner e, e) := by
  simp [State.extentAt, h, he, hw]

/-- The note that an extent is staged, in the command that has it (14 R542). -/
theorem State.noteStaged_notes {s : State} {ref k : Nat} {c : Cmd} {e : Extent} (h : s.cmd? ref = some c)
    (he : c.extents[k]? = some e) (gen : Nat) :
    (s.noteStaged e gen).Has ref fun d =>
      d.phase = c.phase ∧ d.extents[k]? = some { e with staged := true, gen := gen, at_ := s.time.now } := by
  refine ⟨_, State.cmd?_of_changeAll _ rfl h fun _ => rfl, rfl, ?_⟩
  simp [mapWhere, he]

/-- A mutation that has not committed is not durable. -/
theorem State.tryDurable_of_uncommitted {s : State} {ref : Nat} {c : Cmd} (h : s.cmd? ref = some c)
    (hc : c.phase ≠ .committed) (w : HostWrite) : s.tryDurable ref w = s := by
  rw [State.tryDurable, h]
  exact if_pos (by simp [Cmd.isDurable, hc])

/-! ### The rows -/

theorem exec_hostAreaReadDone (ref : Nat) (a : HostAreas) (s : State) :
    exec (.hostAreaReadDone ref a) s = execHostAreaReadDone ref a s := rfl
theorem exec_keyLockGrant (ref : Nat) (s : State) : exec (.keyLockGrant ref) s = execKeyLockGrant ref s := rfl
theorem exec_valueFetchDone (ref sub : Nat) (r : HostRead) (s : State) :
    exec (.valueFetchDone ref sub r) s = execValueFetchDone ref sub r s := rfl
theorem exec_extentStaged (ref : Nat) (x : Writing ExtentRef) (s : State) :
    exec (.extentStaged ref x) s = execExtentStaged ref x s := rfl

section
variable {s : State} {ref : Nat} {c : Cmd} (h : s.cmd? ref = some c)
include h

/-- HOST_AREA_READ_DONE of a command whose later checks pass (04 R184). -/
theorem exec_hostAreaReadDone_ready {a : HostAreas} {ps : List Part} (hph : c.phase = .areas)
    (hop : dOpcode c.desc ≠ opComet) (hps : (s.partsFrom c a).parts = .inl ps)
    (hlate : s.lateCheck { c with parts := ps } = none) (hs : s.Settled) :
    exec (.hostAreaReadDone ref a) s = .next ((s.emitAll (s.partsFrom c a).reads).modCmd ref fun c =>
      { c with parts := ps, phase := .ready, late := true }) := by
  have settled : (s.emitAll (s.partsFrom c a).reads).Settled := hs
  rw [exec_hostAreaReadDone, execHostAreaReadDone, h]
  dsimp only
  rw [if_pos (by rw [hph]; rfl), State.areasRead_ready hop hps hlate, s.cmd?_ref ref c h,
    State.settle_of_settled (settled.modCmd ref fun _ => by simp)]

/-- KEY_LOCK_GRANT of a lock request that nothing before it conflicts with (10 R415), and the decision of its mutation. -/
theorem runs_keyLockGrant_clear (hph : c.phase = .lockWait) (hq : s.locks.overflow.any (·.ref == ref) = false)
    (ht : c.lockTodo = []) (hclear : ∀ r ∈ s.locks.rows, r.ref = ref →
      clearOf (s.rowsBefore ref r.part ++ s.locks.rows.filter (·.granted)) r = true)
    (hrows : ∀ i < c.parts.length, ∃ r ∈ s.locks.rows, r.ref = ref ∧ r.part = i) (ho : s.objectEnded c = false)
    (hf : s.decideFailure c = none) :
    Runs (.keyLockGrant ref) s fun t => t.locks.rows = grantRows ref s.locks.rows ∧ t.Has ref fun d =>
      d.locked = true ∧ d.decided = true ∧ d.phase = if c.received then .csnWait else .valueWait := by
  have href := s.cmd?_ref ref c h
  subst href
  have runs : exec (.keyLockGrant c.ref) s = .next ((s.rowsGranted c.ref).afterLocks c.ref) := by
    rw [exec_keyLockGrant, execKeyLockGrant, h]
    simp only [hph, State.leaveLockWait_of_clear h hq ht hclear]
  obtain ⟨locks, has⟩ := State.afterLocks_of_passes (s := s.rowsGranted c.ref) h (State.holdsAll_rowsGranted ht hrows) ho
    ((s.decideFailure_withTable s.cmds (s.rowsGranted c.ref).locks c).trans hf)
  exact ⟨_, runs, congrArg Locks.rows locks, has⟩

/-- KEY_LOCK_GRANT of an ORDERED read whose turn has come (06 R258). -/
theorem exec_keyLockGrant_read (hph : c.phase = .orderWait) (hop : opMutation (dOpcode c.desc) = false)
    (hm : s.mayCommit c = true) : exec (.keyLockGrant ref) s = .next (s.modCmd ref fun c => { c with phase := .ready }) := by
  rw [exec_keyLockGrant, execKeyLockGrant, h]
  simp only [hph, State.leaveOrder_of_read hop hm, s.cmd?_ref ref c h]

/-- VALUE_FETCH_DONE of the one value of a decided mutation (01 R39, 05 R209). -/
theorem runs_valueFetchDone_onePart {p : Part} (hp : c.parts = [p]) (hop : p.op ≠ opObjAppend) (hw : p.wants = true)
    (hph : c.phase = .valueWait) (hd : c.decided = true) (bs : Bytes) :
    Runs (.valueFetchDone ref 0 (.data bs)) s fun t => t.Has ref fun d =>
      d.parts = [{ p with value := some (.data bs), obj := s.objFor p }] ∧ d.phase = .csnWait ∧ d.asked = s.cmds.nextAsk := by
  refine ⟨s.valueReceived c 0 p bs, ?_, State.valueReceived_onePart h hp hop hph hd bs⟩
  rw [exec_valueFetchDone, execValueFetchDone, h]
  have awaits : c.awaitsValue = true := by rw [Cmd.awaitsValue, hph]; rfl
  dsimp only
  rw [hp]
  exact congrArg _ (if_pos (by rw [hw, awaits]; rfl))

/-- EXTENT_STAGED of an extent of a mutation that has not committed (14 R517, R542). -/
theorem runs_extentStaged_uncommitted {k : Nat} {e : Extent} (he : c.extents[k]? = some e) (hst : e.staged = false)
    (hc : c.phase ≠ .committed) (hw : c.wantsPart e.part = false) (w : HostWrite) :
    Runs (.extentStaged ref ⟨.ofCommand k, w⟩) s fun t =>
      (t.Has ref fun d => d.extents[k]? = some { e with staged := true, gen := t.genOf e.slot, at_ := s.time.now }) ∧
        (e.home, e.slot) ∈ t.vault.cached ∧ (e.shadow, e.slot) ∈ t.vault.cached := by
  obtain ⟨cmds, now⟩ := s.encrypted_keeps c e
  have runs : exec (.extentStaged ref ⟨.ofCommand k, w⟩) s =
      .next (((s.encrypted c e).noteStaged e ((s.encrypted c e).genOf e.slot)).tryDurable ref w) := by
    rw [exec_extentStaged, execExtentStaged, State.extentAt_ofCommand h he hw]
    simp only [hst, Bool.false_eq_true, if_false]
    rfl
  have found : (s.encrypted c e).cmd? ref = some c := (State.cmd?_congr (congrArg Cmds.list cmds) ref).trans h
  obtain ⟨d, hd, phase, noted⟩ := State.noteStaged_notes found he ((s.encrypted c e).genOf e.slot)
  rw [State.tryDurable_of_uncommitted hd (phase ▸ hc)] at runs
  refine ⟨_, runs, ⟨d, hd, ?_⟩, State.mem_cacheKeys _ e⟩
  dsimp only
  rw [noted, now, State.noteStaged_genOf]

end

/-- Settles O15: each row by what it does to the command that it names. A waiting lock request is granted because what it is
compared with is granted or stands before it (`State.awaited_subset`). -/
theorem commandsProgress : Obligations.CommandsProgress := by
  unfold Obligations.CommandsProgress
  refine ⟨fun ref c a ps s h hph hop hps hlate hs => exec_hostAreaReadDone_ready h hph hop hps hlate hs,
    fun ref c s h => ⟨?_, exec_keyLockGrant_read h⟩, fun ref c p e bs k w s h => ⟨?_, ?_⟩⟩
  · intro hph hq hrow hclear hrows ho hf
    obtain ⟨r, hr, href⟩ := hrow
    obtain ⟨noneLeft, -⟩ := hclear r hr href
    refine runs_keyLockGrant_clear h hph hq noneLeft (fun r hr href => ?_) hrows ho hf
    obtain ⟨-, -, clear⟩ := hclear r hr href
    exact clear
  · intro hp hop hw hph hd
    have notAppend : p.op ≠ opObjAppend := by
      rcases hop with put | cas
      · rw [put]; decide
      · rw [cas]; decide
    exact runs_valueFetchDone_onePart h hp notAppend hw hph hd bs
  · exact fun he hst hc hw => runs_extentStaged_uncommitted h he hst hc hw w

end Sys2Proof.Machine

/-! SUPPORT and the settlement of O12: the rows of the mutations up to their lock request (05 R191, R195), a lock that no other
command holds (10 R415, R416), and what pre-filtering hides of the Key-Lock Table: nothing that conflicts (10 R394, R395). -/

namespace Sys2Proof.Machine

/-! ### A row whose command is ready -/

/-- The row of a ready command of its form executes it (04 R184). -/
theorem State.withReady_of_ready {s : State} {ref : Nat} {c : Cmd} {p : Bytes → Bool} (h : s.Ready ref c p)
    (k : Cmd → State → State) : s.withReady ref p k = k c (s.passed ref) := by
  obtain ⟨found, ready, form, passes⟩ := h
  rw [State.withReady, found]
  simp only [ready, form, passes]
  rfl

/-- A command whose checks have passed. -/
theorem State.cmd?_passed {s : State} {ref : Nat} {c : Cmd} (h : s.cmd? ref = some c) :
    (s.passed ref).cmd? ref = some { c with late := true } :=
  State.cmd?_of_change (fun c => { c with late := true }) rfl h fun _ => rfl

/-- A row that starts a mutation places what it writes without a value byte, puts out the reads of its values and asks for its
locks. -/
theorem exec_startMutation {i : Instr} {s : State} {ref : Nat} {c : Cmd} {p : Bytes → Bool}
    (hi : exec i s = .next (s.withReady ref p fun c s => s.startMutation c.ref)) (h : s.Ready ref c p) :
    exec i s =
      .next ((((s.passed ref).placeParts c).emitAll (c.parts.flatMap (valueReads c.sid))).askLocks ref) := by
  obtain ⟨found, -⟩ := id h
  rw [hi, State.withReady_of_ready h, s.cmd?_ref ref c found, State.startMutation, State.cmd?_passed found]
  rfl

/-! ### A lock that no one holds -/

/-- The row of a lock request as it is granted at once: in the place that its bank allows (10 R396). -/
def State.grantedRow (s : State) (r : LockRow) : LockRow :=
  { r with row := (placeRow s.lockPlaces (s.lockBanks r.half) r.indexes).getD 0, granted := true }

/-- The table with a row granted at once, and no more changed. -/
def State.withGranted (s : State) (r : LockRow) : State :=
  { s with locks := { s.locks with rows := s.locks.rows ++ [s.grantedRow r] } }

/-- A lock request that has room, no queue before it and no conflict is granted at once (10 R415). -/
theorem State.requestLock_of_clear {s : State} {r : LockRow} (ho : s.locks.overflow = []) (hr : s.roomFor r = true)
    (hc : clearOf s.locks.rows r = true) : s.requestLock r = s.withGranted r := by
  have seen : clearOf (s.lockLookup r) r = true := clearOf_mono hc (s.lockLookup_subset r)
  rw [State.requestLock, if_pos (by rw [hr, ho]; rfl), State.takeRow, seen]
  rfl

/-- The one part of a command is the first whose lock it asks for (10 R417). -/
theorem State.lockOrder_onePart {s : State} {c : Cmd} {p : Part} (hp : c.parts = [p]) : s.lockOrder c = [0] := by
  rw [State.lockOrder, hp]
  rfl

/-- A command of one part whose lock request is granted at once has asked for all its locks. -/
theorem State.requestLocks_onePart {s : State} {ref : Nat} {c : Cmd} {p : Part} (h : s.cmd? ref = some c) (hp : c.parts = [p])
    (ht : c.lockTodo = [0]) (ho : s.locks.overflow = []) (hr : s.roomFor (s.lockRow c 0 p) = true)
    (hc : clearOf s.locks.rows (s.lockRow c 0 p) = true) :
    State.requestLocks 2 ref s = (s.withGranted (s.lockRow c 0 p)).modCmd ref fun c => { c with lockTodo := [] } := by
  have href := s.cmd?_ref ref c h
  have granted : ((s.withGranted (s.lockRow c 0 p)).modCmd ref fun c => { c with lockTodo := [] }).rowGranted ref 0 = true := by
    refine List.any_eq_true.mpr ⟨s.grantedRow (s.lockRow c 0 p), List.mem_append_right _ (List.mem_singleton_self _), ?_⟩
    simp [State.grantedRow, State.lockRow, href]
  have asked : ((s.withGranted (s.lockRow c 0 p)).modCmd ref fun c => { c with lockTodo := [] }).cmd? ref =
      some { c with lockTodo := [] } := State.cmd?_of_change (s := s) (fun c => { c with lockTodo := [] }) rfl h fun _ => rfl
  have first : c.parts[0]? = some p := by rw [hp]; rfl
  rw [State.requestLocks, h]
  dsimp only
  rw [ht]
  dsimp only
  rw [first]
  dsimp only
  rw [State.requestLock_of_clear ho hr hc, granted, if_pos rfl]
  exact State.requestLocks_of_noneLeft asked rfl 1

@[simp] theorem State.askCsn_ns (s : State) (ref : Nat) : (s.askCsn ref).ns = s.ns := by
  unfold State.askCsn
  split
  · rfl
  · split <;> rfl

/-- What stands once a mutation that held all its locks in `s` has passed decide: its growth is reserved, its grant has its
number, and it asks for its CSN or waits for its value (05 R195, 06 R252, 13 R509). -/
theorem State.afterLocks_reserves {s : State} {ref : Nat} {c : Cmd} (h : s.cmd? ref = some c) (hl : s.holdsAll c = true)
    (ho : s.objectEnded c = false) (hf : s.decideFailure c = none) :
    (s.afterLocks ref).ns = ((s.growths c).map reservation).foldl reserve s.ns ∧
      (s.afterLocks ref).Has ref fun d => d.locked = true ∧ d.decided = true ∧ d.order = s.cmds.nextOrd ∧
        d.phase = if c.received then .csnWait else .valueWait := by
  have found := State.cmd?_lockedAll h
  rw [State.afterLocks_of_holdsAll h hl,
    State.decideMutation_of_passes found ho ((s.decideFailure_withTable (s.lockedAll ref).cmds s.locks _).trans hf)]
  refine ⟨State.askCsn_ns _ _, _, State.cmd?_askCsn (State.cmd?_of_change _ rfl found fun _ => rfl) rfl, ?_⟩
  unfold Cmd.afterDecide
  split
  · next received => exact ⟨rfl, rfl, rfl, (if_pos received).symm⟩
  · next awaited => exact ⟨rfl, rfl, rfl, (if_neg awaited).symm⟩

/-- Command `ref` is about to ask for its locks. -/
def State.asking (s : State) (ref : Nat) : State := s.modCmd ref fun c => { c with lockTodo := s.lockOrder c }

/-- Command `ref` has asked for its one lock, which was granted as row `r`. -/
def State.holding (s : State) (ref : Nat) (r : LockRow) : State :=
  ((s.asking ref).withGranted r).modCmd ref fun c => { c with lockTodo := [] }

theorem State.cmd?_holding {s : State} {ref : Nat} {c : Cmd} (h : s.cmd? ref = some c) (r : LockRow) :
    (s.holding ref r).cmd? ref = some { c with lockTodo := [] } :=
  State.cmd?_of_change (s := s.asking ref) (c := { c with lockTodo := s.lockOrder c }) (fun c => { c with lockTodo := [] }) rfl
    (State.cmd?_of_change (fun c => { c with lockTodo := s.lockOrder c }) rfl h fun _ => rfl) fun _ => rfl

/-- A command of one part holds all its locks once its one row is granted. -/
theorem State.holdsAll_holding {s : State} {ref : Nat} {c : Cmd} {p : Part} (hp : c.parts = [p]) :
    (s.holding ref (s.lockRow c 0 p)).holdsAll { c with lockTodo := [] } = true := by
  simp [State.holdsAll, State.rowGranted, State.holding, State.withGranted, State.grantedRow, State.lockRow, hp]

/-- A mutation of one part that nothing hinders obtains its lock at once and is decided with it (05 R191, R195). -/
theorem State.askLocks_of_clear {s : State} {ref : Nat} {c : Cmd} {p : Part} (h : s.cmd? ref = some c) (hp : c.parts = [p])
    (hm : s.mayAsk c = true) (hq : s.locks.overflow = []) (hr : s.roomFor (s.lockRow c 0 p) = true)
    (hc : clearOf s.locks.rows (s.lockRow c 0 p) = true) :
    s.askLocks ref = (s.holding ref (s.lockRow c 0 p)).afterLocks ref := by
  have asking : (s.asking ref).cmd? ref = some { c with lockTodo := s.lockOrder c } :=
    State.cmd?_of_change (fun c => { c with lockTodo := s.lockOrder c }) rfl h fun _ => rfl
  have requests := State.requestLocks_onePart asking hp (State.lockOrder_onePart hp) hq hr hc
  rw [State.askLocks, h]
  dsimp only
  rw [if_pos hm, hp]
  exact congrArg (State.afterLocks · ref) requests

/-- Such a mutation is granted, locked and decided, and asks for its CSN once its value is received (05 R195, 13 R509). -/
theorem State.askLocks_onePart {s : State} {ref : Nat} {c : Cmd} {p : Part} (h : s.cmd? ref = some c) (hp : c.parts = [p])
    (hm : s.mayAsk c = true) (hq : s.locks.overflow = []) (ho : s.objectEnded c = false)
    (hr : s.roomFor (s.lockRow c 0 p) = true) (hc : clearOf s.locks.rows (s.lockRow c 0 p) = true)
    (hf : s.decideFailure c = none) :
    (s.askLocks ref).locks.rows = s.locks.rows ++ [s.grantedRow (s.lockRow c 0 p)] ∧
      (s.askLocks ref).ns = ((s.growths c).map reservation).foldl reserve s.ns ∧
      (s.askLocks ref).Has ref fun d => d.locked = true ∧ d.decided = true ∧ d.order = s.cmds.nextOrd ∧
        d.phase = if c.received then .csnWait else .valueWait := by
  have found := State.cmd?_holding h (s.lockRow c 0 p)
  have holdsAll := State.holdsAll_holding (s := s) (ref := ref) hp
  have passes : (s.holding ref (s.lockRow c 0 p)).decideFailure { c with lockTodo := [] } = none :=
    (s.decideFailure_withTable _ _ { c with lockTodo := [] }).trans hf
  obtain ⟨locks, -⟩ := State.afterLocks_of_passes found holdsAll ho passes
  have reserves := State.afterLocks_reserves found holdsAll ho passes
  rw [State.askLocks_of_clear h hp hm hq hr hc]
  exact ⟨congrArg Locks.rows locks, reserves⟩

/-! ### Pre-filtering -/

/-- A row that stands in the table sets the bits of its indexes in the tag of its bank (10 R394). -/
theorem State.enabled_of_mem {s : State} {r : LockRow} {b : Nat} (hr : r ∈ s.locks.rows) (hb : b ∈ r.indexes) :
    enabled s.lockPlaces b r.row = true := by
  refine List.any_eq_true.mpr ⟨{ row := r.row, idx := r.indexes }, List.mem_map_of_mem hr, ?_⟩
  simp [hb]

/-- A row that conflicts with a point lookup has the lookup's pre-filter index: a range row has every index, a point row
conflicts only with its own fingerprint (10 Table 10.2, Table 10.11). -/
theorem LockRow.index_of_conflict {r q : LockRow} (hq : q.range = false) (h : conflict r q = true) :
    q.fp / 64 % 8 ∈ r.indexes := by
  unfold LockRow.indexes
  split
  · exact List.mem_range.mpr (Nat.mod_lt _ (by decide))
  · next point =>
    have same : r.fp = q.fp := by
      rw [conflict, Bool.and_eq_true, Bool.eq_false_iff.mpr point, hq] at h
      simpa using h.2
    rw [same]
    exact List.mem_singleton_self _

/-- A point lookup sees every row that conflicts with it (10 R395). -/
theorem State.filter_lockLookup {s : State} {q : LockRow} (hq : q.range = false) :
    (s.lockLookup q).filter (fun r => r.granted && conflict r q) =
      s.locks.rows.filter fun r => r.granted && conflict r q := by
  rw [State.lockLookup, hq, if_neg Bool.false_ne_true, List.filter_filter]
  refine List.filter_congr fun r hr => ?_
  cases conflicts : conflict r q with
  | false => simp
  | true => simp [State.enabled_of_mem hr (LockRow.index_of_conflict hq conflicts)]

/-- Settles O12: the rows through `exec_startMutation`, the free lock through `State.askLocks_onePart`, and pre-filtering
through `State.filter_lockLookup`. -/
theorem mutationsStartAndDecide : Obligations.MutationsStartAndDecide := by
  unfold Obligations.MutationsStartAndDecide
  refine ⟨fun ref c s => ⟨?put, ?delete, ?cas, ?batch, ?deleteRange⟩,
    fun ref c p s h hp hm hq ho hr hc hf => State.askLocks_onePart h hp hm hq ho hr hc hf,
    fun nsid key s => congrArg (List.map LockRow.ref) (State.filter_lockLookup (q := readRow nsid key) rfl)⟩
  case put => exact exec_startMutation (i := .kvPut ref) rfl
  case delete => exact exec_startMutation (i := .kvDelete ref) rfl
  case cas => exact exec_startMutation (i := .kvCas ref) rfl
  case batch => exact exec_startMutation (i := .kvBatch ref) rfl
  case deleteRange => exact exec_startMutation (i := .kvDeleteRange ref) rfl

end Sys2Proof.Machine

/-! SUPPORT and the settlement of O14: the turn of an object command (05 R223, R226) and what it starts, and the end of an
object session (05 R228). A command that takes its turn leaves none waiting for one: no update on the way makes a command wait
for its turn, as `State.Settled.startMutation` shows. -/

namespace Sys2Proof.Machine

variable {s : State} {ref : Nat} {c : Cmd} {o : ObjSession}

/-! ### The commands before a command -/

/-- A change of command `ref` leaves what stands before it in a list of commands. -/
theorem takeWhile_mapWhere (ref : Nat) {f : Cmd → Cmd} (hf : ∀ d, (f d).ref = d.ref) (l : List Cmd) :
    (mapWhere (·.ref == ref) f l).takeWhile (·.ref != ref) = l.takeWhile (·.ref != ref) := by
  induction l with
  | nil => rfl
  | cons d l ih =>
    rw [mapWhere, List.map_cons]
    by_cases mine : d.ref = ref
    · rw [if_pos (by simpa using mine), List.takeWhile_cons_of_neg (by simpa [hf] using mine),
        List.takeWhile_cons_of_neg (by simpa using mine)]
    · rw [if_neg (by simpa using mine), List.takeWhile_cons_of_pos (by simpa using mine),
        List.takeWhile_cons_of_pos (by simpa using mine)]
      exact congrArg (d :: ·) ih

/-- A change of a command that keeps its ring leaves the commands before it in its ring. -/
theorem State.earlier_modCmd (c : Cmd) {f : Cmd → Cmd} (hf : ∀ d, (f d).ref = d.ref ∧ (f d).sid = d.sid ∧ (f d).ring = d.ring) :
    (s.modCmd c.ref f).earlier c = s.earlier c := by
  have ring : (s.modCmd c.ref f).ringCmds c.sid c.ring = mapWhere (·.ref == c.ref) f (s.ringCmds c.sid c.ring) := by
    unfold State.ringCmds State.modCmd mapWhere
    rw [List.filter_map]
    refine congrArg (List.map _) (List.filter_congr fun d _ => ?_)
    obtain ⟨-, sid, ring⟩ := hf d
    rw [Function.comp_apply]
    split
    · rw [sid, ring]
    · rfl
  rw [State.earlier, ring, takeWhile_mapWhere c.ref fun d => (hf d).1, State.earlier]

/-- Whether the commands before it on its ORDERED ring have reached their commit points does not depend on a command itself. -/
theorem State.mayCommit_modCmd (c : Cmd) {f : Cmd → Cmd} (hf : ∀ d, (f d).ref = d.ref ∧ (f d).sid = d.sid ∧ (f d).ring = d.ring) :
    (s.modCmd c.ref f).mayCommit c = s.mayCommit c := by
  rw [State.mayCommit, State.earlier_modCmd c hf]
  rfl

/-- The note that its checks have passed does not change the turn of a command. -/
theorem State.mayCommit_passed (h : s.cmd? ref = some c) : (s.passed ref).mayCommit c = s.mayCommit c := by
  rw [← s.cmd?_ref ref c h]
  exact State.mayCommit_modCmd c fun _ => ⟨rfl, rfl, rfl⟩

/-! ### No command waits for its turn -/

theorem State.Settled.congr {t : State} (h : s.Settled) (e : t.cmds.list = s.cmds.list) : t.Settled := by
  rw [State.Settled, e]
  exact h

/-- Commands that are changed one by one, into none that waits for its turn. -/
theorem State.Settled.map {t : State} (h : s.Settled) {f : Cmd → Cmd} (e : t.cmds.list = s.cmds.list.map f)
    (hf : ∀ d, d.phase ≠ .turnWait → (f d).phase ≠ .turnWait) : t.Settled := by
  rw [State.Settled, e]
  intro d hd
  obtain ⟨b, hb, rfl⟩ := List.mem_map.mp hd
  exact hf b (h b hb)

/-- A change of one command that keeps its phase. -/
theorem State.Settled.modCmd_keeps (h : s.Settled) {f : Cmd → Cmd} (hf : ∀ d, (f d).phase = d.phase) :
    (s.modCmd ref f).Settled := by
  refine h.map rfl fun d hd => ?_
  split
  · rw [hf]; exact hd
  · exact hd

theorem State.Settled.placeValue (h : s.Settled) (ref i : Nat) (p : Part) : (s.placeValue ref i p).Settled := by
  obtain ⟨es, placed⟩ := s.placeValue_cmds ref i p
  have given : (s.giveObject ref i).1.Settled := by
    unfold State.giveObject
    split
    · exact h
    · split
      · exact h
      · exact h.modCmd_keeps fun _ => rfl
  exact given.modCmd_keeps (f := fun c => { c with extents := c.extents ++ es }) (fun _ => rfl) |>.congr
    (congrArg Cmds.list placed)

theorem State.Settled.placeParts (h : s.Settled) (c : Cmd) : (s.placeParts c).Settled :=
  List.foldlRecOn _ _ (motive := State.Settled) h fun _ ht p _ => ht.placeValue c.ref p.1 p.2

theorem State.requestLock_cmds (s : State) (r : LockRow) : (s.requestLock r).cmds = s.cmds := by
  unfold State.requestLock
  split <;> rfl

theorem State.Settled.requestLocks (h : s.Settled) (fuel ref : Nat) : (State.requestLocks fuel ref s).Settled := by
  induction fuel generalizing s with
  | zero => exact h
  | succ n ih =>
    have asked (r : LockRow) (todo : List Nat) :
        ((s.requestLock r).modCmd ref fun c => { c with lockTodo := todo }).Settled :=
      (h.congr (congrArg Cmds.list (s.requestLock_cmds r))).modCmd_keeps fun _ => rfl
    unfold State.requestLocks
    split
    · exact h
    · split
      · exact h
      · split
        · exact h
        · dsimp only
          split
          · exact ih (asked _ _)
          · exact (asked _ _).congr rfl

theorem State.sendPair_cmds (s : State) (kind : Nat) (body : Bytes) : (s.sendPair kind body).cmds = s.cmds := by
  unfold State.sendPair State.sendOn
  (repeat' split) <;> rfl

theorem State.forwardSession_cmds (s : State) (c : Cmd) : (s.forwardSession c).cmds = s.cmds := by
  unfold State.forwardSession
  split
  · split
    · exact State.sendPair_cmds _ _ _
    · rfl
  · rfl

theorem State.Settled.undo (h : s.Settled) (c : Cmd) : (s.undo c).Settled := by
  unfold State.undo
  split
  · exact h
  · refine State.Settled.modCmd_keeps (State.Settled.congr h ?_) fun _ => rfl
    rw [State.releaseReserved_cmds, State.dropExtents_cmds, State.releaseLocks_cmds]

theorem State.Settled.fix (h : s.Settled) (ref : Nat) (k : Comp) : (s.fix ref k).Settled := by
  unfold State.fix
  split
  · exact h
  · next c _ =>
    have fixed := (h.undo c).modCmd ref (f := fun c => { c with
      phase := .finished, done := some k, hold := s.mirroring, ended := s.cmds.nextEnd }) fun _ => by simp
    refine State.Settled.congr ?_ (congrArg Cmds.list (State.forwardSession_cmds _ c))
    split
    · rw [State.Settled, State.sendPair_cmds]
      exact fixed
    · exact fixed

theorem State.writeComp_cmds (s : State) (c : Cmd) (k : Comp) : (s.writeComp c k).cmds = s.cmds := by
  unfold State.writeComp
  split
  · rfl
  · dsimp only
    split <;> rfl

theorem State.Settled.flushRing (h : s.Settled) (fuel sid ring : Nat) : (State.flushRing fuel sid ring s).Settled := by
  induction fuel generalizing s with
  | zero => exact h
  | succ n ih =>
    unfold State.flushRing
    split
    · exact h
    · next c _ =>
      refine ih fun d hd => h d ?_
      have kept := (List.mem_filter.mp hd).1
      rwa [State.writeComp_cmds] at kept

theorem State.Settled.releaseFences (h : s.Settled) (sid ring : Nat) : (s.releaseFences sid ring).Settled := by
  refine h.map rfl fun d hd => ?_
  split
  · dsimp only
    split <;> simp
  · exact hd

/-- The end of a command makes none wait for its turn. -/
theorem State.Settled.finish (h : s.Settled) (ref : Nat) (k : Comp) : (s.finish ref k).Settled := by
  unfold State.finish
  split
  · exact h
  · exact ((h.fix ref k).flushRing _ _ _).releaseFences _ _

theorem State.Settled.askCsn (h : s.Settled) (ref : Nat) : (s.askCsn ref).Settled := by
  unfold State.askCsn
  split
  · exact h
  · split
    · exact (h.modCmd ref (f := fun c => { c with phase := .csnWait, asked := s.cmds.nextAsk }) fun _ => by simp).congr rfl
    · exact h.modCmd ref fun _ => by simp

theorem State.Settled.decideMutation (h : s.Settled) (ref : Nat) : (s.decideMutation ref).Settled := by
  unfold State.decideMutation
  split
  · exact h
  · split
    · exact h.finish _ _
    · split
      · unfold State.failDecide
        have failed := h.finish
        dsimp only
        split
        · split
          · exact (failed _ _).congr (by rw [State.endObjects_cmds])
          · exact failed _ _
        · exact failed _ _
      · refine State.Settled.askCsn (State.Settled.modCmd_keeps ?_ fun _ => ?_) ref
        · exact h
        · rfl

theorem State.Settled.numberGrant (h : s.Settled) (ref : Nat) : (s.numberGrant ref).Settled :=
  (h.modCmd_keeps (f := fun c => { c with order := s.cmds.nextOrd }) fun _ => rfl).congr rfl

theorem State.Settled.afterLocks (h : s.Settled) (ref : Nat) : (s.afterLocks ref).Settled := by
  unfold State.afterLocks
  split
  · exact h
  · split
    · refine State.Settled.decideMutation (State.Settled.numberGrant (State.Settled.modCmd_keeps h fun _ => ?_) ref) ref
      rfl
    · exact h.modCmd ref fun _ => by simp

/-- The start of a mutation makes no command wait for its turn. -/
theorem State.Settled.startMutation (h : s.Settled) (ref : Nat) : (s.startMutation ref).Settled := by
  unfold State.startMutation
  split
  · exact h
  · next c _ =>
    have placed : ((s.placeParts c).emitAll (c.parts.flatMap (valueReads c.sid))).Settled := (h.placeParts c).congr rfl
    unfold State.askLocks
    split
    · exact placed
    · split
      · refine State.Settled.afterLocks (State.Settled.requestLocks (State.Settled.modCmd_keeps placed fun _ => ?_) _ _) _
        rfl
      · exact placed.modCmd ref fun _ => by simp

/-! ### The turn of an object command -/

/-- A command that does not wait for its turn takes none. -/
theorem State.Settled.takeTurn (h : s.Settled) (ref : Nat) : s.takeTurn ref = s := by
  unfold State.takeTurn
  split
  · rfl
  · next c found => exact if_pos (by simpa using h c (List.mem_of_find?_eq_some found))

/-- Command `ref` waits for its turn, and no other does. -/
structure State.WaitsAlone (s : State) (ref : Nat) (c : Cmd) : Prop where
  found : s.cmd? ref = some c
  waits : c.phase = .turnWait
  alone : ∀ d ∈ s.cmds.list, d.phase = .turnWait → d.ref = ref

/-- The one command that waits for its turn takes it, after which none waits. -/
theorem State.WaitsAlone.settle (h : s.WaitsAlone ref c) (ht : (s.takeTurn ref).Settled) : s.settle = s.takeTurn ref := by
  have refs : ∀ r ∈ (s.cmds.list.filter (·.phase == .turnWait)).map (·.ref), r = ref := by
    intro r hr
    obtain ⟨d, hd, rfl⟩ := List.mem_map.mp hr
    obtain ⟨hin, phase⟩ := List.mem_filter.mp hd
    exact h.alone d hin (by simpa using phase)
  have mine : c ∈ s.cmds.list.filter (·.phase == .turnWait) :=
    List.mem_filter.mpr ⟨List.mem_of_find?_eq_some h.found, by simp [h.waits]⟩
  rw [State.settle]
  generalize hl : (s.cmds.list.filter (·.phase == .turnWait)).map (·.ref) = l at refs
  cases l with
  | nil => exact absurd (hl ▸ List.mem_map_of_mem (f := Cmd.ref) mine) List.not_mem_nil
  | cons r l =>
    rw [List.foldl_cons, refs r List.mem_cons_self]
    refine List.foldlRecOn l _ (motive := fun t => t = s.takeTurn ref) rfl fun t same r _ => ?_
    rw [same]
    exact ht.takeTurn r

/-- A change of the one command that waits for its turn, which ends the wait. -/
theorem State.WaitsAlone.modCmd (h : s.WaitsAlone ref c) {f : Cmd → Cmd} (hf : ∀ d, (f d).phase ≠ .turnWait) :
    (s.modCmd ref f).Settled := by
  intro d hd
  obtain ⟨b, hb, rfl⟩ := List.mem_map.mp hd
  split
  · exact hf b
  · next other => exact fun phase => other (by simpa using h.alone b hb phase)

/-- An APPEND whose turn it is, and that quota and space allow, reads its bytes (05 R223, R224). -/
theorem State.takeTurn_append (h : s.WaitsAlone ref c) (ho : c.obj.bind s.object? = some o) (hop : dOpcode c.desc = opObjAppend)
    (hr : s.receiving o.handle = false) (hs : s.sealing o.handle = false) (hm : s.mayCommit c = true)
    (hat : dArg32 c.desc = o.bytes.length) (hq : s.overQuota [(o.nsid, s.appendGrowth o (dValueLen c.desc))] = false)
    (hn : s.noSpace [(o.nsid, s.appendGrowth o (dValueLen c.desc))] = false) :
    s.takeTurn ref =
      (s.emitAll (c.parts.flatMap (valueReads c.sid))).modCmd ref fun c => { c with phase := .valueWait } := by
  have notSeal : (dOpcode c.desc == opObjSeal) = false := by rw [hop]; decide
  rw [State.takeTurn, h.found]
  simp only [h.waits, ho, notSeal, hr, hs, hm, hat, State.startAppend, hq, hn, s.cmd?_ref ref c h.found]
  simp

/-- The command of a seal at its turn: the object's bytes are its value, its extents stand with it (05 R226). -/
def Cmd.sealing (o : ObjSession) (c : Cmd) : Cmd :=
  { c.takeExtents o with phase := .lockWait, parts := c.parts.map (sealPart o) }

/-- A seal whose turn it is starts as a mutation of the whole object (05 R226). -/
theorem State.takeTurn_seal (h : s.WaitsAlone ref c) (ho : c.obj.bind s.object? = some o) (hop : dOpcode c.desc = opObjSeal)
    (ha : s.appendsBefore c = false) : s.takeTurn ref = (s.modCmd ref (Cmd.sealing o)).startMutation ref := by
  rw [State.takeTurn, h.found]
  simp only [h.waits, ho, hop, ha]
  rfl

/-! ### The rows -/

theorem exec_kvObjBegin (ref : Nat) (s : State) : exec (.kvObjBegin ref) s = execKvObjBegin ref s := rfl
theorem exec_kvObjAppend (ref : Nat) (s : State) : exec (.kvObjAppend ref) s = execKvObjAppend ref s := rfl
theorem exec_kvObjSeal (ref : Nat) (s : State) : exec (.kvObjSeal ref) s = execKvObjSeal ref s := rfl
theorem exec_appendWaitTimeout (ref : Nat) (s : State) :
    exec (.appendWaitTimeout ref) s = execAppendWaitTimeout ref s := rfl
theorem exec_objectSessionExpire (obj : Nat) (s : State) :
    exec (.objectSessionExpire obj) s = execObjectSessionExpire obj s := rfl
theorem exec_unknownOpcode (ref : Nat) (s : State) : exec (.unknownOpcode ref) s = execUnknownOpcode ref s := rfl

/-! ### KV_OBJ_APPEND and KV_OBJ_SEAL -/

/-- An object command whose checks have passed, as it waits for its turn, with the namespace and the key of its object (05
R223). -/
def Cmd.forObject (o : ObjSession) (c : Cmd) : Cmd :=
  { c with late := true, phase := .turnWait, obj := some o.handle
           parts := c.parts.map fun p => { p with nsid := o.nsid, key := o.key } }

/-- The state in which an object command waits for its turn. -/
def State.queued (s : State) (ref : Nat) (o : ObjSession) : State := s.modCmd ref (Cmd.forObject o)

/-- The commands once an object command waits for its turn: itself, and the others as they were. -/
theorem State.mem_queued {d : Cmd} (hd : d ∈ (s.queued ref o).cmds.list) :
    d.phase = .turnWait ∧ d.ref = ref ∨ d ∈ s.cmds.list := by
  obtain ⟨b, hb, rfl⟩ := List.mem_map.mp hd
  split
  · next mine => exact .inl ⟨rfl, by simpa [Cmd.forObject] using mine⟩
  · exact .inr hb

/-- Before an object command waits for its turn, none did. -/
theorem State.waitsAlone_queued (h : s.cmd? ref = some c) (hs : s.Settled) (o : ObjSession) :
    (s.queued ref o).WaitsAlone ref (Cmd.forObject o c) where
  found := State.cmd?_of_change (Cmd.forObject o) rfl h fun _ => rfl
  waits := rfl
  alone d hd phase := by
    rcases State.mem_queued hd with ⟨-, mine⟩ | other
    · exact mine
    · exact absurd phase (hs d other)

/-- What no command of the state is, and none that waits for its turn, none is once one more waits. -/
theorem State.any_queued {p : Cmd → Bool} (hp : ∀ d, d.phase = .turnWait → p d = false) (h : s.cmds.list.any p = false) :
    (s.queued ref o).cmds.list.any p = false := by
  refine List.any_eq_false.mpr fun d hd => ?_
  rcases State.mem_queued hd with ⟨phase, -⟩ | other
  · simp [hp d phase]
  · exact List.any_eq_false.mp h d other

/-- An object found by its handle has it. -/
theorem State.object?_handle {n : Nat} (h : s.object? n = some o) : o.handle = n := by
  simpa using List.find?_some h

/-- The object of a command that waits for its turn is found again. -/
theorem State.object?_queued {n : Nat} (h : s.object? n = some o) :
    (Cmd.forObject o c).obj.bind (s.queued ref o).object? = some o := by
  rw [← State.object?_handle h] at h
  exact h

/-- A change of a command together with the note that its checks have passed. -/
theorem State.modCmd_passed (s : State) (ref : Nat) (f : Cmd → Cmd) :
    (s.passed ref).modCmd ref f = s.modCmd ref fun c => f { c with late := true } := by
  unfold State.passed State.modCmd mapWhere
  dsimp only
  rw [List.map_map]
  congr 3
  funext d
  by_cases mine : d.ref = ref <;> simp [mine]

/-- The row of an object command whose object is found: the command waits for its turn, and what waits takes its turn. -/
theorem objectBody_of_found (h : s.cmd? ref = some c) (ho : s.object? (dArg64 c.desc) = some o) :
    objectBody c (s.passed ref) = (s.queued ref o).settle := by
  have found : (s.passed ref).object? (dArg64 c.desc) = some o := ho
  rw [objectBody, found, s.cmd?_ref ref c h]
  dsimp only
  rw [State.modCmd_passed]
  rfl

/-- KV_OBJ_APPEND of the chunk that comes next, with no other one being received and no seal under way (05 R223, R224). -/
theorem runs_kvObjAppend {p : Part} (h : s.Ready ref c (isOp opObjAppend)) (hp : c.parts = [p]) (hm : s.mayCommit c = true)
    (ho : s.object? (dArg64 c.desc) = some o) (hs : s.Settled) (hr : s.receiving o.handle = false)
    (hl : s.sealing o.handle = false) (hat : dArg32 c.desc = o.bytes.length)
    (hq : s.overQuota [(o.nsid, s.appendGrowth o (dValueLen c.desc))] = false)
    (hn : s.noSpace [(o.nsid, s.appendGrowth o (dValueLen c.desc))] = false) :
    Runs (.kvObjAppend ref) s fun t =>
      t.out = s.out ++ valueReads c.sid { p with nsid := o.nsid, key := o.key } ∧ t.kv = s.kv ∧
        t.Has ref fun d => d.phase = .valueWait ∧ d.obj = some o.handle := by
  obtain ⟨found, -, form, -⟩ := id h
  have href := s.cmd?_ref ref c found
  subst href
  have waits := State.waitsAlone_queued found hs o
  have mayCommit : (s.queued c.ref o).mayCommit (Cmd.forObject o c) = true :=
    (State.mayCommit_modCmd c (f := Cmd.forObject o) fun _ => ⟨rfl, rfl, rfl⟩).trans hm
  have turn := State.takeTurn_append waits (State.object?_queued ho) (by simpa [isOp, Cmd.forObject] using form)
    (State.any_queued (by simp +contextual) hr) (State.any_queued (by simp +contextual) hl) mayCommit hat hq hn
  have settled : ((s.queued c.ref o).takeTurn c.ref).Settled := by
    rw [turn]
    exact (waits.modCmd (f := fun c => { c with phase := .valueWait }) fun _ => by simp).congr rfl
  refine ⟨(s.queued c.ref o).takeTurn c.ref, ?_, ?_⟩
  · rw [exec_kvObjAppend, execKvObjAppend, State.withReady_of_ready h, objectBody_of_found found ho, waits.settle settled]
  · rw [turn]
    refine ⟨?_, rfl, _, State.cmd?_of_change (s := s.queued c.ref o) _ rfl waits.found fun _ => rfl, rfl, rfl⟩
    simp [Cmd.forObject, hp, State.queued, State.modCmd]

/-- KV_OBJ_SEAL with no APPEND of its object before it (05 R226). -/
theorem runs_kvObjSeal {p : Part} (h : s.Ready ref c (isOp opObjSeal)) (hp : c.parts = [p])
    (ho : s.object? (dArg64 c.desc) = some o) (hs : s.Settled) (ha : s.appendsBefore c = false) :
    Runs (.kvObjSeal ref) s fun t => ∃ u : State,
      t = u.startMutation ref ∧ u.kv = s.kv ∧ u.out = s.out ∧ u.Has ref fun d => d.obj = some o.handle ∧
        d.parts = [sealPart o { p with nsid := o.nsid, key := o.key }] ∧
          d.extents = o.extents.map fun e => { e with ofObj := true } := by
  obtain ⟨found, -, form, -⟩ := id h
  have href := s.cmd?_ref ref c found
  subst href
  have waits := State.waitsAlone_queued found hs o
  have noAppend : (s.queued c.ref o).appendsBefore (Cmd.forObject o c) = false := by
    rw [State.appendsBefore, State.queued, State.modCmd]
    refine (congrArg (List.any · _) (takeWhile_mapWhere c.ref (f := Cmd.forObject o) (fun _ => rfl) _)).trans ha
  have turn := State.takeTurn_seal waits (State.object?_queued ho) (by simpa [isOp, Cmd.forObject] using form) noAppend
  have settled : ((s.queued c.ref o).takeTurn c.ref).Settled := by
    rw [turn]
    exact (waits.modCmd (f := Cmd.sealing o) fun _ => by simp [Cmd.sealing]).startMutation _
  refine ⟨_, ?_, _, turn, rfl, rfl, _, State.cmd?_of_change _ rfl waits.found fun _ => rfl, rfl, ?_, rfl⟩
  · rw [exec_kvObjSeal, execKvObjSeal, State.withReady_of_ready h, objectBody_of_found found ho, waits.settle settled]
  · simp [Cmd.sealing, Cmd.forObject, hp]

/-! ### KV_OBJ_BEGIN -/

/-- The handle that the next object session gets (05 R220). -/
def State.newObject (s : State) : Nat :=
  unusedFrom (s.kv.objects.map (·.handle)) (2 ^ 64) (s.kv.objects.length + 1) (Config.objectHandle s.fresh).toNat

/-- KV_OBJ_BEGIN within the limits of 05 R221: the object session has its handle, and the command completes with it. -/
theorem completes_kvObjBegin {p : Part} (h : s.Ready ref c (isOp opObjBegin)) (hp : c.parts = [p])
    (hm : s.mayCommit c = true) (hmine : (s.kv.objects.filter (·.sid == c.sid)).length < 1024)
    (hall : s.kv.objects.length < 262144) :
    Completes (.kvObjBegin ref) s ref { status := .ok, result := s.newObject } fun t =>
      t.kv = { s.kv with objects := s.kv.objects ++ [{ handle := s.newObject, sid := c.sid, nsid := dNsid c.desc, key := p.key,
                                                       noDigest := fNoDigest (dFlags c.desc) }] } := by
  obtain ⟨found, -⟩ := id h
  have room : ¬(decide (1024 ≤ ((s.passed ref).kv.objects.filter (·.sid == c.sid)).length) ||
      decide (262144 ≤ (s.passed ref).kv.objects.length)) = true := by
    simpa using ⟨hmine, hall⟩
  rw [Completes, exec_kvObjBegin, execKvObjBegin, State.withReady_of_ready h, beginBody, State.mayCommit_passed found, hm,
    if_neg (by simp), if_neg room, hp, s.cmd?_ref ref c found]
  exact ⟨_, rfl, rfl⟩

/-! ### Ends -/

/-- The object sessions that are selected end; the store keeps the others, and everything else but the media (05 R228). -/
theorem State.endObjects_kv (s : State) (p : ObjSession → Bool) :
    (s.endObjects p).kv = { s.kv with objects := s.kv.objects.filter fun o => !p o } := by
  unfold State.endObjects
  dsimp only
  rw [foldl_keeps State.kv (fun s (o : ObjSession) => s.dropExtents o.extents o.token) fun s o =>
    State.dropExtents_kv s o.extents o.token]

/-- OBJECT_SESSION_EXPIRE of an object for which no command is in flight (05 R228). -/
theorem runs_objectSessionExpire {obj : Nat} (h : ∀ d ∈ s.cmds.list, d.obj = some obj → d.phase = .finished) :
    Runs (.objectSessionExpire obj) s fun t =>
      t = { s with kv := { s.kv with objects := t.kv.objects }, media := t.media, fresh := t.fresh } ∧
        t.kv.objects = s.kv.objects.filter fun x => x.handle != obj := by
  have idle : (s.cmds.list.any fun c => c.obj == some obj && c.phase != .finished) = false :=
    List.any_eq_false.mpr fun d hd => by simpa using h d hd
  have kept := s.endObjects_kv (·.handle == obj)
  refine ⟨s.endObjects (·.handle == obj), ?_, ?_, congrArg Store.objects kept⟩
  · rw [exec_objectSessionExpire, execObjectSessionExpire, idle]
    rfl
  · obtain ⟨n, m, k, ended⟩ := s.endObjects_eq (·.handle == obj)
    rw [ended] at kept ⊢
    dsimp only at kept ⊢
    rw [kept]

/-- APPEND_WAIT_TIMEOUT of an APPEND beyond the count of its object (05 R223). -/
theorem exec_appendWaitTimeout_beyond (h : s.cmd? ref = some c) (hph : c.phase = .turnWait)
    (hop : dOpcode c.desc = opObjAppend) (ho : c.obj.bind s.object? = some o) (hat : o.bytes.length < dArg32 c.desc) :
    exec (.appendWaitTimeout ref) s = .next ((s.finish ref (Comp.denied 7)).settle) := by
  rw [exec_appendWaitTimeout, execAppendWaitTimeout, h]
  simp [hph, ho, hat, isOp, hop]

/-- UNKNOWN_OPCODE (04 R171). -/
theorem exec_unknownOpcode_denied (h : s.cmd? ref = some c) (hph : c.phase = .unknown) :
    exec (.unknownOpcode ref) s = .next (s.finish ref (Comp.denied 1)) := by
  rw [exec_unknownOpcode, execUnknownOpcode, h]
  simp [hph]

/-- Settles O14: each row by what it does to the command or the object session that it names. -/
theorem objectCommandsRun : Obligations.ObjectCommandsRun := by
  unfold Obligations.ObjectCommandsRun
  refine ⟨fun ref c p o s hp hm => ⟨fun h hmine hall => completes_kvObjBegin h hp hm hmine hall, fun ho hs => ⟨?append, ?sealed⟩⟩,
    fun ref obj c o s => ⟨fun h hph hop ho hat => exec_appendWaitTimeout_beyond h hph hop ho hat, runs_objectSessionExpire⟩,
    fun ref c s h hph => exec_unknownOpcode_denied h hph⟩
  case append => exact fun h hr hl hat hq hn => runs_kvObjAppend h hp hm ho hs hr hl hat hq hn
  case sealed => exact fun h ha => runs_kvObjSeal h hp ho hs ha

end Sys2Proof.Machine

/-! SUPPORT and the refutation of O13: a degraded read whose relocation takes the last spare block. The page that failed moves
(08 R339), a moon without a free block takes the place from its spare pool (09 R361), the reserve is then 0 and asks for
CUSTODY (09 R365), the primary in step hands over (02 R55), and the versions that only a pin kept go with the pins (06 R270).
So this read does not keep the store as it was. -/

namespace Sys2Proof.Machine

/-! ### What the end of a read leaves of the store -/

theorem State.toHost_kv (s : State) (sid : Nat) (o : Output) : (s.toHost sid o).kv = s.kv := by
  unfold State.toHost
  split
  · rfl
  · split <;> rfl

theorem State.deliver_kv (s : State) (c : Cmd) (v : Version) : (s.deliver c v).kv = s.kv := by
  unfold State.deliver State.writePieces
  exact foldl_keeps State.kv _ (fun s _ => s.toHost_kv _ _) _ s

theorem State.sendPair_kv (s : State) (kind : Nat) (body : Bytes) : (s.sendPair kind body).kv = s.kv := by
  unfold State.sendPair State.sendOn
  (repeat' split) <;> rfl

theorem State.undo_kv (s : State) (c : Cmd) : (s.undo c).kv = s.kv := by
  unfold State.undo
  split
  · rfl
  · simp

theorem State.forwardSession_kv (s : State) (c : Cmd) : (s.forwardSession c).kv = s.kv := by
  unfold State.forwardSession
  split
  · split
    · exact s.sendPair_kv _ _
    · rfl
  · rfl

theorem State.fix_kv (s : State) (ref : Nat) (k : Comp) : (s.fix ref k).kv = s.kv := by
  unfold State.fix
  split
  · rfl
  · next c _ =>
    rw [State.forwardSession_kv]
    split
    · rw [State.sendPair_kv]
      exact s.undo_kv c
    · exact s.undo_kv c

theorem State.writeComp_kv (s : State) (c : Cmd) (k : Comp) : (s.writeComp c k).kv = s.kv := by
  unfold State.writeComp
  split
  · rfl
  · dsimp only
    split <;> rfl

theorem State.flushRing_kv (fuel sid ring : Nat) (s : State) : (State.flushRing fuel sid ring s).kv = s.kv := by
  induction fuel generalizing s with
  | zero => rfl
  | succ n ih =>
    unfold State.flushRing
    split
    · rfl
    · exact (ih _).trans (s.writeComp_kv _ _)

/-- The end of a command leaves the store. -/
theorem State.finish_kv (s : State) (ref : Nat) (k : Comp) : (s.finish ref k).kv = s.kv := by
  unfold State.finish
  split
  · rfl
  · exact (State.flushRing_kv _ _ _ _).trans (s.fix_kv ref k)

theorem State.eraseBlocks_kv (s : State) (ids : List BlockId) : (s.eraseBlocks ids).kv = s.kv := by
  unfold State.eraseBlocks
  refine foldl_keeps State.kv _ (fun s i => ?_) ids s
  dsimp only
  split <;> rfl

theorem State.eraseLeft_kv (s : State) : s.eraseLeft.kv = s.kv := by
  unfold State.eraseLeft
  exact foldl_keeps State.kv State.eraseBand (fun s b => State.eraseBlocks_kv _ b.blocks) _ s

/-- A read whose pages are read, and whose host takes the value, leaves the store. -/
theorem State.pagesGot_kv (s : State) (c : Cmd) (v : Version) (deg : Bool) : (s.pagesGot c v deg .acked).kv = s.kv := by
  unfold State.pagesGot State.toHostOr
  split
  · rfl
  · split
    · exact s.finish_kv _ _
    · dsimp only
      split
      · exact (s.refresh c.sid).deliver_kv c v
      · exact (State.finish_kv _ _ _).trans ((s.refresh c.sid).deliver_kv c v)

/-- A degraded read of pages in QLC leaves of the store what the relocation left. -/
theorem State.pagesRead_kv {s : State} {c : Cmd} {v : Version} (ho : s.outcomeOf c v .degraded = .degraded)
    (hq : s.qlcChunks v (readSpan c.desc v).1 (readSpan c.desc v).2 ≠ []) :
    (s.pagesRead c v .degraded .acked).kv = s.kv := by
  unfold State.pagesRead
  rw [ho]
  dsimp only
  rw [if_neg (by simpa using hq)]
  exact s.pagesGot_kv c v true

/-- PAGE_READ_DONE of a command whose pages are being read (08 R339). -/
theorem exec_pageReadDone {s : State} {c : Cmd} {v : Version} {ref : Nat} (h : s.cmd? ref = some c) (hph : c.phase = .pageRead)
    (hv : c.version = some v) (o : PageOutcome) (w : HostWrite) :
    exec (.pageReadDone ref o w) s = .next ((s.pagesTried c v o).pagesRead c v o w).eraseLeft := by
  change execPageReadDone ref o w s = _
  rw [execPageReadDone, h]
  dsimp only
  rw [hph, hv]

/-! ### A relocation that takes a spare block -/

/-- A page that failed is read again, and moves (08 R339). -/
theorem State.rescuePage_of_page {s : State} {v : Version} {off n k : Nat} {p : Page} (hq : s.qlcChunks v off n = [k])
    (hp : s.pageOf (s.stored v) k = some p) (hm : s.mayProgram = true) {t u : State}
    (ht : t = s.draw.retryPage p (rangeCodewords v off n k)) (hu : t.movePage .last none (t.stored v) k = some u) :
    s.rescuePage v off n = u.settleStripes := by
  have which : s.whichPage v [k] = some (k, p) := by simp [State.whichPage, Nat.mod_one, hp]
  subst ht
  rw [State.rescuePage, hq, which]
  dsimp only
  rw [if_pos hm, hu]

/-- A moon without a free block gives a band a block of its spare pool (09 R368). -/
theorem State.bandTakes_spare {s : State} {m : Nat} (h : s.pickBlock m = none) : State.bandTakes .last s m = s.takeSpare m := by
  simp [State.bandTakes, h]

/-- A band that opens with the blocks given. -/
def State.opened (s : State) (n : Nat) (blocks : List BlockId) : State :=
  let s1 := blocks.foldl State.startBlock s
  { s1 with media := { s1.media with
      bands := s1.media.bands ++ [{ num := n, blocks := blocks, narrow := decide (blocks.length < 8) }], filling := n } }

/-- On the only moon in service, without a free block, a band opens with a spare block. -/
theorem State.openBand_spare {s : State} {m : Nat} {r : State × BlockId} (hin : s.moonsIn = [m]) (hp : s.pickBlock m = none)
    (hr : s.takeSpare m = some r) (n : Nat) : s.openBand .last n = some (r.1.opened n [r.2]) := by
  simp [State.openBand, hin, State.bandTakes_spare hp, hr, State.opened]

/-- Where no band is being filled, a place lies in a band that opens. -/
theorem State.placeFor_opened {s t : State} {m : Nat} {d : Nat × Nat} (hin : s.moonsIn = [m])
    (hb : s.band? s.media.filling = none) (ho : s.openBand .last s.media.filling = some t) (hd : t.freePlace [m] = some d) :
    s.placeFor .last none m = some (t, d) := by
  simp [State.placeFor, State.targetBand, hin, hb, ho, hd]

/-- Where every QLC block of the one die that is left lies in a band, a moon has no fresh block. -/
theorem State.freshBlock_none {s : State} {m d : Nat}
    (hd : ((List.range 512).filter fun d => !((s.media.moons[m]?).map fun m => m.dieGone d).getD true) = [d])
    (hb : ∀ k < 17702, { moon := m, die := d, block := 610 + k } ∈ s.bandBlocks) : s.freshBlock m = none := by
  unfold State.freshBlock
  dsimp only
  rw [hd, List.find?_eq_none]
  intro i hi
  obtain ⟨k, -, hk⟩ := List.mem_filterMap.mp hi
  obtain ⟨e, he, rfl⟩ := Option.map_eq_some_iff.mp hk
  obtain rfl : e = d := by simpa using List.mem_of_getElem? he
  simp [hb (k % 17702) (Nat.mod_lt _ (by decide))]

/-- A moon without a fresh block, whose listed blocks all lie in bands, has no free block. -/
theorem State.pickBlock_none {s : State} {m : Nat} (hf : s.freshBlock m = none)
    (hb : ∀ b ∈ s.media.blocks, b.id ∈ s.bandBlocks) : s.pickBlock m = none := by
  have none_free : s.freeBlocks m = [] := by
    unfold State.freeBlocks
    rw [hf, Option.map_none, Option.toList_none, List.append_nil]
    exact List.filter_eq_nil_iff.mpr fun b h => by simp [hb b h]
  rw [State.pickBlock, none_free, List.foldl_nil]

theorem State.readFlash_bands (s : State) (p : Page) (cws : List Nat) (retry : Bool) :
    (s.readFlash p cws retry).media.bands = s.media.bands := rfl

/-- Reading a page again and again leaves the bands. -/
theorem State.retryPage_bands (s : State) (p : Page) (cws : List Nat) : (s.retryPage p cws).media.bands = s.media.bands := by
  unfold State.retryPage State.readAround
  exact (foldl_keeps (fun s => s.media.bands) _ (fun s q => s.readFlash_bands q cws false) _ _).trans
    (foldl_keeps (fun s => s.media.bands) _ (fun s _ => s.readFlash_bands p cws true) _ s)

/-! ### The counterexample -/

namespace LastSpare

/-- A version that has been replaced: only a pin keeps it. -/
def replaced : Version :=
  { nsid := 3, key := [7], csn := 1, value := some [1, 2, 3, 4], durable := true, place := .qlc, objId := 4, folded := [1536], gens := [1] }

/-- The newest version of its key. -/
def current : Version := { replaced with csn := 2, objId := 5 }

/-- A KV_GET of four bytes that reads the pages of the newest version. -/
def getValue : Cmd :=
  { ref := 0, sid := 0, ring := 1, count := 0, desc := toLe 1 1 ++ zeros 55 ++ toLe 4 4 ++ zeros 4, phase := .pageRead,
    version := some current }

/-- The page of the newest version, which fails. -/
def page : Page :=
  { block := { moon := 0, die := 0, block := 610 }, index := 0, obj := 5, header := { kind := .qlcPack, stripe := 1536 } }

/-- Every QLC block of die 0 of moon 0 (08 R324, 09 R360). -/
@[irreducible] def dieBlocks : List BlockId := (List.range 17702).map fun k => { moon := 0, die := 0, block := 610 + k }

theorem mem_dieBlocks {k : Nat} (hk : k < 17702) : { moon := 0, die := 0, block := 610 + k } ∈ dieBlocks := by
  unfold dieBlocks
  exact List.mem_map.mpr ⟨k, List.mem_range.mpr hk, rfl⟩

/-- The one band holds all of them: the moon has no free block (09 R368). -/
def band : Band := { num := 1, blocks := dieBlocks }

/-- Die 0 is the one die left of moon 0, and the next spare block that the moon gives brings its reserve to 0 % (09 R362). -/
def moon : Moon := { diesLost := (List.range 8).tail, chansLost := (List.range 64).tail, sparesUsed := 929617 }

/-- A PRIMARY in step, with moon 0 alone in service, and a pin that keeps the replaced version. -/
def start : State := { State.reset with
  power := { step := 12 }
  mode := { mode := .primary }
  pair := { inStep := true }
  sess := { sessions := [{ sid := 0, cls := .live, role := 3, rings := [{ idx := 1 }] }] }
  cmds := { list := [getValue], nextRef := 1 }
  kv := { versions := [replaced, current], pins := [{ csn := 1, lifetime := 1440, linger := 60 }] }
  media := { moons := moon :: List.replicate 7 { inService := false }, bands := [band], pages := [page] } }

/-- The page has been read again seven times. -/
@[irreducible] def reread : State := start.draw.retryPage page (rangeCodewords current 0 4 0)

theorem reread_eq : reread = start.draw.retryPage page (rangeCodewords current 0 4 0) := by
  unfold reread
  rfl

theorem readSpan_getValue : readSpan getValue.desc current = (0, 4) := by decide +kernel
theorem qlcChunks_start : start.qlcChunks current 0 4 = [0] := by decide +kernel
theorem pageOf_start : start.pageOf (start.stored current) 0 = some page := by decide +kernel
theorem polls_start : start.polls getValue.sid = true := by decide +kernel
theorem mayProgram_start : start.mayProgram = true := by decide +kernel
theorem stored_reread : reread.stored current = current := by decide +kernel
theorem pageOf_reread : reread.pageOf current 0 = some page := by decide +kernel
theorem moonsIn_reread : reread.moonsIn = [0] := by decide +kernel
theorem noBand_reread : reread.band? reread.media.filling = none := by decide +kernel
theorem filling_reread : reread.media.filling = 0 := by decide +kernel

theorem diesLeft_reread :
    ((List.range 512).filter fun d => !((reread.media.moons[0]?).map fun m => m.dieGone d).getD true) = [0] := by
  decide +kernel

theorem mem_bandBlocks_reread {k : Nat} (hk : k < 17702) : { moon := 0, die := 0, block := 610 + k } ∈ reread.bandBlocks := by
  refine List.mem_flatMap.mpr ⟨band, ?_, mem_dieBlocks hk⟩
  rw [reread_eq, State.retryPage_bands]
  exact List.mem_singleton_self band

/-- The one block that the module has noted down is the page's. -/
theorem blocks_reread : reread.media.blocks.map (·.id) = [page.block] := by decide +kernel

theorem pickBlock_reread : reread.pickBlock 0 = none := by
  refine State.pickBlock_none (State.freshBlock_none diesLeft_reread fun k hk => mem_bandBlocks_reread hk) fun b hb => ?_
  have mem := List.mem_map_of_mem (f := Block.id) hb
  rw [blocks_reread, List.mem_singleton] at mem
  rw [mem]
  exact mem_bandBlocks_reread (k := 0) (by decide)

theorem spare_isSome : (reread.takeSpare 0).isSome = true := by decide +kernel

/-- The state in which the spare block has been taken, and that block. -/
def spare : State × BlockId := (reread.takeSpare 0).get spare_isSome

theorem takeSpare_reread : reread.takeSpare 0 = some spare := (Option.some_get spare_isSome).symm

/-- The state in which a band has opened with the spare block. -/
def withBand : State := spare.1.opened 0 [spare.2]

theorem freePlace_withBand : withBand.freePlace [0] = some (1, 0) := by decide +kernel

theorem placeFor_reread : reread.placeFor .last none 0 = some (withBand, 1, 0) := by
  refine State.placeFor_opened moonsIn_reread noBand_reread ?_ freePlace_withBand
  rw [filling_reread]
  exact State.openBand_spare moonsIn_reread pickBlock_reread takeSpare_reread 0

/-- The read goes on as a degraded one of a page in QLC, and the store has one version. -/
def OneVersionLeft (u : State) : Prop :=
  u.outcomeOf getValue current .degraded = .degraded ∧ u.qlcChunks current 0 4 ≠ [] ∧ u.kv.versions.length = 1

theorem movePage_reread : ∃ u, reread.movePage .last none current 0 = some u ∧ OneVersionLeft u.settleStripes := by
  have place : reread.placeFor .last none (((some page).map (·.block.moon)).getD current.home) = some (withBand, 1, 0) :=
    placeFor_reread
  rw [State.movePage, pageOf_reread, place, Option.map_some]
  exact ⟨_, rfl, by unfold OneVersionLeft; decide +kernel⟩

theorem oneVersionLeft_pagesTried : OneVersionLeft (start.pagesTried getValue current .degraded) := by
  obtain ⟨u, moves, left⟩ := movePage_reread
  rw [State.pagesTried, readSpan_getValue]
  rw [← stored_reread] at moves
  rwa [State.rescuePage_of_page qlcChunks_start pageOf_start mayProgram_start reread_eq moves]

end LastSpare

open LastSpare in
/-- Refutes O13: the degraded read of `LastSpare.start` takes the last spare block for its page, the module hands over to its
partner, and the replaced version, which only a pin kept, leaves the store. The clause of the rebuilt page says that it stays. -/
theorem not_readsRunToTheirEnd : ¬ Obligations.ReadsRunToTheirEnd := by
  unfold Obligations.ReadsRunToTheirEnd
  rintro ⟨-, -, -, data⟩
  obtain ⟨degraded, inQlc, one⟩ := oneVersionLeft_pagesTried
  obtain ⟨served, -⟩ := data 0 getValue current start rfl rfl polls_start
  obtain ⟨-, rebuilt⟩ := served rfl (by decide)
  obtain ⟨t, runs, kept⟩ := rebuilt degraded (by rwa [readSpan_getValue])
  rw [exec_pageReadDone rfl rfl rfl] at runs
  have store : (start.pagesTried getValue current .degraded).kv = t.kv := by
    have left := congrArg State.kv (Host.Outcome.next.inj runs)
    rwa [State.eraseLeft_kv, State.eraseLeft_kv, State.finish_kv, State.deliver_kv,
      State.pagesRead_kv degraded (by rwa [readSpan_getValue])] at left
  rw [← store] at kept
  have two := congrArg List.length kept
  rw [List.length_map, List.length_map, one] at two
  exact absurd two (by decide)

end Sys2Proof.Machine

/-! SUPPORT and the refutation of O54. The work of a band is listed from the versions themselves, but each move looks its version
up again by namespace, key and CSN (`State.stored`). Of two versions that agree in all three the lookup finds the first; when
only the second lies in the band, no page of the band moves, and the band counts as emptied. The statement does not ask that
the versions of its state differ in key or CSN. -/

namespace Sys2Proof.Machine

/-! ### A band none of whose work the store finds there -/

/-- A page whose version the store has elsewhere does not move. -/
theorem State.moveFrom_elsewhere {s : State} {n : Nat} {w : Version × Nat} (use : SpareUse)
    (h : bandOf ((s.stored w.1).folded.getD w.2 0) ≠ n) : State.moveFrom use n s w = some s :=
  if_neg h

/-- Steps that change nothing end where they began, and none of them finds no free block. -/
theorem moveEach_idle {α : Type} {step : State → α → Option State} {s : State} {work : List α}
    (h : ∀ w ∈ work, step s w = some s) : moveEach step s work = (s, true) := by
  refine List.foldlRecOn work _ (motive := fun st => st = (s, true)) rfl fun st hst w hw => ?_
  subst hst
  simp [h w hw]

/-- A band without map pages, all of whose versions the store finds elsewhere, counts as emptied with no page moved. -/
theorem State.emptyBand_elsewhere {s : State} {n : Nat} (use : SpareUse) (hmaps : s.bandMaps n = [])
    (h : ∀ w ∈ s.bandWork n, bandOf ((s.stored w.1).folded.getD w.2 0) ≠ n) : s.emptyBand use n = (s, true) := by
  have moved : moveEach (State.moveFrom use n) s (s.bandWork n) = (s, true) :=
    moveEach_idle fun w hw => State.moveFrom_elsewhere use (h w hw)
  rw [State.emptyBand, moved, hmaps]
  rfl

/-! ### The counterexample -/

namespace TwoOfOneCsn

/-- A version whose value is still in SLC. -/
def unfolded : Version :=
  { nsid := 3, key := [7], csn := 1, value := some [1, 2, 3, 4], durable := true, place := .slc, objId := 4, gens := [1] }

/-- Another version of the same key and CSN, whose page lies in band 1. -/
def folded : Version := { unfolded with place := .qlc, objId := 5, folded := [1536] }

/-- The page of the folded version. -/
def page : Page :=
  { block := { moon := 0, die := 0, block := 610 }, index := 0, obj := 5, header := { kind := .qlcPack, stripe := 1536 } }

/-- Band 1, closed, with a block of each moon. -/
def band : Band := { num := 1, blocks := (List.range 8).map fun m => { moon := m, die := 0, block := 610 } }

/-- A running module in SOLO, with both versions and with band 1 as its only band. -/
def start : State := { State.reset with
  power := { step := 12 }
  mode := { mode := .solo }
  kv := { versions := [unfolded, folded] }
  media := { State.reset.media with bands := [band], pages := [page] } }

theorem band?_start : start.band? 1 = some band := by decide +kernel

/-- Band 1 is the victim of garbage collection. -/
theorem collects_start : start.mayProgram = true ∧ (band.due ≠ 0 ∨ start.isVictim band = true) ∧
    (band.due = 2 ∨ start.suspended band = false) := by
  decide +kernel

theorem bandWork_start : start.bandWork 1 = [(folded, 0)] := by decide +kernel
theorem bandMaps_start : start.bandMaps 1 = [] := by decide +kernel

/-- By its key and CSN the store finds the other version. -/
theorem stored_folded : start.stored folded = unfolded := by decide +kernel

/-- So band 1 counts as emptied. -/
theorem emptyBand_start : start.emptyBand .never 1 = (start, true) := by
  refine State.emptyBand_elsewhere .never bandMaps_start fun w hw => ?_
  rw [bandWork_start, List.mem_singleton] at hw
  rw [hw, stored_folded]
  decide

/-- GARBAGE_COLLECTION relocates band 1 and reclaims SLC pages (08 R337). -/
theorem exec_garbageCollection_start : exec (.garbageCollection 1) start = .next
    ((start.relocate .never band).releaseSlc fun p => !State.pageValid (start.relocate .never band) p) := by
  change execGarbageCollection 1 start = _
  rw [execGarbageCollection, band?_start]
  exact congrArg Host.Outcome.next (if_neg (by decide +kernel))

/-- The folded version still names its stripe of band 1. -/
theorem folded_mem_collected {t : State} (h : exec (.garbageCollection 1) start = .next t) : folded ∈ t.kv.versions := by
  rw [exec_garbageCollection_start] at h
  obtain rfl := Host.Outcome.next.inj h
  decide +kernel

end TwoOfOneCsn

open TwoOfOneCsn in
/-- Refutes O54: in `TwoOfOneCsn.start` garbage collection finds nothing of band 1 to move, because the lookup by key and CSN
answers the version that is not in it. The band counts as emptied, and the version that lies in it still names a stripe of it. -/
theorem not_mediaWorkKeepsTheData : ¬ Obligations.MediaWorkKeepsTheData := by
  unfold Obligations.MediaWorkKeepsTheData
  rintro ⟨-, relocation⟩
  obtain ⟨collects, -⟩ := relocation 1 page.block band start band?_start
  obtain ⟨t, runs, -, -, moved⟩ := collects collects_start
  obtain ⟨-, emptied⟩ := moved rfl
  obtain ⟨outside, -⟩ := emptied (congrArg Prod.snd emptyBand_start) (.inl rfl)
  have stays := List.all_eq_true.mp outside folded (folded_mem_collected runs)
  exact absurd stays (by decide)

end Sys2Proof.Machine
